-- ==== Sys2Proof/Word.lean ====
section
/-! DEFINITION. The word type of the links (a byte) and the small fixed families the part is built of:
three axes, three links, six filtered inputs, four event lines, and pairs of AZ and EL. -/

namespace Sys2Proof

/-- One byte of a link (R180). -/
abbrev Byte := BitVec 8

/-- The three axes (00_scope.md, Introduction). -/
inductive Axis where
  | az | el | rot
deriving DecidableEq, Repr

/-- One value for each axis. -/
structure Axes (α : Type) where
  az : α
  el : α
  rot : α
deriving DecidableEq, Repr

/-- The value of one axis. -/
def Axes.get {α : Type} (x : Axes α) : Axis → α
  | .az => x.az
  | .el => x.el
  | .rot => x.rot

/-- The same values with one axis replaced. -/
def Axes.set {α : Type} (x : Axes α) (ax : Axis) (v : α) : Axes α :=
  match ax with
  | .az => { x with az := v }
  | .el => { x with el := v }
  | .rot => { x with rot := v }

/-- One value for each axis, from a function of the axis. -/
def Axes.of {α : Type} (f : Axis → α) : Axes α := ⟨f .az, f .el, f .rot⟩

/-- The same value on every axis. -/
def Axes.const {α : Type} (v : α) : Axes α := ⟨v, v, v⟩

/-- A function applied on every axis. -/
def Axes.map {α β : Type} (f : α → β) (x : Axes α) : Axes β := ⟨f x.az, f x.el, f x.rot⟩

/-- A function of two values applied on every axis. -/
def Axes.map₂ {α β γ : Type} (f : α → β → γ) (x : Axes α) (y : Axes β) : Axes γ :=
  ⟨f x.az y.az, f x.el y.el, f x.rot y.rot⟩

/-- A test that holds on every axis. -/
def Axes.all {α : Type} (p : α → Bool) (x : Axes α) : Bool := p x.az && p x.el && p x.rot

/-- A test that holds on at least one axis. -/
def Axes.any {α : Type} (p : α → Bool) (x : Axes α) : Bool := p x.az || p x.el || p x.rot

/-- A value for AZ and one for EL: a guide correction, the guide offset, a model correction. -/
structure AzEl (α : Type) where
  az : α
  el : α
deriving DecidableEq, Repr

/-- A function applied to both halves. -/
def AzEl.map {α β : Type} (f : α → β) (x : AzEl α) : AzEl β := ⟨f x.az, f x.el⟩

/-- A function of two values applied to both halves. -/
def AzEl.map₂ {α β γ : Type} (f : α → β → γ) (x : AzEl α) (y : AzEl β) : AzEl γ :=
  ⟨f x.az y.az, f x.el y.el⟩

/-- The three links (11_link_frames_and_request_reference.md). -/
inductive Link where
  | schedule | guide | enclosure
deriving DecidableEq, Repr

/-- One value for each link. -/
structure Links (α : Type) where
  schedule : α
  guide : α
  enclosure : α
deriving DecidableEq, Repr

/-- The value of one link. -/
def Links.get {α : Type} (x : Links α) : Link → α
  | .schedule => x.schedule
  | .guide => x.guide
  | .enclosure => x.enclosure

/-- The same values with one link replaced. -/
def Links.set {α : Type} (x : Links α) (l : Link) (v : α) : Links α :=
  match l with
  | .schedule => { x with schedule := v }
  | .guide => { x with guide := v }
  | .enclosure => { x with enclosure := v }

/-- A function applied on every link. -/
def Links.map {α β : Type} (f : α → β) (x : Links α) : Links β :=
  ⟨f x.schedule, f x.guide, f x.enclosure⟩

/-- A function of two values applied on every link. -/
def Links.map₂ {α β γ : Type} (f : α → β → γ) (x : Links α) (y : Links β) : Links γ :=
  ⟨f x.schedule y.schedule, f x.guide y.guide, f x.enclosure y.enclosure⟩

/-- The six filtered inputs (R154). -/
inductive Input where
  | driveFaultAz | driveFaultEl | driveFaultRot | limitSwitch | instHold | shelter
deriving DecidableEq, Repr

/-- One value for each filtered input. -/
structure Inputs (α : Type) where
  driveFaultAz : α
  driveFaultEl : α
  driveFaultRot : α
  limitSwitch : α
  instHold : α
  shelter : α
deriving DecidableEq, Repr

/-- The value of one input. -/
def Inputs.get {α : Type} (x : Inputs α) : Input → α
  | .driveFaultAz => x.driveFaultAz
  | .driveFaultEl => x.driveFaultEl
  | .driveFaultRot => x.driveFaultRot
  | .limitSwitch => x.limitSwitch
  | .instHold => x.instHold
  | .shelter => x.shelter

/-- The same values with one input replaced. -/
def Inputs.set {α : Type} (x : Inputs α) (i : Input) (v : α) : Inputs α :=
  match i with
  | .driveFaultAz => { x with driveFaultAz := v }
  | .driveFaultEl => { x with driveFaultEl := v }
  | .driveFaultRot => { x with driveFaultRot := v }
  | .limitSwitch => { x with limitSwitch := v }
  | .instHold => { x with instHold := v }
  | .shelter => { x with shelter := v }

/-- The same value on every input. -/
def Inputs.const {α : Type} (v : α) : Inputs α := ⟨v, v, v, v, v, v⟩

/-- A function applied on every input. -/
def Inputs.map {α β : Type} (f : α → β) (x : Inputs α) : Inputs β :=
  ⟨f x.driveFaultAz, f x.driveFaultEl, f x.driveFaultRot, f x.limitSwitch, f x.instHold, f x.shelter⟩

/-- The four event lines (R160). -/
inductive LineId where
  | ev0 | ev1 | ev2 | ev3
deriving DecidableEq, Repr

/-- One value for each event line. -/
structure Lines (α : Type) where
  ev0 : α
  ev1 : α
  ev2 : α
  ev3 : α
deriving DecidableEq, Repr

/-- The value of one event line. -/
def Lines.get {α : Type} (x : Lines α) : LineId → α
  | .ev0 => x.ev0
  | .ev1 => x.ev1
  | .ev2 => x.ev2
  | .ev3 => x.ev3

/-- The same values with one event line replaced. -/
def Lines.set {α : Type} (x : Lines α) (l : LineId) (v : α) : Lines α :=
  match l with
  | .ev0 => { x with ev0 := v }
  | .ev1 => { x with ev1 := v }
  | .ev2 => { x with ev2 := v }
  | .ev3 => { x with ev3 := v }

/-- A function applied on every event line. -/
def Lines.map {α β : Type} (f : α → β) (x : Lines α) : Lines β :=
  ⟨f x.ev0, f x.ev1, f x.ev2, f x.ev3⟩

/-- The same value on every event line. -/
def Lines.const {α : Type} (v : α) : Lines α := ⟨v, v, v, v⟩

end Sys2Proof
end

