-- ==== Sys2Proof/Syntax.lean ====
section
/-! DEFINITION. The commands of the part: one constructor of `Instr` for each row of
spec/opcode_table.json, with the operands the row's rule gives it. A request's fields have the widths
the wire gives them (R186, R188, R189), so every value the wire can carry is a value here. -/

namespace Sys2Proof

/-- A target record as sent (R188, "Target record, in the order sent"). -/
structure TargetRecord where
  id : BitVec 16
  kind : Byte
  presence : Byte
  earliest : Option (BitVec 48)
  latest : Option (BitVec 48)
  dwell : BitVec 32
  maxHold : BitVec 32
  station : Byte
  flags : Byte
  wrap : Byte
  fixedPosition : Option (Axes (BitVec 32))
deriving DecidableEq, Repr

/-- A track segment as sent and as held (R41, and the segment layout before R188). -/
structure Segment where
  t0 : BitVec 48
  len : BitVec 16
  p0 : Axes (BitVec 48)
  v0 : Axes (BitVec 32)
  a : Axes (BitVec 32)
deriving DecidableEq, Repr

/-- The two strap pins of one link, each high or not (R167). -/
structure Straps where
  rate1 : Bool
  rate0 : Bool
deriving DecidableEq, Repr

/-- What makes a break on RX (R180). -/
inductive BreakCause where
  /-- the line was held at the space level for so many bit times -/
  | spaceFor (bitTimes : Nat)
  /-- the stop bit of a byte was found at the space level -/
  | stopBitAtSpace
deriving DecidableEq, Repr

/-- One turn of a demand event, for the orders the spec leaves open: the filter of an input, the
engine's computation, the counting of an event line, the whole-second mark
(R150, R155, R160 to R163, R168, R171). -/
inductive Turn where
  | filter (i : Input)
  | engine
  | line (l : LineId)
  | second
deriving DecidableEq, Repr

/-- The commands, one for each row of the table. -/
inductive Instr where
  /-- POWER_ON (R2), with the strap levels read at power-on (R167). -/
  | powerOn (straps : Links Straps)
  /-- RESET_PIN (R2): RESET_N goes low. -/
  | resetPin
  /-- RESET_PIN_RELEASE (R2), with the strap levels read then (R167). -/
  | resetPinRelease (straps : Links Straps)
  /-- DEMAND_EVENT (R72), with the levels at the six input pins and the order of turns. -/
  | demandEvent (levels : Inputs Bool) (order : List Turn)
  /-- MOUNT_TIME_HOLD (R2). -/
  | mountTimeHold
  /-- PPS_PULSE (R4). -/
  | ppsPulse
  /-- SLEW_CORRECTION (R9). -/
  | slewCorrection
  /-- PULSE_AGE_EXPIRY (R10). -/
  | pulseAgeExpiry
  /-- FRAME_TIMEOUT (R180): a gap of so many microseconds on a link. -/
  | frameTimeout (link : Link) (gap : Nat)
  /-- LINE_BREAK (R180). -/
  | lineBreak (link : Link) (cause : BreakCause)
  /-- REPLY_END (R184). -/
  | replyEnd (link : Link)
  /-- IDENTIFY (R191). -/
  | identify (link : Link)
  /-- NOTICE_READ (R176). -/
  | noticeRead (link : Link)
  /-- NOTICE_ACK (R177). -/
  | noticeAck (link : Link) (kinds : BitVec 16)
  /-- NOTICE_MASK (R178). -/
  | noticeMask (link : Link) (kinds : BitVec 16)
  /-- STATUS (R192). -/
  | status
  /-- GET_TIME (R16). -/
  | getTime
  /-- SET_TIME (R11). -/
  | setTime (time : BitVec 48)
  /-- SET_POSITION (R94). -/
  | setPosition (position : Axes (BitVec 32))
  /-- SET_CONFIG (R190). -/
  | setConfig (code : Byte) (value : BitVec 32)
  /-- GET_CONFIG (R190). -/
  | getConfig (code : Byte)
  /-- SOFT_RESET (R194). -/
  | softReset
  /-- TARGET_APPEND (R33). -/
  | targetAppend (record : TargetRecord)
  /-- TARGET_INSERT (R34). -/
  | targetInsert (named : BitVec 16) (record : TargetRecord)
  /-- TARGET_REMOVE (R35). -/
  | targetRemove (id : BitVec 16)
  /-- LIST_PURGE (R36). -/
  | listPurge
  /-- TARGET_GET (R37). -/
  | targetGet (id : BitVec 16)
  /-- LIST_SUMMARY (R38). -/
  | listSummary
  /-- SEGMENT_APPEND (R51). -/
  | segmentAppend (id : BitVec 16) (segments : List Segment)
  /-- MODEL_SEEK (R66). -/
  | modelSeek (pointer page index : Byte)
  /-- MODEL_WRITE (R67). -/
  | modelWrite (pairs : List (AzEl (BitVec 16)))
  /-- MODEL_READ (R68). -/
  | modelRead (count : Byte)
  /-- NIGHT_START (R100). -/
  | nightStart
  /-- NIGHT_STOP (R101). -/
  | nightStop
  /-- TARGET_ABORT (R102). -/
  | targetAbort (id : BitVec 16)
  /-- PARK (R103). -/
  | park
  /-- OFFSET_SET (R193). -/
  | offsetSet (offset : Axes (BitVec 32))
  /-- EVENT_CONFIG (R164). -/
  | eventConfig (line source mode polarity : Byte) (delay width : BitVec 16)
  /-- EVENT_SET (R165). -/
  | eventSet (line level : Byte)
  /-- EVENT_GET (R165). -/
  | eventGet (line : Byte)
  /-- FAULT_READ (R173). -/
  | faultRead
  /-- FAULT_CLEAR (R174). -/
  | faultClear
  /-- GUIDE_CORRECT (R127). -/
  | guideCorrect (correction : AzEl (BitVec 16))
  /-- GUIDE_STATUS (R137). -/
  | guideStatus
  /-- GUIDE_ZERO (R136). -/
  | guideZero
  /-- ENC_REPORT (R140). -/
  | encReport (slit : BitVec 32) (flag : Byte)
  /-- ENC_STATUS (R144). -/
  | encStatus
  /-- SLEW_TIMEOUT (R111): the demand event at which the slew timer runs out. -/
  | slewTimeout (levels : Inputs Bool) (order : List Turn)
  /-- SETTLE_END (R114): the demand event at which the settle timer runs out. -/
  | settleEnd (levels : Inputs Bool) (order : List Turn)
  /-- DWELL_END (R115): the demand event at which the dwell counter reaches the dwell. -/
  | dwellEnd (levels : Inputs Bool) (order : List Turn)
  /-- HOLD_EXPIRED (R116): the demand event at which the hold counter reaches max hold. -/
  | holdExpired (levels : Inputs Bool) (order : List Turn)
  /-- GUIDE_LOST (R132): the demand event at which the guide timer runs out. -/
  | guideLost (levels : Inputs Bool) (order : List Turn)
  /-- ENC_REPORT_EXPIRY (R142): the demand event at which the report age passes ENC_TIMEOUT. -/
  | encReportExpiry (levels : Inputs Bool) (order : List Turn)
  /-- EVENT_DELAY_EXPIRY (R163): the demand event at which a line's delay timer reaches 0. -/
  | eventDelayExpiry (line : LineId) (levels : Inputs Bool) (order : List Turn)
  /-- EVENT_WIDTH_EXPIRY (R162): the demand event at which a line's width timer reaches 0. -/
  | eventWidthExpiry (line : LineId) (levels : Inputs Bool) (order : List Turn)
  /-- WAITING_SCHEDULE_START (R157). -/
  | waitingScheduleStart (axis : Axis)
  /-- BYTE_RECEIVED (R180). -/
  | byteReceived (link : Link) (byte : Byte)
  /-- STEP_PULSE (R156). -/
  | stepPulse (axis : Axis)
deriving DecidableEq, Repr

end Sys2Proof
end

