-- ==== Sys2Proof/Decode.lean ====
section
/-! DEFINITION. The command a word spells by the bits of spec/opcode_table.json. No row of this part's
table gives bits (every row's "fields" is empty and none has "fixed"), so no word spells a command.
The frames by which masters send their requests are read in Machine/Frames.lean (R180 to R189). -/

namespace Sys2Proof

/-- The command that a word of `nbits` bits spells by the table's bits: none, the table gives none. -/
def decodeTableWord (_nbits _w : Nat) : Option Instr := none

end Sys2Proof
end

