-- ==== Sys2Proof/Machine/Types.lean ====
section
/-! DEFINITION. The plain data the state is made of, block by block, and the replies a port can send. -/

namespace Sys2Proof.Machine

/-! ### Time base (01_mount_time.md) -/

/-- The discipline states (R5 to R7, R10). -/
inductive Discipline where
  | free | acquiring | locked | holdover
deriving DecidableEq, Repr

/-- A slew of mount time in progress (R9). `left` is how many corrections are still to apply,
`events` how many demand events there have been since the pulse that started it. -/
structure Slew where
  remove : Bool
  size : Nat
  left : Nat
  events : Nat
deriving DecidableEq, Repr

/-- The time base's state (01_mount_time.md, table; R17). `eventDue` and `expiryDue` are the model's own
(log entry 5): a demand event is due at this microsecond and not yet wholly taken, or the change of R10 is due
and not yet taken. -/
structure TimeBase where
  mountTime : Nat
  discipline : Discipline
  goodCount : Nat
  pulseAge : Option Nat
  phaseError : Option Int
  slew : Option Slew
  pendingSet : Option Nat
  timeValid : Bool
  spurious : Nat
  eventDue : Bool
  expiryDue : Bool
deriving DecidableEq, Repr

/-! ### Night list (02_the_night_list.md) -/

/-- The kind of a target, with the fixed position of a FIXED one, in counts (R20). -/
inductive TargetKind where
  | track
  | fixed (position : Axes Int)
deriving DecidableEq, Repr

/-- The wrap preferences (R24). -/
inductive WrapPref where
  | auto | low | high
deriving DecidableEq, Repr

/-- A target record as kept in an entry (the table before R19). -/
structure Record where
  id : Nat
  kind : TargetKind
  earliest : Option Nat
  latest : Option Nat
  dwell : Nat
  maxHold : Nat
  station : Bool
  guided : Bool
  guideRequired : Bool
  carryGuide : Bool
  wrap : WrapPref
deriving DecidableEq, Repr

/-- The phases of an ACTIVE entry (R26). -/
inductive Phase where
  | slewing | settling | tracking | holding
deriving DecidableEq, Repr

/-- The twelve outcomes (R29). -/
inductive EndOutcome where
  | complete | released | holdExpired | runout | limit | slewTimeout
  | aborted | late | shelter | fault | stopped | parked
deriving DecidableEq, Repr

/-- The state of an entry, with its phase while ACTIVE and its outcome while ENDED (R25). -/
inductive EntryStatus where
  | pending
  | active (phase : Phase)
  | ended (outcome : EndOutcome)
deriving DecidableEq, Repr

/-- The accumulators of an entry (R31, R32), present from the moment it becomes ACTIVE. -/
structure Tally where
  onTargetMs : Nat
  guideTaken : Nat
  guideMerged : Nat
  guideDiscarded : Nat
  guideSaturations : Nat
  largestLag : Axes Nat
  holdUsed : Nat
deriving DecidableEq, Repr

/-- The results of an entry (the table before R30): a field not reached is absent. -/
structure Results where
  selectedAt : Option Nat
  wrapOffset : Option Int
  capturedAt : Option Nat
  trackingFrom : Option Nat
  endedAt : Option Nat
  tally : Option Tally
deriving DecidableEq, Repr

/-- One entry of the night list with its chain (R18, R42). -/
structure Entry where
  record : Record
  status : EntryStatus
  results : Results
  chain : List Segment
deriving DecidableEq, Repr

/-- The night list: the entries from the head to the tail, and the night flag (R18, R39). -/
structure NightList where
  entries : List Entry
  flag : Bool
deriving DecidableEq, Repr

/-! ### Model table (04_pointing_model_table.md) -/

/-- One correction pair (ΔAZ, ΔEL) as written (R59). -/
abbrev Pair := AzEl (BitVec 16)

/-- A pointer: page 1 or not, and an index (R65). -/
structure Pointer where
  page : Bool
  index : Nat
deriving DecidableEq, Repr

/-- The model table's state (R71). `cells` lists the entries that are not (0, 0) by address
page·128 + index, strictly rising. -/
structure ModelTable where
  cells : List (Nat × Pair)
  writePtr : Pointer
  readPtr : Pointer
  pageInUse : Bool
  last : AzEl Int
deriving DecidableEq, Repr

/-! ### Engine and demand (05_computing_the_demand.md, 06_slews_capture_and_the_target_cycle.md) -/

/-- The eleven engine states by name (06, "Engine states"). -/
inductive EngineState where
  | unset | idle | waiting | slewing | settling | tracking | holding
  | stopping | parking | parked | stopped
deriving DecidableEq, Repr

/-- The stop destinations (R99). -/
inductive StopDest where
  | waiting | idle
deriving DecidableEq, Repr

/-- The engine with what R99 says is present in each of its states: the slew timer and the AZ position
last evaluated (R144), the settle timer, the dwell counter, the stop destination. -/
inductive Engine where
  | unset
  | idle
  | waiting
  | slewing (timer : Nat) (targetAz : Int)
  | settling (timer : Nat)
  | tracking (dwell : Nat)
  | holding (dwell : Nat)
  | stopping (dest : StopDest)
  | parking
  | parked
  | stopped
deriving DecidableEq, Repr

/-- The wait reasons (R99, R105). -/
inductive WaitReason where
  | early | noTrack | nonePending
deriving DecidableEq, Repr

/-- The per-axis quantities (05, table; R97). -/
structure AxisState where
  base : Int
  vel : Int
  wanted : Int
  applied : Int
  host : Int
  demand : Int
  emitted : Int
  lag : Int
deriving DecidableEq, Repr

/-! ### Guide unit (07_guiding.md) -/

/-- The guide states, with the guide timer in GUIDING (R126, R132). -/
inductive GuideState where
  | off
  | seeking
  | guiding (timer : Nat)
  | lost
deriving DecidableEq, Repr

/-- A full mailbox: the correction held and how many were merged into it (R128). -/
structure Mailbox where
  correction : AzEl Int
  merges : Nat
deriving DecidableEq, Repr

/-- The guide unit's state (R139). -/
structure Guide where
  state : GuideState
  mailbox : Option Mailbox
  offset : AzEl Int
deriving DecidableEq, Repr

/-! ### Enclosure unit (08_enclosure_instrument_and_shelter.md) -/

/-- The judged alignment (R142). -/
inductive Alignment where
  | aligned | misaligned | unknown
deriving DecidableEq, Repr

/-- The last report and its age (R140, R141). -/
structure EncReport where
  slit : Nat
  flag : Bool
  age : Nat
deriving DecidableEq, Repr

/-- The enclosure unit's state (R153). -/
structure Enclosure where
  report : Option EncReport
  alignment : Alignment
  shelter : Bool
  parkOwed : Bool
deriving DecidableEq, Repr

/-! ### Drive lines and event outputs (09_drive_lines_and_event_outputs.md) -/

/-- The filter of one input (R154). -/
structure Filter where
  previous : Bool
  level : Bool
deriving DecidableEq, Repr

/-- A count handed over: its direction (increasing or not) and how many pulses (R156). -/
structure StepCount where
  increasing : Bool
  count : Nat
deriving DecidableEq, Repr

/-- A schedule in progress, `elapsed` oscillator microseconds after its start moment (R156). -/
structure Schedule where
  what : StepCount
  elapsed : Nat
deriving DecidableEq, Repr

/-- The step output of one axis (R156, R157, R166). `issued` is the model's own (log entry 17): the net
pulses put out, increasing ones less decreasing ones. -/
structure StepOut where
  schedule : Option Schedule
  waiting : List StepCount
  dirIncreasing : Bool
  stepHigh : Bool
  issued : Int
deriving DecidableEq, Repr

/-- The sources of an event line (R160). -/
inductive Source where
  | second | targetStart | capture | trackStart | onTargetRise | onTargetFall
  | dwellEnd | targetEnd | guideTake | parked | fault
deriving DecidableEq, Repr

/-- The modes of an event line (R162). -/
inductive LineMode where
  | off | manual | pulse | delayed | toggle
deriving DecidableEq, Repr

/-- The phases of an event line (09, table; R163). -/
inductive LinePhase where
  | quiet | delay | active
deriving DecidableEq, Repr

/-- One event line (R160 to R166). `fresh` is the model's own (log entry 5): the timer was set at the very
moment of the demand event that is due or in progress, which therefore does not count it (R161). -/
structure EventLine where
  source : Source
  mode : LineMode
  activeHigh : Bool
  delay : Nat
  width : Nat
  phase : LinePhase
  timer : Option Nat
  output : Bool
  ignored : Nat
  fresh : Bool
deriving DecidableEq, Repr

/-! ### Fault record and notices (10_faults_and_notices.md) -/

/-- The kinds of fault (R168). -/
inductive FaultKind where
  | driveAz | driveEl | driveRot | limitSwitch
deriving DecidableEq, Repr

/-- One fault entry (R169). -/
structure FaultEntry where
  kind : FaultKind
  mountTime : Nat
  engine : EngineState
  target : Option Nat
deriving DecidableEq, Repr

/-- The fault record (R169). -/
structure FaultRecord where
  first : Option FaultEntry
  second : Option FaultEntry
  overflow : Nat
deriving DecidableEq, Repr

/-- A set of the ten notice kinds, one bit for each, at the bit R187's layout gives it. -/
abbrev NoticeSet := BitVec 10

/-- The ten notice kinds, in the order of their bits. -/
inductive Notice where
  | targetStart | targetEnd | onTarget | listEmpty | poolLow
  | guide | shelter | fault | time | night
deriving DecidableEq, Repr

/-- The notice set of one link (R175). -/
structure NoticeBox where
  latched : NoticeSet
  mask : NoticeSet
  attn : Bool
deriving DecidableEq, Repr

/-- The notice sets with the most recent start and end (R175). -/
structure Notices where
  boxes : Links NoticeBox
  recentStart : Option Nat
  recentEnd : Option (Nat × EndOutcome)
deriving DecidableEq, Repr

/-! ### Configuration (R190) -/

/-- The configuration items of the table of R190. -/
inductive Item where
  | lower (ax : Axis)
  | upper (ax : Axis)
  | stepMax (ax : Axis)
  | vmax (ax : Axis)
  | acc (ax : Axis)
  | capturePos
  | captureRate
  | park (ax : Axis)
  | poolLow
  | cstep
  | lagTol
  | slewTimeout
  | settleTime
  | guideStepMax
  | guideRange
  | guideTimeout
  | encTimeout
  | encTol
  | followEnc
deriving DecidableEq, Repr

/-- One value for each item. -/
structure Items (α : Type) where
  lower : Axes α
  upper : Axes α
  stepMax : Axes α
  vmax : Axes α
  acc : Axes α
  capturePos : α
  captureRate : α
  park : Axes α
  poolLow : α
  cstep : α
  lagTol : α
  slewTimeout : α
  settleTime : α
  guideStepMax : α
  guideRange : α
  guideTimeout : α
  encTimeout : α
  encTol : α
  followEnc : α
deriving DecidableEq, Repr

/-! ### Replies and ports (11_link_frames_and_request_reference.md) -/

/-- The status codes (R187). -/
inductive Status where
  | ok | merged | clamped | mergedClamped
  | badCheck | badLength | unknownKind | badValue
  | wrongState | inMotion | unset | stopped | sheltered | noTime
  | notTracking | notGuided | stillActive
  | listFull | poolFull | noSuchTarget | duplicateId | notPending
  | order | align | late
deriving DecidableEq, Repr

/-- What STATUS reports of one axis (R96). -/
structure AxisReport where
  baseCounts : Int
  vel : Int
  wanted : Int
  applied : Int
  host : Int
  demand : Int
  emitted : Int
  lag : Int
deriving DecidableEq, Repr

/-- The fields of a STATUS reply (R192; log entry 18 for the page, the correction and G). -/
structure StatusReport where
  engine : Engine
  waitReason : Option WaitReason
  holdCounter : Option Nat
  activeId : Option Nat
  axes : Axes AxisReport
  nightFlag : Bool
  free : Nat
  inputs : Inputs Bool
  enable : Bool
  onTarget : Bool
  shelter : Bool
  parkOwed : Bool
  discipline : Discipline
  timeValid : Bool
  mountTime : Nat
  pageInUse : Bool
  lastCorrection : AzEl Int
  guideOffset : AzEl Int
deriving DecidableEq, Repr

/-- The fields of a GET_TIME reply (R16). -/
structure TimeReport where
  mountTime : Nat
  discipline : Discipline
  timeValid : Bool
  pendingSet : Option Nat
  goodCount : Nat
  phaseError : Option Int
  spurious : Nat
deriving DecidableEq, Repr

/-- The fields of a TARGET_GET reply (R37). -/
structure TargetReport where
  position : Nat
  record : Record
  status : EntryStatus
  results : Results
  chainLength : Nat
  chainStart : Option Nat
  chainEnd : Option Nat
deriving DecidableEq, Repr

/-- The fields of a LIST_SUMMARY reply (R38). -/
structure SummaryReport where
  nightFlag : Bool
  entries : Nat
  pending : Nat
  active : Nat
  ended : Nat
  activeId : Option Nat
  items : List (Nat × EntryStatus)
deriving DecidableEq, Repr

/-- The fields of a GUIDE_STATUS reply (R137). -/
structure GuideReport where
  state : GuideState
  offset : AzEl Int
  mailbox : Option Mailbox
  activeId : Option Nat
  guided : Option Bool
  onTarget : Bool
  engine : EngineState
  mountTime : Nat
deriving DecidableEq, Repr

/-- The fields of an ENC_STATUS reply (R144). -/
structure EnclosureReport where
  mountAz : Int
  velAz : Int
  destinationAz : Int
  engine : EngineState
  shelter : Bool
  shelterLine : Bool
  shelterFlag : Bool
  parkOwed : Bool
  alignment : Alignment
  report : Option (Nat × Nat)
  mountTime : Nat
deriving DecidableEq, Repr

/-- The fields of an IDENTIFY reply (R191). -/
structure Identity where
  vendor : Nat
  part : Nat
  revision : Nat
  listEntries : Nat
  segmentSlots : Nat
  modelPages : Nat
  pageEntries : Nat
  eventLines : Nat
  badChecks : Nat
  overruns : Nat
  timeouts : Nat
deriving DecidableEq, Repr

/-- The fields a reply carries after its status, for each request whose rule names some. -/
inductive ReplyFields where
  /-- the status alone -/
  | none
  | identity (report : Identity)
  | notices (latched mask : NoticeSet) (recentEnd : Option (Nat × EndOutcome)) (recentStart : Option Nat)
  | latched (latched : NoticeSet)
  | masks (mask latched : NoticeSet)
  | status (report : StatusReport)
  | time (report : TimeReport)
  | configAccepted (code : Byte) (value : Int)
  | configItem (motion : Bool) (inForce : Int) (pending : Option Int)
  | position (position : Nat)
  | removed (released free : Nat)
  | purged (removed remaining : Nat)
  | target (report : TargetReport)
  | summary (report : SummaryReport)
  /-- SEGMENT_APPEND: the chain's length, the free count, the span, and the place that failed -/
  | chain (length free : Nat) (span : Option (Nat × Nat)) (place : Option Nat)
  | pointers (write read : Pointer)
  | writePointer (write : Pointer)
  | modelPairs (start : Pointer) (pairs : List Pair) (pageInUse : Bool) (last : AzEl Int)
  | offsets (host : Axes Int)
  | eventLine (line : EventLine) (pinHigh : Bool)
  | faults (record : FaultRecord) (driveFaults : Axes Bool) (limitSwitch : Bool) (engine : EngineState)
  | correction (mailbox : Option Mailbox) (merges : Nat) (state : GuideState)
  | guide (report : GuideReport)
  | emptied (count : Nat) (state : GuideState)
  | encAccepted (engine : EngineState) (shelter parkOwed : Bool)
  | enclosure (report : EnclosureReport)
deriving DecidableEq, Repr

/-- What a block answers to a request: the status and the fields (R183). -/
structure Answer where
  status : Status
  fields : ReplyFields
deriving DecidableEq, Repr

/-- A reply being sent: its KIND and what the block answered (R183), with the LEN and the CHECK formed over
them (R180, R181). -/
structure Reply where
  kind : Byte
  len : Byte
  check : Byte
  answer : Answer
deriving DecidableEq, Repr

/-- A name that a reply carries in a field of one byte and whose code the spec does not give (log entry 10). -/
inductive ReplyName where
  | engine (state : EngineState)
  | waitReason (reason : WaitReason)
  | stopDestination (dest : StopDest)
  | discipline (state : Discipline)
  /-- an entry's state, with its phase or its outcome: one byte, for 64 of them fit in one reply (R38) -/
  | entry (status : EntryStatus)
  | outcome (outcome : EndOutcome)
  | guide (state : GuideState)
  | alignment (alignment : Alignment)
  | linePhase (phase : LinePhase)
  | faultKind (kind : FaultKind)
  /-- an item's class: MOTION or not (R190) -/
  | itemClass (motion : Bool)
deriving DecidableEq, Repr

/-- The receiver's phase with the frame in assembly (R180). -/
inductive Receiver where
  | hunt
  | length
  | kind (len : Byte)
  | payload (len kind : Byte) (received : List Byte)
  | check (len kind : Byte) (received : List Byte)
deriving DecidableEq, Repr

/-- One link port (11, table; R185). -/
structure Port where
  receiver : Receiver
  /-- oscillator microseconds since the last byte of the frame in assembly, 0 in HUNT (R180; log entry 11) -/
  gap : Nat
  sending : Option Reply
  badChecks : Nat
  overruns : Nat
  timeouts : Nat
  straps : Straps
deriving DecidableEq, Repr

/-! ### Timers that run out -/

/-- The timers whose running out is a row of the table (log entry 4). -/
inductive Expiry where
  | slewTimeout | settleEnd | dwellEnd | holdExpired | guideLost | encReport
  | lineDelay (line : LineId)
  | lineWidth (line : LineId)
deriving DecidableEq, Repr

end Sys2Proof.Machine
end

