-- ==== Sys2Proof/Machine/State.lean ====
section
/-! DEFINITION. The state of the part as plain data, the reasons a step could stop, and the state right
after power-on. -/

namespace Sys2Proof.Machine

/-- The reasons a step can stop with a fault: none. Every rule of the spec gives every command an effect
in every state, so nothing raises a fault and the type has no constructor (safe: there is nothing to
stop on). A fault line of the mount is no fault of this type: it is an event of the part (R168). -/
inductive Fault where
deriving DecidableEq, Repr

/-- The reasons a step can be refused. -/
inductive Refusal where
  /-- Raised by an arm of exec for a command without a meaning. No arm raises it: all 58 rows have
  their meaning. Raising it would be safe (the run stops). -/
  | notModelled (mnemonic : String)
deriving DecidableEq, Repr

/-- The whole part. -/
structure State where
  /-- the commands that wait, first in, first out -/
  pending : List Instr
  /-- RESET_N is low (R2) -/
  resetLow : Bool
  /-- the levels at the six input pins as last shown, true for high (R154, R167) -/
  pins : Inputs Bool
  /-- the time base (R17) -/
  time : TimeBase
  /-- the night list and flag (R18, R39) -/
  night : NightList
  /-- the free count of the segment pool (R42) -/
  free : Nat
  /-- the model table (R71) -/
  model : ModelTable
  /-- the engine state with its timers (R98, R99) -/
  engine : Engine
  /-- the wait reason (R105) -/
  waitReason : Option WaitReason
  /-- the per-axis quantities (R97) -/
  axes : Axes AxisState
  /-- the ON_TARGET level (R147, R159) -/
  onTarget : Bool
  /-- the guide unit (R139) -/
  guide : Guide
  /-- the enclosure unit (R153) -/
  enclosure : Enclosure
  /-- the six input filters (R154) -/
  inputs : Inputs Filter
  /-- the step outputs (R156) -/
  steps : Axes StepOut
  /-- the enable level (R158) -/
  enable : Bool
  /-- the event lines (R166) -/
  lines : Lines EventLine
  /-- the fault record (R169) -/
  faults : FaultRecord
  /-- the notice sets (R179) -/
  notices : Notices
  /-- the link ports (R185) -/
  ports : Links Port
  /-- the configuration values in force (R190) -/
  inForce : Items Int
  /-- the pending configuration values (R190) -/
  pendingItems : Items (Option Int)
  /-- the timers that ran out at the latest demand event: the model's own (log entry 4) -/
  expiries : List Expiry
  /-- how many orders of turns the free value has given: the model's own (log entry 3) -/
  orderDraws : Nat
deriving DecidableEq, Repr

/-! ### Power-on values -/

/-- The time base after power-on (R17). -/
def TimeBase.initial : TimeBase where
  mountTime := 0
  discipline := .free
  goodCount := 0
  pulseAge := none
  phaseError := none
  slew := none
  pendingSet := none
  timeValid := false
  spurious := 0
  eventDue := false
  expiryDue := false

/-- The model table after power-on (R71). -/
def ModelTable.initial : ModelTable where
  cells := []
  writePtr := ⟨false, 0⟩
  readPtr := ⟨false, 0⟩
  pageInUse := false
  last := ⟨0, 0⟩

/-- An axis after power-on (R97). -/
def AxisState.initial : AxisState := ⟨0, 0, 0, 0, 0, 0, 0, 0⟩

/-- The guide unit after each reset (R139). -/
def Guide.initial : Guide := ⟨.off, none, ⟨0, 0⟩⟩

/-- The enclosure unit after power-on (R153). -/
def Enclosure.initial : Enclosure := ⟨none, .unknown, false, false⟩

/-- A step output after power-on (R166). -/
def StepOut.initial : StepOut := ⟨none, [], false, false, 0⟩

/-- An event line after power-on (R166). -/
def EventLine.initial : EventLine where
  source := .second
  mode := .off
  activeHigh := true
  delay := 1
  width := 1
  phase := .quiet
  timer := none
  output := false
  ignored := 0
  fresh := false

/-- The notice sets after power-on, with the default masks (R178, R179): all ten kinds on the schedule
link; TARGET_START, TARGET_END, ON_TARGET on the guide link; TARGET_START, SHELTER, NIGHT on the
enclosure link. -/
def Notices.initial : Notices where
  boxes := ⟨⟨0, 0x3FF, false⟩, ⟨0, 0x007, false⟩, ⟨0, 0x241, false⟩⟩
  recentStart := none
  recentEnd := none

/-- A port after power-on, with the straps as read then (R185). -/
def Port.initial (straps : Straps) : Port := ⟨.hunt, 0, none, 0, 0, 0, straps⟩

/-- The defaults of the configuration items (R57, R82, R86, R89, R90, R113, R122, R138, R143). -/
def Items.defaults : Items Int where
  lower := ⟨-23068672, 233017, -12582912⟩
  upper := ⟨23068672, 4171002, 12582912⟩
  stepMax := ⟨200, 200, 200⟩
  vmax := ⟨140, 100, 200⟩
  acc := ⟨655, 655, 1311⟩
  capturePos := 16
  captureRate := 3277
  park := ⟨0, 4000000, 0⟩
  poolLow := 64
  cstep := 4
  lagTol := 32
  slewTimeout := 300000
  settleTime := 2000
  guideStepMax := 256
  guideRange := 8192
  guideTimeout := 10000
  encTimeout := 5000
  encTol := 93207
  followEnc := 1

/-- The same value for every item. -/
def Items.const {α : Type} (v : α) : Items α where
  lower := .const v
  upper := .const v
  stepMax := .const v
  vmax := .const v
  acc := .const v
  capturePos := v
  captureRate := v
  park := .const v
  poolLow := v
  cstep := v
  lagTol := v
  slewTimeout := v
  settleTime := v
  guideStepMax := v
  guideRange := v
  guideTimeout := v
  encTimeout := v
  encTol := v
  followEnc := v

/-- Strap pins both low: the value State.reset names for pins that nothing has read (log entry 7). -/
def strapsLow : Straps := ⟨false, false⟩

/-- The six input pins at the level that is not asserted: the drive fault lines and the limit switch high,
the others low (R167; log entry 6). -/
def pinsQuiet : Inputs Bool := ⟨true, true, true, true, false, false⟩

/-- The machine right after power-on (the reset tables R17, R40, R58, R71, R97, R125, R139, R153, R166, R169,
R179, R185, R190). -/
def State.reset : State where
  pending := []
  resetLow := false
  pins := pinsQuiet
  time := .initial
  night := ⟨[], false⟩
  free := 512
  model := .initial
  engine := .unset
  waitReason := none
  axes := .const .initial
  onTarget := false
  guide := .initial
  enclosure := .initial
  inputs := .const ⟨false, false⟩
  steps := .const .initial
  enable := false
  lines := .const .initial
  faults := ⟨none, none, 0⟩
  notices := .initial
  ports := ⟨.initial strapsLow, .initial strapsLow, .initial strapsLow⟩
  inForce := .defaults
  pendingItems := .const none
  expiries := []
  orderDraws := 0

end Sys2Proof.Machine
end

