-- ==== Sys2Proof/Machine/Arith.lean ====
section
/-! DEFINITION. The conventions of arithmetic of R1, and the constants of the units (00_scope.md). -/

namespace Sys2Proof.Machine

/-- The largest mount time (R2). -/
def maxTime : Nat := 281474976710655

/-- A full turn in counts (00_scope.md, "Angles and positions"). -/
def fullTurn : Int := 16777216

/-- One count in fine units (00_scope.md, "Angles and positions"). -/
def fineUnits : Int := 65536

/-- `x` divided by a positive even `d` and rounded, ties toward plus infinity (R1). -/
def roundDiv (x d : Int) : Int := (x + d / 2) / d

/-- A value in fine units rounded to counts (R1). -/
def roundCounts (x : Int) : Int := roundDiv x fineUnits

/-- `x` clamped to [a, b] (R1). -/
def clamp (a b x : Int) : Int := if x < a then a else if b < x then b else x

/-- `x` clamped to ±m (R1). -/
def clampAbs (m x : Int) : Int := clamp (-m) m x

/-- |x| as an integer (R1). -/
def magnitude (x : Int) : Int := x.natAbs

/-- The circular distance between two azimuths in counts (R1). -/
def circularDistance (p q : Int) : Int :=
  min ((p - q) % fullTurn) ((q - p) % fullTurn)

/-- A saturating counter raised by `k` (R1). -/
def saturate (limit n k : Nat) : Nat := min limit (n + k)

/-- A counter that saturates at 65,535, raised by `k`. -/
def count16 (n k : Nat) : Nat := saturate 65535 n k

/-- A counter that saturates at 4,294,967,295, raised by `k` (the table before R30). -/
def count32 (n k : Nat) : Nat := saturate 4294967295 n k

end Sys2Proof.Machine
end

