-- ==== Sys2Proof/Machine/Operands.lean ====
section
/-! DEFINITION. The operand forms: the wire forms of fields become the values the blocks hold
(00_scope.md, "Wire format"; R41, R187 to R189), and a name stands for a code. -/

namespace Sys2Proof.Machine

/-- Three signed 32-bit fields as numbers. -/
def signedAxes {n : Nat} (x : Axes (BitVec n)) : Axes Int := x.map BitVec.toInt

/-- A pair of signed fields as numbers. -/
def signedPair {n : Nat} (x : AzEl (BitVec n)) : AzEl Int := x.map BitVec.toInt

/-- The event line a line number names (R189). -/
def lineOfCode (b : Byte) : Option LineId :=
  match b.toNat with
  | 0 => some .ev0
  | 1 => some .ev1
  | 2 => some .ev2
  | 3 => some .ev3
  | _ => none

/-- The source a code names (R189). -/
def sourceOfCode (b : Byte) : Option Source :=
  match b.toNat with
  | 0 => some .second
  | 1 => some .targetStart
  | 2 => some .capture
  | 3 => some .trackStart
  | 4 => some .onTargetRise
  | 5 => some .onTargetFall
  | 6 => some .dwellEnd
  | 7 => some .targetEnd
  | 8 => some .guideTake
  | 9 => some .parked
  | 10 => some .fault
  | _ => none

/-- The mode a code names (R189). -/
def modeOfCode (b : Byte) : Option LineMode :=
  match b.toNat with
  | 0 => some .off
  | 1 => some .manual
  | 2 => some .pulse
  | 3 => some .delayed
  | 4 => some .toggle
  | _ => none

/-- A code 0 or 1 as a level, a polarity's "active low", a pointer's "read", a page (R189). -/
def bitOfCode (b : Byte) : Option Bool :=
  match b.toNat with
  | 0 => some false
  | 1 => some true
  | _ => none

/-- The wrap preference a code names (the target record's layout). -/
def wrapOfCode (b : Byte) : Option WrapPref :=
  match b.toNat with
  | 0 => some .auto
  | 1 => some .low
  | 2 => some .high
  | _ => none

/-- The item a code names (the table of R190). -/
def itemOfCode (b : Byte) : Option Item :=
  match b.toNat with
  | 0x01 => some (.lower .az)
  | 0x02 => some (.upper .az)
  | 0x03 => some (.lower .el)
  | 0x04 => some (.upper .el)
  | 0x05 => some (.lower .rot)
  | 0x06 => some (.upper .rot)
  | 0x07 => some (.stepMax .az)
  | 0x08 => some (.stepMax .el)
  | 0x09 => some (.stepMax .rot)
  | 0x0A => some (.vmax .az)
  | 0x0B => some (.vmax .el)
  | 0x0C => some (.vmax .rot)
  | 0x0D => some (.acc .az)
  | 0x0E => some (.acc .el)
  | 0x0F => some (.acc .rot)
  | 0x11 => some .capturePos
  | 0x12 => some .captureRate
  | 0x13 => some (.park .az)
  | 0x14 => some (.park .el)
  | 0x15 => some (.park .rot)
  | 0x20 => some .poolLow
  | 0x21 => some .cstep
  | 0x22 => some .lagTol
  | 0x23 => some .slewTimeout
  | 0x24 => some .settleTime
  | 0x25 => some .guideStepMax
  | 0x26 => some .guideRange
  | 0x27 => some .guideTimeout
  | 0x28 => some .encTimeout
  | 0x29 => some .encTol
  | 0x2A => some .followEnc
  | _ => none

/-- The record kept for a record as sent, or none where R19 refuses it. A record that keeps the
guide required flag without the guided flag is written with it clear (R23). -/
def recordOf (r : TargetRecord) : Option Record :=
  let kind : Option TargetKind :=
    match r.kind.toNat, r.fixedPosition with
    | 0, none => some .track
    | 1, some p => some (.fixed (signedAxes p))
    | _, _ => none
  let windowOk : Bool :=
    match r.earliest, r.latest with
    | some e, some l => decide (e.toNat ≤ l.toNat)
    | _, _ => true
  match kind, wrapOfCode r.wrap, bitOfCode r.station with
  | some kind, some wrap, some station =>
    if r.id.toNat ≠ 0 ∧ r.dwell.toNat ≠ 0 ∧ windowOk = true ∧
        r.presence.toNat < 8 ∧ r.flags.toNat < 8 then
      some
        { id := r.id.toNat
          kind := kind
          earliest := r.earliest.map BitVec.toNat
          latest := r.latest.map BitVec.toNat
          dwell := r.dwell.toNat
          maxHold := r.maxHold.toNat
          station := station
          guided := r.flags.getLsbD 0
          guideRequired := r.flags.getLsbD 1 && r.flags.getLsbD 0
          carryGuide := r.flags.getLsbD 2
          wrap := wrap }
    else none
  | _, _, _ => none

/-- The optional fields of a record are those its presence byte names: what the port's judgement of the
length requires (R188). -/
def recordLengthOk (r : TargetRecord) : Bool :=
  (r.earliest.isSome == r.presence.getLsbD 0) &&
  (r.latest.isSome == r.presence.getLsbD 1) &&
  (r.fixedPosition.isSome == r.presence.getLsbD 2)

/-! ### Configuration items (R190) -/

/-- The value of an item. -/
def Items.get {α : Type} (x : Items α) : Item → α
  | .lower ax => x.lower.get ax
  | .upper ax => x.upper.get ax
  | .stepMax ax => x.stepMax.get ax
  | .vmax ax => x.vmax.get ax
  | .acc ax => x.acc.get ax
  | .capturePos => x.capturePos
  | .captureRate => x.captureRate
  | .park ax => x.park.get ax
  | .poolLow => x.poolLow
  | .cstep => x.cstep
  | .lagTol => x.lagTol
  | .slewTimeout => x.slewTimeout
  | .settleTime => x.settleTime
  | .guideStepMax => x.guideStepMax
  | .guideRange => x.guideRange
  | .guideTimeout => x.guideTimeout
  | .encTimeout => x.encTimeout
  | .encTol => x.encTol
  | .followEnc => x.followEnc

/-- The same values with one item replaced. -/
def Items.set {α : Type} (x : Items α) (i : Item) (v : α) : Items α :=
  match i with
  | .lower ax => { x with lower := x.lower.set ax v }
  | .upper ax => { x with upper := x.upper.set ax v }
  | .stepMax ax => { x with stepMax := x.stepMax.set ax v }
  | .vmax ax => { x with vmax := x.vmax.set ax v }
  | .acc ax => { x with acc := x.acc.set ax v }
  | .capturePos => { x with capturePos := v }
  | .captureRate => { x with captureRate := v }
  | .park ax => { x with park := x.park.set ax v }
  | .poolLow => { x with poolLow := v }
  | .cstep => { x with cstep := v }
  | .lagTol => { x with lagTol := v }
  | .slewTimeout => { x with slewTimeout := v }
  | .settleTime => { x with settleTime := v }
  | .guideStepMax => { x with guideStepMax := v }
  | .guideRange => { x with guideRange := v }
  | .guideTimeout => { x with guideTimeout := v }
  | .encTimeout => { x with encTimeout := v }
  | .encTol => { x with encTol := v }
  | .followEnc => { x with followEnc := v }

/-- Each item's first value where it has one, else its second: pending over in force (R190). -/
def Items.orElse {α : Type} (x : Items (Option α)) (y : Items α) : Items α where
  lower := x.lower.map₂ Option.getD y.lower
  upper := x.upper.map₂ Option.getD y.upper
  stepMax := x.stepMax.map₂ Option.getD y.stepMax
  vmax := x.vmax.map₂ Option.getD y.vmax
  acc := x.acc.map₂ Option.getD y.acc
  capturePos := x.capturePos.getD y.capturePos
  captureRate := x.captureRate.getD y.captureRate
  park := x.park.map₂ Option.getD y.park
  poolLow := x.poolLow.getD y.poolLow
  cstep := x.cstep.getD y.cstep
  lagTol := x.lagTol.getD y.lagTol
  slewTimeout := x.slewTimeout.getD y.slewTimeout
  settleTime := x.settleTime.getD y.settleTime
  guideStepMax := x.guideStepMax.getD y.guideStepMax
  guideRange := x.guideRange.getD y.guideRange
  guideTimeout := x.guideTimeout.getD y.guideTimeout
  encTimeout := x.encTimeout.getD y.encTimeout
  encTol := x.encTol.getD y.encTol
  followEnc := x.followEnc.getD y.followEnc

/-- An item of the MOTION class (the table of R190). -/
def Item.isMotion : Item → Bool
  | .lower _ | .upper _ | .stepMax _ | .vmax _ | .acc _ | .capturePos | .captureRate | .park _ => true
  | .poolLow | .cstep | .lagTol | .slewTimeout | .settleTime | .guideStepMax | .guideRange
  | .guideTimeout | .encTimeout | .encTol | .followEnc => false

/-- The permitted values of a limit (R86). -/
def limitRange : Axis → Int × Int
  | .az => (-25165824, 25165824)
  | .el => (0, 4194304)
  | .rot => (-16777216, 16777216)

/-- An item's range, less the cross-checks (R57, R82, R86, R89, R90, R113, R138, R143). A park position's
range is the axis limits, a cross-check (R122); its field carries any signed 32-bit number. -/
def Item.range : Item → Int × Int
  | .lower ax => limitRange ax
  | .upper ax => limitRange ax
  | .stepMax _ => (1, 250)
  | .vmax _ => (1, 250)
  | .acc _ => (1, 65535)
  | .capturePos => (1, 4096)
  | .captureRate => (1, 65535)
  | .park _ => (-2147483648, 2147483647)
  | .poolLow => (0, 511)
  | .cstep => (1, 64)
  | .lagTol => (1, 65535)
  | .slewTimeout => (1000, 1800000)
  | .settleTime => (1, 60000)
  | .guideStepMax => (1, 4096)
  | .guideRange => (1, 65535)
  | .guideTimeout => (500, 600000)
  | .encTimeout => (500, 600000)
  | .encTol => (1, 4194304)
  | .followEnc => (0, 1)

/-! ### Names of states -/

/-- The name of the engine's state. -/
def Engine.state : Engine → EngineState
  | .unset => .unset
  | .idle => .idle
  | .waiting => .waiting
  | .slewing _ _ => .slewing
  | .settling _ => .settling
  | .tracking _ => .tracking
  | .holding _ => .holding
  | .stopping _ => .stopping
  | .parking => .parking
  | .parked => .parked
  | .stopped => .stopped

/-- The still states: UNSET, IDLE, PARKED and STOPPED (01, before "Counting"). -/
def Engine.isStill : Engine → Bool
  | .unset | .idle | .parked | .stopped => true
  | .waiting | .slewing _ _ | .settling _ | .tracking _ | .holding _ | .stopping _ | .parking => false

/-- SETTLING, TRACKING and HOLDING: the states past capture. -/
def Engine.followsTarget : Engine → Bool
  | .settling _ | .tracking _ | .holding _ => true
  | .unset | .idle | .waiting | .slewing _ _ | .stopping _ | .parking | .parked | .stopped => false

/-- The target states: SLEWING, SETTLING, TRACKING and HOLDING. -/
def Engine.isTarget : Engine → Bool
  | .slewing _ _ | .settling _ | .tracking _ | .holding _ => true
  | .unset | .idle | .waiting | .stopping _ | .parking | .parked | .stopped => false

/-- The drives are on in every state but UNSET, PARKED and STOPPED (06, "Engine states"; R158). -/
def Engine.drivesOn : Engine → Bool
  | .unset | .parked | .stopped => false
  | .idle | .waiting | .slewing _ _ | .settling _ | .tracking _ | .holding _ | .stopping _ | .parking => true

/-- TRACKING and HOLDING: the states in which ON_TARGET can be asserted (R145). -/
def Engine.isTracking : Engine → Bool
  | .tracking _ | .holding _ => true
  | .unset | .idle | .waiting | .slewing _ _ | .settling _ | .stopping _ | .parking | .parked | .stopped =>
    false

/-- The code of a status (R187). -/
def Status.code : Status → Byte
  | .ok => 0
  | .merged => 1
  | .clamped => 2
  | .mergedClamped => 3
  | .badCheck => 16
  | .badLength => 17
  | .unknownKind => 18
  | .badValue => 19
  | .wrongState => 32
  | .inMotion => 33
  | .unset => 34
  | .stopped => 35
  | .sheltered => 36
  | .noTime => 37
  | .notTracking => 38
  | .notGuided => 39
  | .stillActive => 40
  | .listFull => 48
  | .poolFull => 49
  | .noSuchTarget => 50
  | .duplicateId => 51
  | .notPending => 52
  | .order => 53
  | .align => 54
  | .late => 55

end Sys2Proof.Machine
end

