-- ==== Sys2Proof/Machine/Flags.lean ====
section
/-! DEFINITION. The flags raised toward the outside: the notice sets with their attention lines
(R175 to R179) and the event lines (R160 to R166). -/

namespace Sys2Proof.Machine

/-! ### Notice sets -/

/-- The bit of a notice kind in a set (the set's layout before R188). -/
def Notice.bit : Notice → NoticeSet
  | .targetStart => 0x001
  | .targetEnd => 0x002
  | .onTarget => 0x004
  | .listEmpty => 0x008
  | .poolLow => 0x010
  | .guide => 0x020
  | .shelter => 0x040
  | .fault => 0x080
  | .time => 0x100
  | .night => 0x200

/-- ATTN formed again: asserted while at least one kind is both latched and in the mask (R175). -/
def NoticeBox.form (b : NoticeBox) : NoticeBox :=
  { b with attn := decide (b.latched &&& b.mask ≠ 0) }

/-- A kind joins the latched kinds of a set (R175). -/
def NoticeBox.raise (k : Notice) (b : NoticeBox) : NoticeBox :=
  NoticeBox.form { b with latched := b.latched ||| k.bit }

/-- Kinds leave the latched kinds of a set (R177). -/
def NoticeBox.acknowledge (kinds : NoticeSet) (b : NoticeBox) : NoticeBox :=
  NoticeBox.form { b with latched := b.latched &&& ~~~kinds }

/-- A mask replaces the set's mask (R178). -/
def NoticeBox.withMask (kinds : NoticeSet) (b : NoticeBox) : NoticeBox :=
  NoticeBox.form { b with mask := kinds }

/-- The set two bytes name, or none where they name anything other than the ten kinds (the layout before
R188, R177, R178). -/
def noticeSetOf (kinds : BitVec 16) : Option NoticeSet :=
  if kinds.toNat < 1024 then some (kinds.setWidth 10) else none

/-- A notice raised in the sets of all three links (R175). -/
def State.raise (k : Notice) (s : State) : State :=
  { s with notices := { s.notices with boxes := s.notices.boxes.map (NoticeBox.raise k) } }

/-! ### Event lines -/

/-- A line's timer started at `n`. With `atEvent` it is set at the moment of a demand event, which does not count
it, whether the event is still to be taken or in progress (R161). -/
def EventLine.start (atEvent : Bool) (n : Nat) (l : EventLine) : EventLine :=
  { l with timer := some n, fresh := atEvent }

/-- The line's timer is counted again: the demand event it was set at is over, or will not occur (R161, R3). -/
def EventLine.unmark (l : EventLine) : EventLine := { l with fresh := false }

/-- A line quiet, its timer absent and its output inactive. -/
def EventLine.quiet (l : EventLine) : EventLine :=
  { l with phase := .quiet, timer := none, output := false, fresh := false }

/-- An event of the line's source, by the line's mode (R162, R163). -/
def EventLine.trigger (atEvent : Bool) (l : EventLine) : EventLine :=
  match l.mode with
  | .off => l
  | .manual => l
  | .toggle => { l with output := !l.output }
  | .pulse => EventLine.start atEvent l.width { l with phase := .active, output := true }
  | .delayed =>
    match l.phase with
    | .quiet => EventLine.start atEvent l.delay { l with phase := .delay }
    | .delay => { l with ignored := count16 l.ignored 1 }
    | .active => { l with ignored := count16 l.ignored 1 }

/-- An event of a source handed to a line: a line acts on its own source alone (R160). -/
def EventLine.receive (atEvent : Bool) (src : Source) (l : EventLine) : EventLine :=
  if l.source = src then l.trigger atEvent else l

/-- The expiry of a line's timer, at a demand event (R162, R163): a delay becomes the pulse of the width, a pulse
ends. -/
def EventLine.expire (l : EventLine) : EventLine :=
  match l.phase with
  | .delay => EventLine.start true l.width { l with phase := .active, output := true }
  | .active => l.quiet
  | .quiet => l.quiet

/-- Whether the line's counting at this demand event makes its timer expire (R161). -/
def EventLine.runsOut (l : EventLine) : Bool :=
  match l.timer with
  | some n => !l.fresh && decide (n ≤ 1)
  | none => false

/-- One demand event's counting of a line (R161): the timer decreases by one unless it was set at this
event, and expires when it reaches 0. -/
def EventLine.count (l : EventLine) : EventLine :=
  match l.timer with
  | none => l
  | some n =>
    if l.fresh then l
    else if n ≤ 1 then l.expire
    else { l with timer := some (n - 1) }

/-- The level on the line's pin: an active output is high with ACTIVE_HIGH and low with ACTIVE_LOW
(R160). -/
def EventLine.pinHigh (l : EventLine) : Bool := l.output == l.activeHigh

/-- An event given to the event lines (R160). A timer it sets while a demand event is due at this microsecond, or in
progress, is set at that event (R161). A source that has already given an event at this moment is not held back (log
entry 30). -/
def State.give (src : Source) (s : State) : State :=
  { s with lines := s.lines.map (EventLine.receive s.time.eventDue src) }

/-- No line's timer is any longer one that the demand event of this moment does not count (R161). -/
def State.unmarkLines (s : State) : State := { s with lines := s.lines.map EventLine.unmark }

end Sys2Proof.Machine
end

