-- ==== Sys2Proof/Machine/Model.lean ====
section
/-! DEFINITION. The pointing model table: its cells in one canonical form, and the correction
interpolated between four entries (R59 to R64). -/

namespace Sys2Proof.Machine

/-- The pair every entry holds after power-on (R71), and that an unlisted address reads as. -/
def zeroPair : Pair := ⟨0, 0⟩

/-- The address of an entry: page·128 + index. -/
def cellAddr (page : Bool) (index : Nat) : Nat := (if page then 128 else 0) + index % 128

/-- The entry at an address. -/
def readCell : List (Nat × Pair) → Nat → Pair
  | [], _ => zeroPair
  | (b, w) :: rest, a => if b = a then w else readCell rest a

/-- The cells with the entry at an address replaced, in canonical form again. -/
def writeCell : List (Nat × Pair) → Nat → Pair → List (Nat × Pair)
  | [], a, v => if v = zeroPair then [] else [(a, v)]
  | (b, w) :: rest, a, v =>
    if a < b then
      if v = zeroPair then (b, w) :: rest else (a, v) :: (b, w) :: rest
    else if a = b then
      if v = zeroPair then rest else (a, v) :: rest
    else (b, w) :: writeCell rest a v

/-- The canonical form: addresses strictly rising, all below 256, and no entry equal to (0, 0). -/
def cellsWf : List (Nat × Pair) → Bool
  | [] => true
  | [(a, v)] => decide (a < 256) && decide (v ≠ zeroPair)
  | (a, v) :: (b, w) :: rest => decide (a < b) && decide (v ≠ zeroPair) && cellsWf ((b, w) :: rest)

/-- The pointer after `n` entries, on the same page (R65). -/
def Pointer.advance (p : Pointer) (n : Nat) : Pointer := ⟨p.page, (p.index + n) % 128⟩

/-- Pairs written from a pointer onward, index 127 followed by index 0 (R67). -/
def writePairs (cells : List (Nat × Pair)) (p : Pointer) : List Pair → List (Nat × Pair)
  | [] => cells
  | v :: rest => writePairs (writeCell cells (cellAddr p.page p.index) v) (p.advance 1) rest

/-- `n` pairs read from a pointer onward, index 127 followed by index 0 (R68). -/
def readPairs (cells : List (Nat × Pair)) (p : Pointer) : Nat → List Pair
  | 0 => []
  | n + 1 => readCell cells (cellAddr p.page p.index) :: readPairs cells (p.advance 1) n

/-- The column and its fraction from an azimuth in counts (R62). -/
def column (az : Int) : Nat × Int :=
  let m := az % fullTurn
  ((m / 1048576).toNat, m % 1048576 / 256)

/-- The row and its fraction from an elevation in counts (R63). -/
def row (el : Int) : Nat × Int :=
  if el < 0 then (0, 0)
  else if 3670016 ≤ el then (6, 4096)
  else ((el / 524288).toNat, el % 524288 / 128)

/-- The weighted mean of four entries, rounded (R64). -/
def interpolate (t00 t01 t10 t11 fa fe : Int) : Int :=
  roundDiv
    (t00 * (4096 - fa) * (4096 - fe) + t01 * fa * (4096 - fe) +
      t10 * (4096 - fa) * fe + t11 * fa * fe)
    16777216

/-- The correction at a position in counts, from a page (R61 to R64). -/
def modelCorrection (cells : List (Nat × Pair)) (page : Bool) (az el : Int) : AzEl Int :=
  let c := column az
  let r := row el
  let next := (c.1 + 1) % 16
  let t (i j : Nat) : AzEl Int := signedPair (readCell cells (cellAddr page (i * 16 + j)))
  let t00 := t r.1 c.1
  let t01 := t r.1 next
  let t10 := t (r.1 + 1) c.1
  let t11 := t (r.1 + 1) next
  ⟨interpolate t00.az t01.az t10.az t11.az c.2 r.2, interpolate t00.el t01.el t10.el t11.el c.2 r.2⟩

end Sys2Proof.Machine
end

