-- ==== Sys2Proof/Machine/Pool.lean ====
section
/-! DEFINITION. Segments and chains: the span of a segment, the covering segment, what is released as
passed or as stale, and the evaluation of a segment (R41 to R48, R75 to R78). -/

namespace Sys2Proof.Machine

/-- The start of a segment, in mount time (R41). -/
def segStart (g : Segment) : Nat := g.t0.toNat

/-- The end of a segment: t0 + len·1,000 (R41). -/
def segEnd (g : Segment) : Nat := g.t0.toNat + g.len.toNat * 1000

/-- The segment has begun at `t`. -/
def begun (t : Nat) (g : Segment) : Bool := decide (segStart g ≤ t)

/-- The segment that covers `t`: the last whose t0 is at or before t, provided t is before its end (R44). -/
def covering (t : Nat) (chain : List Segment) : Option Segment :=
  match (chain.filter (begun t)).getLast? with
  | some g => if t < segEnd g then some g else none
  | none => none

/-- A chain less the segments before the last one begun at `t` (R47). -/
def dropPassed (t : Nat) : List Segment → List Segment
  | [] => []
  | g :: rest => if rest.any (begun t) then dropPassed t rest else g :: rest

/-- A chain less its stale segments at `t`: those whose end is at or before t, and those with a later
segment begun at t (R48). -/
def dropStale (t : Nat) : List Segment → List Segment
  | [] => []
  | g :: rest =>
    if segEnd g ≤ t ∨ rest.any (begun t) then dropStale t rest else g :: dropStale t rest

/-- The span of a chain: the t0 of its first segment and the end of its last (R45). -/
def chainSpan (chain : List Segment) : Option (Nat × Nat) :=
  match chain.head?, chain.getLast? with
  | some first, some last => some (segStart first, segEnd last)
  | _, _ => none

/-- The position of one axis at millisecond k: p0 + v0·k + round(a·k²/131,072), with a wrap offset added
and the sum clamped to 48 bits (R75, R77, R78). -/
def segPosition (p0 v0 a wrap : Int) (k : Int) : Int :=
  clamp (-140737488355328) 140737488355327 (p0 + v0 * k + roundDiv (a * k ^ 2) 131072 + wrap)

/-- The rate of one axis at millisecond k: v0 + round(a·k/65,536), clamped to 32 bits (R76, R77). -/
def segRate (v0 a : Int) (k : Int) : Int :=
  clamp (-2147483648) 2147483647 (v0 + roundDiv (a * k) 65536)

/-- A wrap offset of k turns in fine units, on AZ alone (R78). -/
def wrapFine (k : Int) (ax : Axis) : Int :=
  match ax with
  | .az => k * fullTurn * fineUnits
  | .el => 0
  | .rot => 0

/-- The position of every axis of a segment at millisecond k, with a wrap of `w` turns on AZ. -/
def segPositions (g : Segment) (w : Int) (k : Int) : Axes Int :=
  Axes.of fun ax =>
    segPosition (g.p0.get ax).toInt (g.v0.get ax).toInt (g.a.get ax).toInt (wrapFine w ax) k

/-- The rate of every axis of a segment at millisecond k. -/
def segRates (g : Segment) (k : Int) : Axes Int :=
  Axes.of fun ax => segRate (g.v0.get ax).toInt (g.a.get ax).toInt k

/-- k = (t − t0)/1,000 (R46). -/
def segIndex (g : Segment) (t : Nat) : Int := ((t - segStart g) / 1000 : Nat)

/-- The fixed position of a FIXED entry in fine units, with a wrap of `w` turns on AZ (R78). -/
def fixedPositions (p : Axes Int) (w : Int) : Axes Int :=
  Axes.of fun ax => p.get ax * fineUnits + wrapFine w ax

end Sys2Proof.Machine
end

