-- ==== Sys2Proof/Machine/Pulses.lean ====
section
/-! DEFINITION. The step outputs: how a count is spread over a millisecond, counts that wait, and pulses
dropped (R156 to R158). -/

namespace Sys2Proof.Machine

/-- The rise of pulse i of a schedule of `count` pulses, in oscillator microseconds after its start
moment: 2 + floor(i·996/count) (R156). -/
def riseOffset (count i : Nat) : Nat := 2 + i * 996 / count

/-- The fall of the last pulse of a schedule, where the schedule ends (R156). -/
def scheduleLength (count : Nat) : Nat := riseOffset count (count - 1) + 1

/-- How many pulses of a schedule have risen `e` microseconds after its start moment: the i with
riseOffset count i ≤ e. -/
def risen (count e : Nat) : Nat := min count (((e - 1) * count + 995) / 996)

/-- A number of pulses with its direction's sign. -/
def signedPulses (increasing : Bool) (n : Nat) : Int := if increasing then n else -n

/-- The pulses of a schedule still to be issued (09, table). -/
def Schedule.left (sch : Schedule) : Nat := sch.what.count - risen sch.what.count sch.elapsed

/-- `n` oscillator microseconds of an output whose schedule in progress is `sch`: its pulses rise and fall,
and at its end the next waiting count becomes the schedule in progress and sets DIR (R156, R157). -/
def runSchedule (n : Nat) (sch : Schedule) (o : StepOut) : List StepCount → StepOut
  | [] =>
    let e := sch.elapsed + n
    let c := sch.what.count
    let up := signedPulses sch.what.increasing (risen c e - risen c sch.elapsed)
    if e < scheduleLength c then
      { schedule := some { sch with elapsed := e }
        waiting := []
        dirIncreasing := o.dirIncreasing
        stepHigh := decide (risen c (e - 1) < risen c e)
        issued := o.issued + up }
    else
      { schedule := none, waiting := [], dirIncreasing := o.dirIncreasing, stepHigh := false
        issued := o.issued + up }
  | w :: rest =>
    let e := sch.elapsed + n
    let c := sch.what.count
    let up := signedPulses sch.what.increasing (risen c e - risen c sch.elapsed)
    if e < scheduleLength c then
      { schedule := some { sch with elapsed := e }
        waiting := w :: rest
        dirIncreasing := o.dirIncreasing
        stepHigh := decide (risen c (e - 1) < risen c e)
        issued := o.issued + up }
    else
      runSchedule (e - scheduleLength c) ⟨w, 0⟩
        { o with dirIncreasing := w.increasing, stepHigh := false, issued := o.issued + up } rest

/-- `n` oscillator microseconds of a step output. With no schedule in progress a pulse that is high, left
by a drop, falls. -/
def StepOut.pass (n : Nat) (o : StepOut) : StepOut :=
  if n = 0 then o
  else
    match o.schedule with
    | none => { o with stepHigh := false }
    | some sch => runSchedule n sch o o.waiting

/-- A step count handed over (R156, R157): 0 makes no schedule; with a schedule in progress the count
waits; else it starts now and sets DIR. -/
def StepOut.hand (n : Int) (o : StepOut) : StepOut :=
  if n = 0 then o
  else
    let what : StepCount := ⟨decide (0 < n), n.natAbs⟩
    match o.schedule with
    | none => { o with schedule := some ⟨what, 0⟩, dirIncreasing := what.increasing }
    | some _ => { o with waiting := o.waiting ++ [what] }

/-- Every pulse not yet issued dropped; DIR keeps its level, and a pulse that is high falls 1 µs after its
rise (R158, R156). -/
def StepOut.drop (o : StepOut) : StepOut := { o with schedule := none, waiting := [] }

/-- Microseconds until the next fall of a pulse of the schedule in progress (R156). -/
def StepOut.untilFall (o : StepOut) : Option Nat :=
  match o.schedule with
  | none => none
  | some sch =>
    let i := risen sch.what.count sch.elapsed
    if o.stepHigh then some 1
    else if i < sch.what.count then some (riseOffset sch.what.count i + 1 - sch.elapsed)
    else none

/-- Microseconds until the fall of the last pulse of the schedule in progress, when a count waits
(R157). -/
def StepOut.untilWaiting (o : StepOut) : Option Nat :=
  match o.schedule, o.waiting with
  | some sch, _ :: _ => some (scheduleLength sch.what.count - sch.elapsed)
  | _, _ => none

end Sys2Proof.Machine
end

