-- ==== Sys2Proof/Machine/Ops.lean ====
section
/-! DEFINITION. The named operations over the whole state that more than one command uses: the engine
state with the enables, the ON_TARGET level, folding, the end of a target, the fault event, the shelter
condition, parking, the input filters. -/

namespace Sys2Proof.Machine

/-! ### The night list -/

/-- The first element that passes a test, replaced. -/
def updateFirst {α : Type} (p : α → Bool) (f : α → α) : List α → List α
  | [] => []
  | x :: rest => if p x then f x :: rest else x :: updateFirst p f rest

/-- The entry is ACTIVE. -/
def Entry.isActive (e : Entry) : Bool :=
  match e.status with
  | .active _ => true
  | .pending => false
  | .ended _ => false

/-- The entry is PENDING. -/
def Entry.isPending (e : Entry) : Bool :=
  match e.status with
  | .pending => true
  | .active _ => false
  | .ended _ => false

/-- The entry is ENDED. -/
def Entry.isEnded (e : Entry) : Bool :=
  match e.status with
  | .ended _ => true
  | .pending => false
  | .active _ => false

/-- The ACTIVE entry (R25: there is at most one). -/
def State.activeEntry (s : State) : Option Entry := s.night.entries.find? Entry.isActive

/-- The active id (R99). -/
def State.activeId (s : State) : Option Nat := s.activeEntry.map fun e => e.record.id

/-- The hold counter: the active entry's hold used, in HOLDING (R99, R116). -/
def State.holdCounter (s : State) : Option Nat :=
  match s.engine with
  | .holding _ => s.activeEntry.bind fun e => e.results.tally.map Tally.holdUsed
  | _ => none

/-- The entry with an id. -/
def State.entryOf (s : State) (id : Nat) : Option Entry :=
  s.night.entries.find? fun e => e.record.id = id

/-- The entries replaced. -/
def State.withEntries (s : State) (es : List Entry) : State :=
  { s with night := { s.night with entries := es } }

/-- The ACTIVE entry changed. -/
def State.onActive (f : Entry → Entry) (s : State) : State :=
  s.withEntries (updateFirst Entry.isActive f s.night.entries)

/-- An entry's accumulators changed, where it has them (R31). -/
def Entry.onTally (f : Tally → Tally) (e : Entry) : Entry :=
  { e with results := { e.results with tally := e.results.tally.map f } }

/-- An entry's phase changed (R26). -/
def Entry.withPhase (p : Phase) (e : Entry) : Entry := { e with status := .active p }

/-- An entry ended: state, outcome, "ended at", and an empty chain (R28, R49). -/
def Entry.finish (o : EndOutcome) (t : Nat) (e : Entry) : Entry :=
  { e with status := .ended o, results := { e.results with endedAt := some t }, chain := [] }

/-! ### Engine state, enables, ON_TARGET -/

/-- The engine enters a state; the enable level follows at the same moment (R98, R158). -/
def State.enter (e : Engine) (s : State) : State :=
  { s with engine := e, enable := e.drivesOn }

/-- The wait reason replaced (R105). -/
def State.withReason (r : Option WaitReason) (s : State) : State := { s with waitReason := r }

/-- The night flag replaced (R39). -/
def State.withNightFlag (b : Bool) (s : State) : State := { s with night := { s.night with flag := b } }

/-- The ON_TARGET level takes a value; a change raises the notice and gives its event (R147). -/
def State.setOnTarget (b : Bool) (s : State) : State :=
  if s.onTarget = b then s
  else
    State.give (if b then .onTargetRise else .onTargetFall)
      (State.raise .onTarget { s with onTarget := b })

/-! ### Folding -/

/-- One axis folded: the demand becomes the base, and the offsets become 0 (R91). -/
def AxisState.fold (a : AxisState) : AxisState :=
  { a with base := a.demand * fineUnits, applied := 0, host := 0, wanted := 0 }

/-- Every axis folded (R91, R93). -/
def State.foldAxes (s : State) : State := { s with axes := s.axes.map AxisState.fold }

/-! ### The guide unit -/

/-- The guide unit replaced. -/
def State.withGuide (g : Guide) (s : State) : State := { s with guide := g }

/-- G becomes 0 (R91, R135, R136). -/
def State.zeroGuide (s : State) : State := s.withGuide { s.guide with offset := ⟨0, 0⟩ }

/-- How many corrections a mailbox stands for: the one held and those merged into it (R31). -/
def Guide.held (g : Guide) : Nat :=
  match g.mailbox with
  | some m => 1 + m.merges
  | none => 0

/-- A full mailbox emptied, its corrections counted as discarded in the ACTIVE entry (R134, R136). -/
def State.discardMailbox (s : State) : State :=
  (s.onActive (Entry.onTally fun y =>
    { y with guideDiscarded := count32 y.guideDiscarded s.guide.held })).withGuide
    { s.guide with mailbox := none }

/-- The guide state replaced. -/
def State.withGuideState (g : GuideState) (s : State) : State := s.withGuide { s.guide with state := g }

/-! ### The end of a target -/

/-- An end reported: the notice, and the most recent end (R28, R175). -/
def State.reportEnd (id : Nat) (o : EndOutcome) (s : State) : State :=
  let r := State.raise .targetEnd s
  { r with notices := { r.notices with recentEnd := some (id, o) } }

/-- The ACTIVE entry ends with an outcome (R28): the mailbox is discarded and counted and the guide
state becomes OFF (R134), every axis is folded (R91), the entry is written ENDED and its chain released
(R49), the end is noticed and given to the event lines, and ON_TARGET falls (R146). What becomes of G
is the caller's (R135), and so is the engine state. DESIGN CHOICE (log entry 30): every end gives a
TARGET_END of its own, also the second end at one demand event, though R160 and R124 speak of one event of a
source at one moment. -/
def State.endActive (o : EndOutcome) (s : State) : State :=
  match s.activeEntry with
  | none => s
  | some e =>
    let s1 := (s.discardMailbox.withGuideState .off).foldAxes
    let s2 := s1.onActive (Entry.finish o s.time.mountTime)
    let s3 := { s2 with free := s2.free + e.chain.length }
    State.setOnTarget false (State.give .targetEnd (s3.reportEnd e.record.id o))

/-- What comes with an entry to PARKING: every axis folded, G at 0, the wait reason absent, the night flag
cleared (R93, R103, R123). -/
def State.readyToPark (s : State) : State :=
  ((s.foldAxes.zeroGuide).withReason none).withNightFlag false

/-- Entry to PARKING (R93, R103, R123). -/
def State.enterParking (s : State) : State := s.readyToPark.enter .parking

/-! ### Faults -/

/-- Every pulse not yet issued dropped, on every axis (R158). -/
def State.dropPulses (s : State) : State := { s with steps := s.steps.map StepOut.drop }

/-- Park owed replaced (R151). -/
def State.withParkOwed (b : Bool) (s : State) : State :=
  { s with enclosure := { s.enclosure with parkOwed := b } }

/-- A fault event (R168) of a kind: outside STOPPED it fills the first slot and stops the mount (R170);
in STOPPED it fills the second slot or is counted (R172). Park owed is set only where the shelter condition is active, also
by a fault that stops a park (log entry 28). -/
def State.faultEvent (k : FaultKind) (s : State) : State :=
  match s.engine with
  | .stopped =>
    let entry : FaultEntry := ⟨k, s.time.mountTime, .stopped, none⟩
    State.raise .fault
      (match s.faults.second with
        | none => { s with faults := { s.faults with second := some entry } }
        | some _ => { s with faults := { s.faults with overflow := saturate 255 s.faults.overflow 1 } })
  | _ =>
    let entry : FaultEntry := ⟨k, s.time.mountTime, s.engine.state, s.activeId⟩
    let s1 := { s with faults := { s.faults with first := some entry } }
    let s2 := ((s1.endActive .fault).zeroGuide.enter .stopped).dropPulses
    let s3 := (s2.withNightFlag false).withReason none
    let s4 := if s3.enclosure.shelter then s3.withParkOwed true else s3
    State.give .fault (State.raise .fault s4)

/-- The kind of fault an input gives (R168). -/
def faultKindOf : Input → Option FaultKind
  | .driveFaultAz => some .driveAz
  | .driveFaultEl => some .driveEl
  | .driveFaultRot => some .driveRot
  | .limitSwitch => some .limitSwitch
  | .instHold => none
  | .shelter => none

/-- Some filtered fault input is asserted (R174). -/
def State.faultAsserted (s : State) : Bool :=
  s.inputs.driveFaultAz.level || s.inputs.driveFaultEl.level || s.inputs.driveFaultRot.level ||
    s.inputs.limitSwitch.level

/-- One fault event, where a level is asserted. -/
def State.faultIf (asserted : Bool) (k : FaultKind) (s : State) : State :=
  if asserted then s.faultEvent k else s

/-- The engine enters a state within a request; where the enable level rises while filtered fault inputs
are asserted, each gives its fault event, in the order of R168. -/
def State.enterEnabling (e : Engine) (s : State) : State :=
  let s1 := s.enter e
  if s.enable = false ∧ s1.enable = true then
    (((s1.faultIf s.inputs.driveFaultAz.level .driveAz).faultIf
      s.inputs.driveFaultEl.level .driveEl).faultIf
      s.inputs.driveFaultRot.level .driveRot).faultIf
      s.inputs.limitSwitch.level .limitSwitch
  else s1

/-! ### Shelter -/

/-- A rise of the shelter condition acts on the engine (R123, R150, R151). -/
def State.shelterRise (s : State) : State :=
  match s.engine with
  | .slewing _ _ => (s.endActive .shelter).enterParking
  | .settling _ => (s.endActive .shelter).enterParking
  | .tracking _ => (s.endActive .shelter).enterParking
  | .holding _ => (s.endActive .shelter).enterParking
  | .idle => s.enterParking
  | .waiting => s.enterParking
  | .stopping _ => s.enterParking
  | .parking => s
  | .parked => s
  | .unset => s.withParkOwed true
  | .stopped => s.withParkOwed true

/-- The shelter condition from its two sources (R149). -/
def State.shelterSources (s : State) : Bool :=
  s.inputs.shelter.level ||
    (match s.enclosure.report with
      | some r => r.flag
      | none => false)

/-- The shelter condition formed again: an edge raises the notice, a rise acts on the engine and a fall
clears park owed (R149 to R152). -/
def State.formShelter (s : State) : State :=
  if s.shelterSources = s.enclosure.shelter then s
  else
    let s1 :=
      State.raise .shelter { s with enclosure := { s.enclosure with shelter := s.shelterSources } }
    if s.shelterSources then s1.shelterRise else s1.withParkOwed false

/-! ### Input filters -/

/-- The level that is the asserted one at an input's pin: true for high (R167). -/
def assertedHigh : Input → Bool
  | .driveFaultAz => false
  | .driveFaultEl => false
  | .driveFaultRot => false
  | .limitSwitch => false
  | .instHold => true
  | .shelter => true

/-- One sample taken by a filter (R154): a level that differs from the filtered one is taken when the
previous sample showed it too. -/
def Filter.sample (x : Bool) (f : Filter) : Filter :=
  ⟨x, if x ≠ f.level ∧ f.previous = x then x else f.level⟩

/-- The filter of one input samples its pin, and a change is handed to the block that reads the input
(R154, R155, R168). -/
def State.filterInput (i : Input) (s : State) : State :=
  let f := s.inputs.get i
  let f' := f.sample (s.pins.get i == assertedHigh i)
  let s1 := { s with inputs := s.inputs.set i f' }
  match faultKindOf i with
  | some k =>
    s1.faultIf (f'.level && !f.level && (s.enable || decide (s.engine.state = .stopped))) k
  | none => if i = .shelter then s1.formShelter else s1

end Sys2Proof.Machine
end

