-- ==== Sys2Proof/Config.lean ====
section
/-! DEFINITION. What the spec leaves free and the model draws: constants without a body. -/

namespace Sys2Proof

/-- The order of turns of the n-th demand event that the part takes by itself, with nobody naming the
order (log entry 3). Where the spec says that either of two things at one demand event may be taken
first (R150, R155, R161 to R163, R168, R171), nothing fixes which: the constant has no body, so no
proof can lean on an order. -/
opaque Config.turnOrder : Nat → List Turn

/-- The byte that stands for a name in a reply, for the names to which the spec gives no code (00_scope.md, "Wire
format": such a reply is described by its named fields; log entry 10). The constant has no body, so no proof can lean
on a code. -/
opaque Config.nameCode : Machine.ReplyName → Byte

end Sys2Proof
end

