-- ==== Sys2Proof/Machine/Replies.lean ====
section
/-! DEFINITION. The bytes of a reply: the check value of every frame (R181), and the payload of each reply, the status
first and then the fields that the request's rule names, in its order (R183, R187; 00_scope.md, "Wire format"). Where no
layout gives a field's width, it has the least of 1, 2, 4 and 6 bytes that holds its values (log entry 10). -/

namespace Sys2Proof.Machine

/-! ### The check value -/

/-- One bit of the check value shifted out (R181). -/
def crcShift (c : Byte) : Byte := if c.msb then (c <<< 1) ^^^ 0x07 else c <<< 1

/-- One byte taken into the check value: exclusive-or, then eight shifts (R181). -/
def crcByte (c b : Byte) : Byte :=
  crcShift (crcShift (crcShift (crcShift (crcShift (crcShift (crcShift (crcShift (c ^^^ b))))))))

/-- The CHECK over bytes in the order they are sent, from 0x00 (R181). -/
def crc (bytes : List Byte) : Byte := bytes.foldl crcByte 0x00

/-! ### Fields -/

/-- `n` bytes of a number, most significant first. -/
def natBytes : Nat → Nat → List Byte
  | 0, _ => []
  | n + 1, v => BitVec.ofNat 8 (v / 256 ^ n) :: natBytes n v

/-- `n` bytes of a signed number in two's complement. -/
def intBytes (n : Nat) (v : Int) : List Byte := natBytes n (v % 256 ^ n).toNat

/-- A flag or a level: 1 for set or asserted. -/
def flagByte (b : Bool) : List Byte := [if b then 1 else 0]

/-- An optional field: its presence, and the field where it is present. -/
def optionField {α : Type} (f : α → List Byte) : Option α → List Byte
  | none => [0]
  | some v => 1 :: f v

/-- A name whose code the spec does not give. -/
def nameByte (n : ReplyName) : List Byte := [Config.nameCode n]

/-- Signed fields of `n` bytes for AZ, EL and ROT. -/
def axesInts (n : Nat) (x : Axes Int) : List Byte := intBytes n x.az ++ intBytes n x.el ++ intBytes n x.rot

/-- Signed fields of `n` bytes for AZ and EL. -/
def pairInts (n : Nat) (x : AzEl Int) : List Byte := intBytes n x.az ++ intBytes n x.el

/-- A mount time, and every other number of microseconds. -/
def timeBytes (t : Nat) : List Byte := natBytes 6 t

/-- A set of notice kinds, two bytes: TIME and NIGHT in the first, the other eight in the second (the set's layout
before R188). -/
def noticeBytes (kinds : NoticeSet) : List Byte := natBytes 2 kinds.toNat

/-- A pointer: its page and its index. -/
def Pointer.bytes (p : Pointer) : List Byte := flagByte p.page ++ natBytes 1 p.index

/-- The code of a source (R189). -/
def Source.code : Source → Nat
  | .second => 0
  | .targetStart => 1
  | .capture => 2
  | .trackStart => 3
  | .onTargetRise => 4
  | .onTargetFall => 5
  | .dwellEnd => 6
  | .targetEnd => 7
  | .guideTake => 8
  | .parked => 9
  | .fault => 10

/-- The code of a mode (R189). -/
def LineMode.code : LineMode → Nat
  | .off => 0
  | .manual => 1
  | .pulse => 2
  | .delayed => 3
  | .toggle => 4

/-- The code of a wrap preference (the target record's layout). -/
def WrapPref.code : WrapPref → Nat
  | .auto => 0
  | .low => 1
  | .high => 2

/-- A byte of flags, bit 0 first. -/
def bitsByte (b0 b1 b2 : Bool) : List Byte :=
  [(if b0 then 1 else 0) ||| (if b1 then 2 else 0) ||| (if b2 then 4 else 0)]

/-! ### Records -/

/-- The fixed position of a record. -/
def TargetKind.position : TargetKind → Option (Axes Int)
  | .track => none
  | .fixed p => some p

/-- A record as kept, in the target record's layout (R188): the presence byte says which fields follow. -/
def Record.bytes (r : Record) : List Byte :=
  let p := r.kind.position
  natBytes 2 r.id ++ flagByte p.isSome ++ bitsByte r.earliest.isSome r.latest.isSome p.isSome ++
    (r.earliest.map timeBytes).getD [] ++ (r.latest.map timeBytes).getD [] ++ natBytes 4 r.dwell ++
    natBytes 4 r.maxHold ++ flagByte r.station ++ bitsByte r.guided r.guideRequired r.carryGuide ++
    natBytes 1 r.wrap.code ++ (p.map (axesInts 4)).getD []

/-- The results of an entry, each field with its presence (R37, the table before R30). -/
def Results.bytes (r : Results) : List Byte :=
  let count (f : Tally → Nat) := optionField (fun y => natBytes 4 (f y)) r.tally
  optionField timeBytes r.selectedAt ++ optionField (intBytes 2) r.wrapOffset ++
    optionField timeBytes r.capturedAt ++ optionField timeBytes r.trackingFrom ++
    optionField timeBytes r.endedAt ++ count Tally.onTargetMs ++ count Tally.guideTaken ++
    count Tally.guideMerged ++ count Tally.guideDiscarded ++ count Tally.guideSaturations ++
    count (fun y => y.largestLag.az) ++ count (fun y => y.largestLag.el) ++
    count (fun y => y.largestLag.rot) ++ count Tally.holdUsed

/-- The most recent end: the id and the outcome (R176). -/
def endBytes (x : Nat × EndOutcome) : List Byte := natBytes 2 x.1 ++ nameByte (.outcome x.2)

/-- A fault entry (R169, R173). -/
def FaultEntry.bytes (f : FaultEntry) : List Byte :=
  nameByte (.faultKind f.kind) ++ timeBytes f.mountTime ++ nameByte (.engine f.engine) ++
    optionField (natBytes 2) f.target

/-- What STATUS reports of one axis (R96). -/
def AxisReport.bytes (a : AxisReport) : List Byte :=
  intBytes 4 a.baseCounts ++ intBytes 4 a.vel ++ intBytes 4 a.wanted ++ intBytes 4 a.applied ++
    intBytes 4 a.host ++ intBytes 4 a.demand ++ intBytes 4 a.emitted ++ intBytes 4 a.lag

/-- The stop destination (R99). -/
def Engine.stopDest : Engine → Option StopDest
  | .stopping d => some d
  | .unset | .idle | .waiting | .slewing _ _ | .settling _ | .tracking _ | .holding _ | .parking | .parked
  | .stopped => none

/-- The slew timer (R99). -/
def Engine.slewTimer : Engine → Option Nat
  | .slewing n _ => some n
  | .unset | .idle | .waiting | .settling _ | .tracking _ | .holding _ | .stopping _ | .parking | .parked
  | .stopped => none

/-- The settle timer (R99). -/
def Engine.settleTimer : Engine → Option Nat
  | .settling n => some n
  | .unset | .idle | .waiting | .slewing _ _ | .tracking _ | .holding _ | .stopping _ | .parking | .parked
  | .stopped => none

/-- The dwell counter (R99). -/
def Engine.dwellCounter : Engine → Option Nat
  | .tracking n => some n
  | .holding n => some n
  | .unset | .idle | .waiting | .slewing _ _ | .settling _ | .stopping _ | .parking | .parked | .stopped =>
    none

/-- The engine record in the order of R99, the state first. -/
def StatusReport.engineBytes (r : StatusReport) : List Byte :=
  nameByte (.engine r.engine.state) ++ optionField (fun w => nameByte (.waitReason w)) r.waitReason ++
    optionField (fun d => nameByte (.stopDestination d)) r.engine.stopDest ++
    optionField (natBytes 4) r.engine.slewTimer ++ optionField (natBytes 2) r.engine.settleTimer ++
    optionField (natBytes 4) r.engine.dwellCounter ++ optionField (natBytes 4) r.holdCounter ++
    optionField (natBytes 2) r.activeId

/-- The fields of STATUS (R192). -/
def StatusReport.bytes (r : StatusReport) : List Byte :=
  let i := r.inputs
  r.engineBytes ++ r.axes.az.bytes ++ r.axes.el.bytes ++ r.axes.rot.bytes ++ flagByte r.nightFlag ++
    natBytes 2 r.free ++ flagByte i.driveFaultAz ++ flagByte i.driveFaultEl ++ flagByte i.driveFaultRot ++
    flagByte i.limitSwitch ++ flagByte i.instHold ++ flagByte i.shelter ++ flagByte r.enable ++
    flagByte r.onTarget ++ flagByte r.shelter ++ flagByte r.parkOwed ++ nameByte (.discipline r.discipline) ++
    flagByte r.timeValid ++ timeBytes r.mountTime ++ flagByte r.pageInUse ++ pairInts 2 r.lastCorrection ++
    pairInts 4 r.guideOffset

/-- The fields of GET_TIME (R16). -/
def TimeReport.bytes (r : TimeReport) : List Byte :=
  timeBytes r.mountTime ++ nameByte (.discipline r.discipline) ++ flagByte r.timeValid ++
    optionField timeBytes r.pendingSet ++ natBytes 1 r.goodCount ++ optionField (intBytes 4) r.phaseError ++
    natBytes 2 r.spurious

/-- The fields of TARGET_GET (R37). -/
def TargetReport.bytes (r : TargetReport) : List Byte :=
  natBytes 1 r.position ++ r.record.bytes ++ nameByte (.entry r.status) ++ r.results.bytes ++
    natBytes 2 r.chainLength ++ optionField timeBytes r.chainStart ++ optionField timeBytes r.chainEnd

/-- The fields of LIST_SUMMARY (R38). -/
def SummaryReport.bytes (r : SummaryReport) : List Byte :=
  flagByte r.nightFlag ++ natBytes 1 r.entries ++ natBytes 1 r.pending ++ natBytes 1 r.active ++
    natBytes 1 r.ended ++ optionField (natBytes 2) r.activeId ++
    r.items.flatMap fun x => natBytes 2 x.1 ++ nameByte (.entry x.2)

/-- The guide timer (R126, R137). -/
def GuideState.timer : GuideState → Option Nat
  | .guiding n => some n
  | .off | .seeking | .lost => none

/-- A guide state without its timer, as a reply names it. -/
def GuideState.byte : GuideState → List Byte
  | .off => nameByte (.guide .off)
  | .seeking => nameByte (.guide .seeking)
  | .guiding _ => nameByte (.guide (.guiding 0))
  | .lost => nameByte (.guide .lost)

/-- A mailbox: its presence and its two components, in the guide correction's layout, and the merge count (R127,
R137). -/
def mailboxBytes (m : Option Mailbox) (merges : Nat) : List Byte :=
  optionField (fun m => pairInts 2 m.correction) m ++ natBytes 2 merges

/-- The fields of GUIDE_STATUS (R137). -/
def GuideReport.bytes (r : GuideReport) : List Byte :=
  r.state.byte ++ pairInts 4 r.offset ++ mailboxBytes r.mailbox ((r.mailbox.map Mailbox.merges).getD 0) ++
    optionField (natBytes 4) r.state.timer ++ optionField (natBytes 2) r.activeId ++
    optionField flagByte r.guided ++ flagByte r.onTarget ++ nameByte (.engine r.engine) ++
    timeBytes r.mountTime

/-- The fields of ENC_STATUS (R144). -/
def EnclosureReport.bytes (r : EnclosureReport) : List Byte :=
  natBytes 4 r.mountAz.toNat ++ intBytes 4 r.velAz ++ natBytes 4 r.destinationAz.toNat ++
    nameByte (.engine r.engine) ++ flagByte r.shelter ++ flagByte r.shelterLine ++ flagByte r.shelterFlag ++
    flagByte r.parkOwed ++ nameByte (.alignment r.alignment) ++
    optionField (fun x : Nat × Nat => natBytes 4 x.1 ++ natBytes 4 x.2) r.report ++ timeBytes r.mountTime

/-- The fields of IDENTIFY (R191). -/
def Identity.bytes (r : Identity) : List Byte :=
  natBytes 2 r.vendor ++ natBytes 1 r.part ++ natBytes 1 r.revision ++ natBytes 1 r.listEntries ++
    natBytes 2 r.segmentSlots ++ natBytes 1 r.modelPages ++ natBytes 1 r.pageEntries ++
    natBytes 1 r.eventLines ++ natBytes 2 r.badChecks ++ natBytes 2 r.overruns ++ natBytes 2 r.timeouts

/-- The fields of EVENT_GET (R165, R189). -/
def EventLine.bytes (l : EventLine) (pinHigh : Bool) : List Byte :=
  natBytes 1 l.source.code ++ natBytes 1 l.mode.code ++ flagByte (!l.activeHigh) ++ natBytes 2 l.delay ++
    natBytes 2 l.width ++ nameByte (.linePhase l.phase) ++ optionField (natBytes 2) l.timer ++
    flagByte l.output ++ flagByte pinHigh ++ natBytes 2 l.ignored

/-- The fields of a reply after its status. The spec lays out no reply of SEGMENT_APPEND: the place, the length and the
free count in the order of R51, then the chain's start and end (R53), each only where the outcome carries it, is the
model's choice (log entry 10). -/
def ReplyFields.bytes : ReplyFields → List Byte
  | .none => []
  | .identity r => r.bytes
  | .notices held drives recentEnd recentStart =>
    noticeBytes held ++ noticeBytes drives ++ optionField endBytes recentEnd ++
      optionField (natBytes 2) recentStart
  | .latched held => noticeBytes held
  | .masks drives held => noticeBytes drives ++ noticeBytes held
  | .status r => r.bytes
  | .time r => r.bytes
  | .configAccepted code value => code :: intBytes 4 value
  | .configItem motion inForce pending =>
    nameByte (.itemClass motion) ++ intBytes 4 inForce ++ optionField (intBytes 4) pending
  | .position n => natBytes 1 n
  | .removed released free => natBytes 2 released ++ natBytes 2 free
  | .purged gone remaining => natBytes 1 gone ++ natBytes 1 remaining
  | .target r => r.bytes
  | .summary r => r.bytes
  | .chain length free span place =>
    (place.map (natBytes 1)).getD [] ++ natBytes 2 length ++ natBytes 2 free ++
      (span.map fun x : Nat × Nat => timeBytes x.1 ++ timeBytes x.2).getD []
  | .pointers write read => write.bytes ++ read.bytes
  | .writePointer write => write.bytes
  | .modelPairs start pairs pageInUse last =>
    start.bytes ++ pairs.flatMap (fun p => pairInts 2 (p.map BitVec.toInt)) ++ flagByte pageInUse ++
      pairInts 2 last
  | .offsets host => axesInts 4 host
  | .eventLine l pinHigh => l.bytes pinHigh
  | .faults r d limitSwitch engine =>
    optionField FaultEntry.bytes r.first ++ optionField FaultEntry.bytes r.second ++ natBytes 1 r.overflow ++
      flagByte d.az ++ flagByte d.el ++ flagByte d.rot ++ flagByte limitSwitch ++ nameByte (.engine engine)
  | .correction mailbox merges state => mailboxBytes mailbox merges ++ state.byte
  | .guide r => r.bytes
  | .emptied count state => natBytes 4 count ++ state.byte
  | .encAccepted engine shelter parkOwed =>
    nameByte (.engine engine) ++ flagByte shelter ++ flagByte parkOwed
  | .enclosure r => r.bytes

/-! ### The reply -/

/-- The payload of a reply: the status code first, then the fields (R183, R187). -/
def Answer.payload (a : Answer) : List Byte := a.status.code :: a.fields.bytes

/-- A reply formed: its LEN is the number of its payload bytes, and its CHECK is formed over LEN, KIND and payload as a
request's is (R181, R183). -/
def Reply.form (kind : Byte) (a : Answer) : Reply :=
  let len : Byte := BitVec.ofNat 8 a.payload.length
  ⟨kind, len, crc (len :: kind :: a.payload), a⟩

/-- The bytes of a reply on the line: SYNC, LEN, KIND, the payload and CHECK (R180, R183). -/
def Reply.frame (r : Reply) : List Byte := 0xC3 :: r.len :: r.kind :: r.answer.payload ++ [r.check]

end Sys2Proof.Machine
end

