-- ==== Sys2Proof/Machine/Ports.lean ====
section
/-! DEFINITION. The link ports: the gap within a frame, how a request is taken and answered (R180 to R185), and the baud
rate of each (R167). -/

namespace Sys2Proof.Machine

/-- A port changed. -/
def State.onPort (l : Link) (f : Port → Port) (s : State) : State :=
  { s with ports := s.ports.set l (f (s.ports.get l)) }

/-! ### The gap within a frame -/

/-- The receiver has a frame in assembly: any phase but HUNT (R180). -/
def Receiver.assembling : Receiver → Bool
  | .hunt => false
  | .length => true
  | .kind _ => true
  | .payload _ _ _ => true
  | .check _ _ _ => true

/-- A frame in assembly abandoned: discarded without a reply, counted, and the receiver in HUNT. In HUNT
nothing is counted (R180). -/
def Port.abandon (p : Port) : Port :=
  if p.receiver.assembling then
    { p with receiver := .hunt, gap := 0, timeouts := count16 p.timeouts 1 }
  else p

/-- The longest gap within a frame, in oscillator microseconds (R180). -/
def gapLimit : Nat := 20000

/-- `n` oscillator microseconds with no byte: within a frame the gap grows, and at the moment it passes 20,000 the frame is
abandoned (R180). A byte counts as one moment (log entry 11). -/
def Port.pass (n : Nat) (p : Port) : Port :=
  if n = 0 then p
  else if p.receiver.assembling then
    if gapLimit < p.gap + n then p.abandon else { p with gap := p.gap + n }
  else p

/-- Microseconds until the gap within the frame in assembly passes 20,000 (R180). -/
def Port.untilTimeout (p : Port) : Option Nat :=
  if p.receiver.assembling then some (gapLimit + 1 - p.gap) else none

/-! ### Requests -/

/-- A reply with the status alone. -/
def Answer.only (st : Status) : Answer := ⟨st, .none⟩

/-- The KIND of a reply to a request of a kind: the kind plus 0x80 (R183). -/
def replyKind (kind : Byte) : Byte := kind + 0x80

/-- A complete frame that found the transmitter sending: discarded and counted (R184). -/
def Port.overrun (p : Port) : Port :=
  { p with receiver := .hunt, gap := 0, overruns := count16 p.overruns 1 }

/-- A reply is formed, and its transmission begins (R181, R183, R184). -/
def Port.send (kind : Byte) (a : Answer) (p : Port) : Port :=
  { p with receiver := .hunt, gap := 0, sending := some (Reply.form kind a) }

/-- A request's frame completes on a link (R183, R184): with the transmitter sending it is an overrun with
no effect; else the request is taken, and the reply carries what the block answers after its effect.
While RESET_N is low the port receives nothing (R185). -/
def State.request (l : Link) (kind : Byte) (effect : State → State × Answer) (s : State) : State :=
  if s.resetLow then s
  else
    match (s.ports.get l).sending with
    | some _ => s.onPort l Port.overrun
    | none =>
      let r := effect s
      r.1.onPort l (Port.send (replyKind kind) r.2)

/-- A port's own answer to a frame that reaches no other block (R182): the status alone. -/
def State.reject (l : Link) (kind : Byte) (st : Status) (s : State) : State :=
  s.onPort l (Port.send kind (.only st))

/-! ### Straps -/

/-- The baud rate that a link's two straps set (R167). -/
def baudRate (x : Straps) : Nat :=
  match x.rate1, x.rate0 with
  | false, false => 38400
  | false, true => 115200
  | true, false => 230400
  | true, true => 460800

/-- The baud rate of a port: what its straps set at the last reading of them (R167). -/
def Port.baud (p : Port) : Nat := baudRate p.straps

end Sys2Proof.Machine
end

