-- ==== Sys2Proof/Machine/Cycle.lean ====
section
/-! DEFINITION. The requests that start, stop and park the night, and the host offset: NIGHT_START, NIGHT_STOP,
TARGET_ABORT, PARK, OFFSET_SET (R80, R100 to R103, R193). -/

namespace Sys2Proof.Machine

/-- NIGHT_START (R100): from PARKED the drives are enabled, and an asserted fault input gives its fault event
within the request (R168). -/
def nightStart (s : State) : State × Answer :=
  if s.engine = .unset then (s, .only .unset)
  else if s.engine = .stopped then (s, .only .stopped)
  else if s.engine ≠ .idle ∧ s.engine ≠ .parked then (s, .only .wrongState)
  else if s.enclosure.shelter then (s, .only .sheltered)
  else if s.time.timeValid = false then (s, .only .noTime)
  else
    (((State.raise .night (s.withNightFlag true)).withReason none).enterEnabling .waiting, .only .ok)

/-- NIGHT_START on the schedule link (R100, R186). -/
def execNightStart (s : State) : Host.Outcome State Fault Refusal :=
  .next (s.request .schedule 0x40 nightStart)

/-- The ACTIVE entry ends by a request, with G at 0, and the engine enters STOPPING (R91, R101, R102, R135). -/
def State.stopTarget (o : EndOutcome) (dest : StopDest) (s : State) : State :=
  (((s.endActive o).zeroGuide).withReason none).enter (.stopping dest)

/-- NIGHT_STOP (R101). -/
def nightStop (s : State) : State × Answer :=
  match s.engine with
  | .slewing _ _ => (s.stopTarget .stopped .idle, .only .ok)
  | .settling _ => (s.stopTarget .stopped .idle, .only .ok)
  | .tracking _ => (s.stopTarget .stopped .idle, .only .ok)
  | .holding _ => (s.stopTarget .stopped .idle, .only .ok)
  | .waiting => ((s.withReason none).enter (.stopping .idle), .only .ok)
  | .stopping .waiting => ((s.withReason none).enter (.stopping .idle), .only .ok)
  | .stopping .idle => (s, .only .wrongState)
  | .unset => (s, .only .wrongState)
  | .idle => (s, .only .wrongState)
  | .parking => (s, .only .wrongState)
  | .parked => (s, .only .wrongState)
  | .stopped => (s, .only .wrongState)

/-- NIGHT_STOP on the schedule link (R101, R186). -/
def execNightStop (s : State) : Host.Outcome State Fault Refusal :=
  .next (s.request .schedule 0x41 nightStop)

/-- TARGET_ABORT (R102). -/
def targetAbort (id : BitVec 16) (s : State) : State × Answer :=
  if s.engine.isTarget = true ∧ s.activeId = some id.toNat then
    (s.stopTarget .aborted .waiting, .only .ok)
  else (s, .only .wrongState)

/-- TARGET_ABORT on the schedule link (R102, R186). -/
def execTargetAbort (id : BitVec 16) (s : State) : Host.Outcome State Fault Refusal :=
  .next (s.request .schedule 0x42 (targetAbort id))

/-- PARK (R103). -/
def park (s : State) : State × Answer :=
  match s.engine with
  | .idle => (s.enterParking, .only .ok)
  | .waiting => (s.enterParking, .only .ok)
  | .slewing _ _ => ((s.endActive .parked).enterParking, .only .ok)
  | .settling _ => ((s.endActive .parked).enterParking, .only .ok)
  | .tracking _ => ((s.endActive .parked).enterParking, .only .ok)
  | .holding _ => ((s.endActive .parked).enterParking, .only .ok)
  | .stopping _ => (s.enterParking, .only .ok)
  | .parking => (s, .only .ok)
  | .parked => (s, .only .ok)
  | .unset => (s, .only .unset)
  | .stopped => (s, .only .stopped)

/-- PARK on the schedule link (R103, R186). -/
def execPark (s : State) : Host.Outcome State Fault Refusal :=
  .next (s.request .schedule 0x43 park)

/-- The host offset of every axis replaced (R80). -/
def State.withHost (h : Axes Int) (s : State) : State :=
  { s with axes := h.map₂ (fun v a => { a with host := v }) s.axes }

/-- Every component lies in −262,144 to 262,144 (R80, R193). -/
def offsetAllowed (h : Axes Int) : Bool :=
  h.all fun v => decide (-262144 ≤ v) && decide (v ≤ 262144)

/-- OFFSET_SET (R193). -/
def offsetSet (d : Axes (BitVec 32)) (s : State) : State × Answer :=
  if s.engine.followsTarget = false then (s, .only .notTracking)
  else if offsetAllowed (signedAxes d) = false then (s, .only .badValue)
  else (s.withHost (signedAxes d), ⟨.ok, .offsets (signedAxes d)⟩)

/-- OFFSET_SET on the schedule link (R193, R186). -/
def execOffsetSet (d : Axes (BitVec 32)) (s : State) : Host.Outcome State Fault Refusal :=
  .next (s.request .schedule 0x44 (offsetSet d))

end Sys2Proof.Machine
end

