-- ==== Sys2Proof/Machine/EncRequests.lean ====
section
/-! DEFINITION. The enclosure link's requests: ENC_REPORT and ENC_STATUS (R140, R144). -/

namespace Sys2Proof.Machine

/-- ENC_REPORT (R140): the report replaced, its age 0, and the shelter condition formed again. -/
def encReport (slit : BitVec 32) (flag : Byte) (s : State) : State × Answer :=
  match bitOfCode flag with
  | none => (s, .only .badValue)
  | some b =>
    if 16777215 < slit.toNat then (s, .only .badValue)
    else
      let s1 :=
        { s with enclosure := { s.enclosure with report := some ⟨slit.toNat, b, 0⟩ } }.formShelter
      (s1, ⟨.ok, .encAccepted s1.engine.state s1.enclosure.shelter s1.enclosure.parkOwed⟩)

/-- ENC_REPORT on the enclosure link (R140, R186). -/
def execEncReport (slit : BitVec 32) (flag : Byte) (s : State) : Host.Outcome State Fault Refusal :=
  .next (s.request .enclosure 0x70 (encReport slit flag))

/-- The destination azimuth (R144): in SLEWING the target's position last evaluated, in PARKING the park
azimuth, else the demand, each taken mod full turn. -/
def State.destinationAz (s : State) : Int :=
  match s.engine with
  | .slewing _ az => az % fullTurn
  | .parking => s.inForce.park.az % fullTurn
  | .unset | .idle | .waiting | .settling _ | .tracking _ | .holding _ | .stopping _ | .parked
  | .stopped => s.axes.az.demand % fullTurn

/-- ENC_STATUS (R144). -/
def encStatus (s : State) : State × Answer :=
  (s,
    ⟨.ok,
      .enclosure
        { mountAz := s.axes.az.demand % fullTurn
          velAz := s.axes.az.vel
          destinationAz := s.destinationAz
          engine := s.engine.state
          shelter := s.enclosure.shelter
          shelterLine := s.inputs.shelter.level
          shelterFlag := s.enclosure.report.any EncReport.flag
          parkOwed := s.enclosure.parkOwed
          alignment := s.enclosure.alignment
          report := s.enclosure.report.map fun r => (r.slit, r.age)
          mountTime := s.time.mountTime }⟩)

/-- ENC_STATUS on the enclosure link (R144, R186). -/
def execEncStatus (s : State) : Host.Outcome State Fault Refusal :=
  .next (s.request .enclosure 0x71 encStatus)

end Sys2Proof.Machine
end

