-- ==== Sys2Proof/Machine/EventLines.lean ====
section
/-! DEFINITION. The event lines' requests: EVENT_CONFIG, EVENT_SET, EVENT_GET (R164, R165). -/

namespace Sys2Proof.Machine

/-- One event line replaced. -/
def State.withLine (id : LineId) (l : EventLine) (s : State) : State :=
  { s with lines := s.lines.set id l }

/-- EVENT_CONFIG (R164): the running delay or pulse is cancelled, the ignored count becomes 0, and the
new configuration applies. -/
def eventConfig (line source mode polarity : Byte) (delay width : BitVec 16) (s : State) :
    State × Answer :=
  match lineOfCode line, sourceOfCode source, modeOfCode mode, bitOfCode polarity with
  | some id, some src, some m, some activeLow =>
    if delay.toNat = 0 ∨ width.toNat = 0 then (s, .only .badValue)
    else
      (s.withLine id
        { source := src
          mode := m
          activeHigh := !activeLow
          delay := delay.toNat
          width := width.toNat
          phase := .quiet
          timer := none
          output := false
          ignored := 0
          fresh := false }, .only .ok)
  | _, _, _, _ => (s, .only .badValue)

/-- EVENT_CONFIG on the schedule link (R164, R186). -/
def execEventConfig (line source mode polarity : Byte) (delay width : BitVec 16) (s : State) :
    Host.Outcome State Fault Refusal :=
  .next (s.request .schedule 0x50 (eventConfig line source mode polarity delay width))

/-- EVENT_SET (R165). -/
def eventSet (line level : Byte) (s : State) : State × Answer :=
  match lineOfCode line, bitOfCode level with
  | some id, some b =>
    let l := s.lines.get id
    if l.mode = .manual then (s.withLine id { l with output := b }, .only .ok)
    else (s, .only .wrongState)
  | _, _ => (s, .only .badValue)

/-- EVENT_SET on the schedule link (R165, R186). -/
def execEventSet (line level : Byte) (s : State) : Host.Outcome State Fault Refusal :=
  .next (s.request .schedule 0x51 (eventSet line level))

/-- EVENT_GET (R165). -/
def eventGet (line : Byte) (s : State) : State × Answer :=
  match lineOfCode line with
  | none => (s, .only .badValue)
  | some id => (s, ⟨.ok, .eventLine (s.lines.get id) (s.lines.get id).pinHigh⟩)

/-- EVENT_GET on the schedule link (R165, R186). -/
def execEventGet (line : Byte) (s : State) : Host.Outcome State Fault Refusal :=
  .next (s.request .schedule 0x52 (eventGet line))

end Sys2Proof.Machine
end

