-- ==== Sys2Proof/Machine/FaultRequests.lean ====
section
/-! DEFINITION. The fault record's requests: FAULT_READ and FAULT_CLEAR (R173, R174). -/

namespace Sys2Proof.Machine

/-- FAULT_READ (R173). -/
def faultRead (s : State) : State × Answer :=
  (s,
    ⟨.ok,
      .faults s.faults
        ⟨s.inputs.driveFaultAz.level, s.inputs.driveFaultEl.level, s.inputs.driveFaultRot.level⟩
        s.inputs.limitSwitch.level s.engine.state⟩)

/-- FAULT_READ on the schedule link (R173, R186). -/
def execFaultRead (s : State) : Host.Outcome State Fault Refusal :=
  .next (s.request .schedule 0x58 faultRead)

/-- FAULT_CLEAR (R174). -/
def faultClear (s : State) : State × Answer :=
  if s.engine ≠ .stopped then (s, .only .wrongState)
  else if s.faultAsserted then (s, .only .stillActive)
  else ({ s with faults := ⟨none, none, 0⟩ }.enter .unset, .only .ok)

/-- FAULT_CLEAR on the schedule link (R174, R186). -/
def execFaultClear (s : State) : Host.Outcome State Fault Refusal :=
  .next (s.request .schedule 0x59 faultClear)

end Sys2Proof.Machine
end

