-- ==== Sys2Proof/Machine/Frames.lean ====
section
/-! DEFINITION. How a complete frame is read: the kinds of each link with the payload lengths they allow, and
the fields of each payload, most significant byte first (R182, R186, R188, R189; 00_scope.md, "Wire format"). -/

namespace Sys2Proof.Machine

/-! ### Fields -/

/-- The number bytes spell, most significant first. -/
def bytesNat (bytes : List Byte) : Nat := bytes.foldl (fun n b => n * 256 + b.toNat) 0

/-- The field of `8·n` bits that starts at an offset. -/
def field (n off : Nat) (bytes : List Byte) : BitVec (8 * n) :=
  BitVec.ofNat (8 * n) (bytesNat ((bytes.drop off).take n))

/-- Three fields of `n` bytes, for AZ, EL and ROT, `stride` bytes apart. -/
def axesField (n stride off : Nat) (bytes : List Byte) : Axes (BitVec (8 * n)) :=
  ⟨field n off bytes, field n (off + stride) bytes, field n (off + 2 * stride) bytes⟩

/-- Two 16-bit fields, for AZ and EL: a guide correction or a model pair. -/
def pairField (off : Nat) (bytes : List Byte) : AzEl (BitVec 16) :=
  ⟨field 2 off bytes, field 2 (off + 2) bytes⟩

/-- `n` model pairs in the order sent (R67). -/
def pairsField : Nat → List Byte → List (AzEl (BitVec 16))
  | 0, _ => []
  | n + 1, bytes => pairField 0 bytes :: pairsField n (bytes.drop 4)

/-- One segment of 50 bytes (the segment's layout before R188). -/
def segmentField (bytes : List Byte) : Segment where
  t0 := field 6 0 bytes
  len := field 2 6 bytes
  p0 := axesField 6 14 8 bytes
  v0 := axesField 4 14 14 bytes
  a := axesField 4 14 18 bytes

/-- `n` segments in the order sent (R51). -/
def segmentsField : Nat → List Byte → List Segment
  | 0, _ => []
  | n + 1, bytes => segmentField bytes :: segmentsField n (bytes.drop 50)

/-- The length of a target record with a presence byte (R188). -/
def recordLength (presence : Byte) : Nat :=
  15 + (if presence.getLsbD 0 then 6 else 0) + (if presence.getLsbD 1 then 6 else 0) +
    (if presence.getLsbD 2 then 12 else 0)

/-- A target record, or none where the length is not the one its presence byte gives (R188). -/
def recordField (bytes : List Byte) : Option TargetRecord :=
  let presence : Byte := field 1 3 bytes
  let mid := 4 + (if presence.getLsbD 0 then 6 else 0)
  let fixedAt := mid + (if presence.getLsbD 1 then 6 else 0)
  if 4 ≤ bytes.length ∧ bytes.length = recordLength presence then
    some
      { id := field 2 0 bytes
        kind := field 1 2 bytes
        presence := presence
        earliest := if presence.getLsbD 0 then some (field 6 4 bytes) else none
        latest := if presence.getLsbD 1 then some (field 6 mid bytes) else none
        dwell := field 4 fixedAt bytes
        maxHold := field 4 (fixedAt + 4) bytes
        station := field 1 (fixedAt + 8) bytes
        flags := field 1 (fixedAt + 9) bytes
        wrap := field 1 (fixedAt + 10) bytes
        fixedPosition :=
          if presence.getLsbD 2 then some (axesField 4 4 (fixedAt + 11) bytes) else none }
  else none

/-! ### Kinds and lengths -/

/-- What the port finds in a frame whose CHECK is right (R182, steps 2 and 3). -/
inductive Judged where
  | unknownKind
  | badLength
  | request (command : Instr)
deriving DecidableEq, Repr

/-- A request of exactly `n` payload bytes (R186). -/
def sized (n : Nat) (payload : List Byte) (i : Instr) : Judged :=
  if payload.length = n then .request i else .badLength

/-- A request whose payload gives a command or is of a length not allowed. -/
def orBadLength : Option Instr → Judged
  | some i => .request i
  | none => .badLength

/-- The four kinds of every link (R186). -/
def judgeCommon (l : Link) (kind : Nat) (p : List Byte) : Judged :=
  match kind with
  | 0x01 => sized 0 p (.identify l)
  | 0x02 => sized 0 p (.noticeRead l)
  | 0x03 => sized 2 p (.noticeAck l (field 2 0 p))
  | 0x04 => sized 2 p (.noticeMask l (field 2 0 p))
  | _ => .unknownKind

/-- The kinds of the schedule link (R186). -/
def judgeSchedule (kind : Nat) (p : List Byte) : Judged :=
  match kind with
  | 0x10 => sized 0 p .status
  | 0x11 => sized 0 p .getTime
  | 0x12 => sized 6 p (.setTime (field 6 0 p))
  | 0x13 => sized 12 p (.setPosition (axesField 4 4 0 p))
  | 0x14 => sized 5 p (.setConfig (field 1 0 p) (field 4 1 p))
  | 0x15 => sized 1 p (.getConfig (field 1 0 p))
  | 0x16 => sized 0 p .softReset
  | 0x20 => orBadLength ((recordField p).map .targetAppend)
  | 0x21 => orBadLength ((recordField (p.drop 2)).map (.targetInsert (field 2 0 p)))
  | 0x22 => sized 2 p (.targetRemove (field 2 0 p))
  | 0x23 => sized 0 p .listPurge
  | 0x24 => sized 2 p (.targetGet (field 2 0 p))
  | 0x25 => sized 0 p .listSummary
  | 0x26 =>
    let n := (p.length - 2) / 50
    if 1 ≤ n ∧ n ≤ 4 ∧ p.length = 2 + 50 * n then
      .request (.segmentAppend (field 2 0 p) (segmentsField n (p.drop 2)))
    else .badLength
  | 0x30 => sized 3 p (.modelSeek (field 1 0 p) (field 1 1 p) (field 1 2 p))
  | 0x31 =>
    let n := p.length / 4
    if 1 ≤ n ∧ n ≤ 60 ∧ p.length = 4 * n then .request (.modelWrite (pairsField n p)) else .badLength
  | 0x32 => sized 1 p (.modelRead (field 1 0 p))
  | 0x40 => sized 0 p .nightStart
  | 0x41 => sized 0 p .nightStop
  | 0x42 => sized 2 p (.targetAbort (field 2 0 p))
  | 0x43 => sized 0 p .park
  | 0x44 => sized 12 p (.offsetSet (axesField 4 4 0 p))
  | 0x50 =>
    sized 8 p
      (.eventConfig (field 1 0 p) (field 1 1 p) (field 1 2 p) (field 1 3 p) (field 2 4 p) (field 2 6 p))
  | 0x51 => sized 2 p (.eventSet (field 1 0 p) (field 1 1 p))
  | 0x52 => sized 1 p (.eventGet (field 1 0 p))
  | 0x58 => sized 0 p .faultRead
  | 0x59 => sized 0 p .faultClear
  | _ => judgeCommon .schedule kind p

/-- The kinds of the guide link (R186). -/
def judgeGuide (kind : Nat) (p : List Byte) : Judged :=
  match kind with
  | 0x60 => sized 4 p (.guideCorrect (pairField 0 p))
  | 0x61 => sized 0 p .guideStatus
  | 0x62 => sized 0 p .guideZero
  | _ => judgeCommon .guide kind p

/-- The kinds of the enclosure link (R186). -/
def judgeEnclosure (kind : Nat) (p : List Byte) : Judged :=
  match kind with
  | 0x70 => sized 5 p (.encReport (field 4 0 p) (field 1 4 p))
  | 0x71 => sized 0 p .encStatus
  | _ => judgeCommon .enclosure kind p

/-- A frame's KIND and payload judged on its link (R182, R186, R188). -/
def judgeFrame (l : Link) (kind : Byte) (payload : List Byte) : Judged :=
  match l with
  | .schedule => judgeSchedule kind.toNat payload
  | .guide => judgeGuide kind.toNat payload
  | .enclosure => judgeEnclosure kind.toNat payload

/-- The KIND of the reply to a kind outside the link's set (R182): 0xFF for 0x80 or above. -/
def unknownReplyKind (kind : Byte) : Byte := if kind.toNat < 128 then replyKind kind else 0xFF

end Sys2Proof.Machine
end

