-- ==== Sys2Proof/Machine/Guiding.lean ====
section
/-! DEFINITION. The guide link's requests: GUIDE_CORRECT, GUIDE_STATUS, GUIDE_ZERO (R127 to R129, R136, R137). -/

namespace Sys2Proof.Machine

/-- The ACTIVE entry is guided (R23, R127). -/
def State.activeGuided (s : State) : Bool := s.activeEntry.any fun e => e.record.guided

/-- What a guide request is refused with, or none (R127, R136). -/
def State.guideRefusal (s : State) : Option Status :=
  if s.engine.followsTarget = false then some .notTracking
  else if s.activeGuided = false then some .notGuided
  else none

/-- A correction clamped to ±GUIDE_STEP_MAX joins the mailbox; the status says whether it was merged and whether
some clamp acted (R128). -/
def mergeCorrection (limit : Int) (d : AzEl Int) (box : Option Mailbox) : Mailbox × Status :=
  let c := d.map (clampAbs limit)
  match box with
  | none => (⟨c, 0⟩, if c = d then .ok else .clamped)
  | some m =>
    let sum := m.correction.map₂ (· + ·) c
    let kept := sum.map (clampAbs limit)
    (⟨kept, count16 m.merges 1⟩, if c = d ∧ kept = sum then .merged else .mergedClamped)

/-- The fields of a GUIDE_CORRECT reply (R127). -/
def Guide.correctionFields (g : Guide) : ReplyFields :=
  .correction g.mailbox ((g.mailbox.map Mailbox.merges).getD 0) g.state

/-- GUIDE_CORRECT (R127 to R129). -/
def guideCorrect (d : AzEl (BitVec 16)) (s : State) : State × Answer :=
  match s.guideRefusal with
  | some st => (s, ⟨st, s.guide.correctionFields⟩)
  | none =>
    let m := mergeCorrection s.inForce.guideStepMax (signedPair d) s.guide.mailbox
    let g := { s.guide with mailbox := some m.1, state := .guiding 0 }
    (s.withGuide g, ⟨m.2, g.correctionFields⟩)

/-- GUIDE_CORRECT on the guide link (R127, R186). -/
def execGuideCorrect (d : AzEl (BitVec 16)) (s : State) : Host.Outcome State Fault Refusal :=
  .next (s.request .guide 0x60 (guideCorrect d))

/-- GUIDE_STATUS (R137). -/
def guideStatus (s : State) : State × Answer :=
  (s,
    ⟨.ok,
      .guide
        { state := s.guide.state
          offset := s.guide.offset
          mailbox := s.guide.mailbox
          activeId := s.activeId
          guided := s.activeEntry.map fun e => e.record.guided
          onTarget := s.onTarget
          engine := s.engine.state
          mountTime := s.time.mountTime }⟩)

/-- GUIDE_STATUS on the guide link (R137, R186). -/
def execGuideStatus (s : State) : Host.Outcome State Fault Refusal :=
  .next (s.request .guide 0x61 guideStatus)

/-- GUIDE_ZERO (R136). -/
def guideZero (s : State) : State × Answer :=
  match s.guideRefusal with
  | some st => (s, .only st)
  | none => (s.discardMailbox.zeroGuide, ⟨.ok, .emptied s.guide.held s.guide.state⟩)

/-- GUIDE_ZERO on the guide link (R136, R186). -/
def execGuideZero (s : State) : Host.Outcome State Fault Refusal :=
  .next (s.request .guide 0x62 guideZero)

end Sys2Proof.Machine
end

