-- ==== Sys2Proof/Machine/ListEdit.lean ====
section
/-! DEFINITION. The night list's requests: TARGET_APPEND, TARGET_INSERT, TARGET_REMOVE, LIST_PURGE, TARGET_GET,
LIST_SUMMARY (R33 to R38). -/

namespace Sys2Proof.Machine

/-- The list's capacity (R18). -/
def listCapacity : Nat := 64

/-- No result reached. -/
def Results.empty : Results := ⟨none, none, none, none, none, none⟩

/-- A new PENDING entry with an empty chain (R33). -/
def newEntry (r : Record) : Entry := ⟨r, .pending, .empty, []⟩

/-- The place of an id in the list, counted from 1 at the head; 0 where it is not present (R18). -/
def positionOf (id : Nat) : List Entry → Nat
  | [] => 0
  | e :: rest =>
    if e.record.id = id then 1
    else if positionOf id rest = 0 then 0
    else positionOf id rest + 1

/-- A new entry placed immediately before the entry with an id (R34). -/
def insertBefore (named : Nat) (x : Entry) : List Entry → List Entry
  | [] => []
  | e :: rest => if e.record.id = named then x :: e :: rest else e :: insertBefore named x rest

/-- The first entry with an id taken out (R35). -/
def removeId (id : Nat) : List Entry → List Entry
  | [] => []
  | e :: rest => if e.record.id = id then rest else e :: removeId id rest

/-- An id is present, in any state (R33). -/
def State.hasId (s : State) (id : Nat) : Bool := s.night.entries.any fun e => e.record.id = id

/-- TARGET_APPEND (R33). -/
def targetAppend (r : TargetRecord) (s : State) : State × Answer :=
  if recordLengthOk r = false then (s, .only .badLength)
  else
    match recordOf r with
    | none => (s, .only .badValue)
    | some rec =>
      if s.hasId rec.id then (s, .only .duplicateId)
      else if listCapacity ≤ s.night.entries.length then (s, .only .listFull)
      else
        (s.withEntries (s.night.entries ++ [newEntry rec]),
          ⟨.ok, .position (s.night.entries.length + 1)⟩)

/-- TARGET_APPEND on the schedule link (R33, R186). -/
def execTargetAppend (r : TargetRecord) (s : State) : Host.Outcome State Fault Refusal :=
  .next (s.request .schedule 0x20 (targetAppend r))

/-- TARGET_INSERT (R34). -/
def targetInsert (named : BitVec 16) (r : TargetRecord) (s : State) : State × Answer :=
  if recordLengthOk r = false then (s, .only .badLength)
  else
    match recordOf r with
    | none => (s, .only .badValue)
    | some rec =>
      match s.entryOf named.toNat with
      | none => (s, .only .noSuchTarget)
      | some e =>
        if e.isPending = false then (s, .only .notPending)
        else if s.hasId rec.id then (s, .only .duplicateId)
        else if listCapacity ≤ s.night.entries.length then (s, .only .listFull)
        else
          (s.withEntries (insertBefore named.toNat (newEntry rec) s.night.entries),
            ⟨.ok, .position (positionOf named.toNat s.night.entries)⟩)

/-- TARGET_INSERT on the schedule link (R34, R186). -/
def execTargetInsert (named : BitVec 16) (r : TargetRecord) (s : State) :
    Host.Outcome State Fault Refusal :=
  .next (s.request .schedule 0x21 (targetInsert named r))

/-- TARGET_REMOVE (R35). -/
def targetRemove (id : BitVec 16) (s : State) : State × Answer :=
  match s.entryOf id.toNat with
  | none => (s, .only .noSuchTarget)
  | some e =>
    if e.isActive then (s, .only .wrongState)
    else
      let s1 := s.withEntries (removeId id.toNat s.night.entries)
      let s2 := { s1 with free := s1.free + e.chain.length }
      (s2, ⟨.ok, .removed e.chain.length s2.free⟩)

/-- TARGET_REMOVE on the schedule link (R35, R186). -/
def execTargetRemove (id : BitVec 16) (s : State) : Host.Outcome State Fault Refusal :=
  .next (s.request .schedule 0x22 (targetRemove id))

/-- LIST_PURGE (R36). -/
def listPurge (s : State) : State × Answer :=
  let kept := s.night.entries.filter fun e => !e.isEnded
  (s.withEntries kept, ⟨.ok, .purged (s.night.entries.length - kept.length) kept.length⟩)

/-- LIST_PURGE on the schedule link (R36, R186). -/
def execListPurge (s : State) : Host.Outcome State Fault Refusal :=
  .next (s.request .schedule 0x23 listPurge)

/-- TARGET_GET (R37). -/
def targetGet (id : BitVec 16) (s : State) : State × Answer :=
  match s.entryOf id.toNat with
  | none => (s, .only .noSuchTarget)
  | some e =>
    (s,
      ⟨.ok,
        .target
          { position := positionOf id.toNat s.night.entries
            record := e.record
            status := e.status
            results := e.results
            chainLength := e.chain.length
            chainStart := (chainSpan e.chain).map Prod.fst
            chainEnd := (chainSpan e.chain).map Prod.snd }⟩)

/-- TARGET_GET on the schedule link (R37, R186). -/
def execTargetGet (id : BitVec 16) (s : State) : Host.Outcome State Fault Refusal :=
  .next (s.request .schedule 0x24 (targetGet id))

/-- LIST_SUMMARY (R38). -/
def listSummary (s : State) : State × Answer :=
  let es := s.night.entries
  (s,
    ⟨.ok,
      .summary
        { nightFlag := s.night.flag
          entries := es.length
          pending := (es.filter Entry.isPending).length
          active := (es.filter Entry.isActive).length
          ended := (es.filter Entry.isEnded).length
          activeId := s.activeId
          items := es.map fun e => (e.record.id, e.status) }⟩)

/-- LIST_SUMMARY on the schedule link (R38, R186). -/
def execListSummary (s : State) : Host.Outcome State Fault Refusal :=
  .next (s.request .schedule 0x25 listSummary)

end Sys2Proof.Machine
end

