-- ==== Sys2Proof/Machine/ModelLoad.lean ====
section
/-! DEFINITION. The model table's requests: MODEL_SEEK, MODEL_WRITE, MODEL_READ (R65 to R69). -/

namespace Sys2Proof.Machine

/-- The model table replaced. -/
def State.withModel (m : ModelTable) (s : State) : State := { s with model := m }

/-- MODEL_SEEK (R66): pointer code 0 names the write pointer and 1 the read pointer (R189). DESIGN CHOICE (log entry 31): a
refusal carries the status alone, though R66 does not limit the two pointers of its reply to the status OK. -/
def modelSeek (pointer page index : Byte) (s : State) : State × Answer :=
  match bitOfCode pointer, bitOfCode page with
  | some toRead, some p =>
    if 127 < index.toNat then (s, .only .badValue)
    else
      let m :=
        if toRead then { s.model with readPtr := ⟨p, index.toNat⟩ }
        else { s.model with writePtr := ⟨p, index.toNat⟩ }
      (s.withModel m, ⟨.ok, .pointers m.writePtr m.readPtr⟩)
  | _, _ => (s, .only .badValue)

/-- MODEL_SEEK on the schedule link (R66, R186). -/
def execModelSeek (pointer page index : Byte) (s : State) : Host.Outcome State Fault Refusal :=
  .next (s.request .schedule 0x30 (modelSeek pointer page index))

/-- MODEL_WRITE (R67). A request of no pair or of more than 60 has no frame the port takes (R186). -/
def modelWrite (pairs : List Pair) (s : State) : State × Answer :=
  if pairs.length = 0 ∨ 60 < pairs.length then (s, .only .badLength)
  else
    let m :=
      { s.model with
        cells := writePairs s.model.cells s.model.writePtr pairs
        writePtr := s.model.writePtr.advance pairs.length }
    (s.withModel m, ⟨.ok, .writePointer m.writePtr⟩)

/-- MODEL_WRITE on the schedule link (R67, R186). -/
def execModelWrite (pairs : List (AzEl (BitVec 16))) (s : State) : Host.Outcome State Fault Refusal :=
  .next (s.request .schedule 0x31 (modelWrite pairs))

/-- MODEL_READ (R68). -/
def modelRead (count : Byte) (s : State) : State × Answer :=
  if count.toNat = 0 ∨ 60 < count.toNat then (s, .only .badValue)
  else
    (s.withModel { s.model with readPtr := s.model.readPtr.advance count.toNat },
      ⟨.ok,
        .modelPairs s.model.readPtr (readPairs s.model.cells s.model.readPtr count.toNat)
          s.model.pageInUse s.model.last⟩)

/-- MODEL_READ on the schedule link (R68, R186). -/
def execModelRead (count : Byte) (s : State) : Host.Outcome State Fault Refusal :=
  .next (s.request .schedule 0x32 (modelRead count))

end Sys2Proof.Machine
end

