-- ==== Sys2Proof/Machine/Notice.lean ====
section
/-! DEFINITION. The requests of all three links: IDENTIFY, NOTICE_READ, NOTICE_ACK, NOTICE_MASK (R176 to
R178, R191). -/

namespace Sys2Proof.Machine

/-- The notice set of one link changed. -/
def State.onBox (l : Link) (f : NoticeBox → NoticeBox) (s : State) : State :=
  { s with notices := { s.notices with boxes := s.notices.boxes.set l (f (s.notices.boxes.get l)) } }

/-- IDENTIFY (R191). -/
def identify (l : Link) (s : State) : State × Answer :=
  (s,
    ⟨.ok,
      .identity
        { vendor := 0x4859
          part := 212
          revision := 1
          listEntries := 64
          segmentSlots := 512
          modelPages := 2
          pageEntries := 128
          eventLines := 4
          badChecks := (s.ports.get l).badChecks
          overruns := (s.ports.get l).overruns
          timeouts := (s.ports.get l).timeouts }⟩)

/-- IDENTIFY on a link (R191, R186). -/
def execIdentify (l : Link) (s : State) : Host.Outcome State Fault Refusal :=
  .next (s.request l 0x01 (identify l))

/-- NOTICE_READ (R176). -/
def noticeRead (l : Link) (s : State) : State × Answer :=
  let b := s.notices.boxes.get l
  (s, ⟨.ok, .notices b.latched b.mask s.notices.recentEnd s.notices.recentStart⟩)

/-- NOTICE_READ on a link (R176, R186). -/
def execNoticeRead (l : Link) (s : State) : Host.Outcome State Fault Refusal :=
  .next (s.request l 0x02 (noticeRead l))

/-- NOTICE_ACK (R177). -/
def noticeAck (l : Link) (kinds : BitVec 16) (s : State) : State × Answer :=
  match noticeSetOf kinds with
  | none => (s, .only .badValue)
  | some k =>
    let s1 := s.onBox l (NoticeBox.acknowledge k)
    (s1, ⟨.ok, .latched (s1.notices.boxes.get l).latched⟩)

/-- NOTICE_ACK on a link (R177, R186). -/
def execNoticeAck (l : Link) (kinds : BitVec 16) (s : State) : Host.Outcome State Fault Refusal :=
  .next (s.request l 0x03 (noticeAck l kinds))

/-- NOTICE_MASK (R178). -/
def noticeMask (l : Link) (kinds : BitVec 16) (s : State) : State × Answer :=
  match noticeSetOf kinds with
  | none => (s, .only .badValue)
  | some k =>
    let s1 := s.onBox l (NoticeBox.withMask k)
    (s1, ⟨.ok, .masks k (s1.notices.boxes.get l).latched⟩)

/-- NOTICE_MASK on a link (R178, R186). -/
def execNoticeMask (l : Link) (kinds : BitVec 16) (s : State) : Host.Outcome State Fault Refusal :=
  .next (s.request l 0x04 (noticeMask l kinds))

end Sys2Proof.Machine
end

