-- ==== Sys2Proof/Machine/Segments.lean ====
section
/-! DEFINITION. SEGMENT_APPEND (R50 to R56). -/

namespace Sys2Proof.Machine

/-- The four checks of step 4 of R51 on one segment, against its predecessor where it has one. `active` says
that the named entry is ACTIVE, `t` is the mount time at receipt. -/
def segmentFault (active : Bool) (t : Nat) (prev : Option Segment) (g : Segment) : Option Status :=
  if segStart g % 1000 ≠ 0 then some .align
  else if g.len.toNat = 0 ∨ maxTime < segEnd g then some .badValue
  else if prev.any (fun p =>
      decide (segStart g ≤ segStart p) || decide (segEnd p < segStart g) ||
        decide (segEnd g < segEnd p)) then some .order
  else if active = true ∧ segStart g ≤ t then some .late
  else none

/-- The first segment of a request that fails step 4 of R51, with its place, counted from `place`. -/
def segmentsFault (active : Bool) (t : Nat) : Nat → Option Segment → List Segment → Option (Status × Nat)
  | _, _, [] => none
  | place, prev, g :: rest =>
    match segmentFault active t prev g with
    | some st => some (st, place)
    | none => segmentsFault active t (place + 1) (some g) rest

/-- The first entry with an id changed. -/
def updateId (id : Nat) (f : Entry → Entry) (es : List Entry) : List Entry :=
  updateFirst (fun e => decide (e.record.id = id)) f es

/-- The fields of a refusal that names an entry: its chain's length and the free count, unchanged, and the place
that failed (R51). -/
def State.chainAnswer (s : State) (e : Entry) (st : Status) (place : Option Nat) : Answer :=
  ⟨st, .chain e.chain.length s.free none place⟩

/-- The segments join the chain of an entry (R53), and a fall of the free count through POOL_LOW raises the
notice (R56). -/
def State.appendSegments (id : Nat) (segs : List Segment) (s : State) : State :=
  let s1 :=
    { s.withEntries (updateId id (fun e => { e with chain := e.chain ++ segs }) s.night.entries) with
      free := s.free - segs.length }
  if s.inForce.poolLow ≤ (s.free : Int) ∧ ((s.free - segs.length : Nat) : Int) < s.inForce.poolLow then
    State.raise .poolLow s1
  else s1

/-- SEGMENT_APPEND (R51). A request of no segment or of more than four has no frame the port takes (R186). -/
def segmentAppend (id : BitVec 16) (segs : List Segment) (s : State) : State × Answer :=
  if segs.length = 0 ∨ 4 < segs.length then (s, .only .badLength)
  else
    match s.entryOf id.toNat with
    | none => (s, .only .noSuchTarget)
    | some e =>
      if e.isEnded then (s, s.chainAnswer e .notPending none)
      else if e.record.kind ≠ .track then (s, s.chainAnswer e .badValue none)
      else
        match segmentsFault e.isActive s.time.mountTime 1 e.chain.getLast? segs with
        | some (st, place) => (s, s.chainAnswer e st (some place))
        | none =>
          if s.free < segs.length then (s, s.chainAnswer e .poolFull none)
          else
            let s1 := s.appendSegments id.toNat segs
            let chain := e.chain ++ segs
            (s1, ⟨.ok, .chain chain.length s1.free (chainSpan chain) none⟩)

/-- SEGMENT_APPEND on the schedule link (R51, R186). -/
def execSegmentAppend (id : BitVec 16) (segs : List Segment) (s : State) :
    Host.Outcome State Fault Refusal :=
  .next (s.request .schedule 0x26 (segmentAppend id segs))

end Sys2Proof.Machine
end

