-- ==== Sys2Proof/Machine/Clock.lean ====
section
/-! DEFINITION. The passing of oscillator time within one millisecond period: mount time counts with the
corrections of a slew (R2, R3, R9), the pulse age counts (R4, R10), the step outputs put out their
pulses (R156, R157), and the gaps within frames grow (R180). Times are in oscillator microseconds. -/

namespace Sys2Proof.Machine

/-- The age at which pulses count as missing (R10). -/
def expiryAge : Nat := 2500000

/-- The number of the demand event that begins the period of the slew's next correction (R9). -/
def Slew.nextPeriod (w : Slew) : Nat := (w.size - w.left) * 1000 / w.size + 1

/-- The slew whose next correction falls in the period in progress and is still ahead in it (R9). -/
def TimeBase.correctionDue (t : TimeBase) : Option Slew :=
  match t.slew with
  | none => none
  | some w =>
    if w.events = w.nextPeriod ∧ 0 < w.left ∧ t.eventDue = false ∧ t.mountTime % 1000 ≤ 500 then some w
    else none

/-- The slew after one correction: absent when none is left to apply (R9). -/
def Slew.applied (w : Slew) : Option Slew := if w.left ≤ 1 then none else some { w with left := w.left - 1 }

/-- The mount time at which the correction of the period in progress is applied (R9). -/
def TimeBase.correctionAt (t : TimeBase) : Nat := t.mountTime - t.mountTime % 1000 + 500

/-- Mount time `n` oscillator microseconds later, in a period with no demand event before then, and the slew then:
a removal holds mount time for one microsecond, an insertion advances it by two in one (R2, R9), and the
largest mount time is held (R2). -/
def TimeBase.counted (n : Nat) (t : TimeBase) : Nat × Option Slew :=
  match t.correctionDue with
  | none => (min maxTime (t.mountTime + n), t.slew)
  | some w =>
    if n ≤ t.correctionAt - t.mountTime then (min maxTime (t.mountTime + n), t.slew)
    else
      (min maxTime (if w.remove then t.mountTime + n - 1 else t.mountTime + n + 1), w.applied)

/-- `n` oscillator microseconds of counting. Where counting brings mount time to a multiple of 1,000 a
demand event is due (R3). -/
def TimeBase.count (n : Nat) (t : TimeBase) : TimeBase :=
  let c := t.counted n
  { t with
    mountTime := c.1
    slew := c.2
    eventDue := t.eventDue || (decide (c.1 % 1000 = 0) && decide (c.1 ≠ t.mountTime)) }

/-- The oscillator microseconds until counting brings mount time to `target`, a later moment of the
period in progress or its end. -/
def TimeBase.until (t : TimeBase) (target : Nat) : Nat :=
  match t.correctionDue with
  | none => target - t.mountTime
  | some w =>
    if t.correctionAt < target then
      (if w.remove then target - t.mountTime + 1 else target - t.mountTime - 1)
    else target - t.mountTime

/-- The oscillator microseconds until the next demand event: 0 when one is due now, absent when mount
time reaches its largest value first (R2, R3). -/
def TimeBase.untilEvent (t : TimeBase) : Option Nat :=
  if t.eventDue then some 0
  else
    let target := (t.mountTime / 1000 + 1) * 1000
    if target ≤ maxTime then some (t.until target) else none

/-- Mount time jumps to a value by an applied set or an acquisition step: no demand event is due for it
(R3, R8, R11). -/
def TimeBase.jump (v : Nat) (t : TimeBase) : TimeBase := { t with mountTime := v, eventDue := false }

/-- The time base replaced. -/
def State.withTime (t : TimeBase) (s : State) : State := { s with time := t }

/-- The time base replaced by a pulse or a set. Where no demand event is due after it, the event that a line's timer
was set at will not occur, and the next one counts the timer (R161, R3). -/
def State.retime (t : TimeBase) (s : State) : State :=
  if t.eventDue then s.withTime t else (s.withTime t).unmarkLines

/-- The pulse age has reached 2,500,000 µs: the discipline state falls, the good-pulse count becomes 0, a
pending set is dropped by a fall, and a fall raises the TIME notice (R10, R13, R15). -/
def State.expirePulseAge (s : State) : State :=
  let t := { s.time with goodCount := 0, expiryDue := false }
  match s.time.discipline with
  | .locked =>
    State.raise .time (s.withTime { t with discipline := .holdover, pendingSet := none })
  | .acquiring =>
    State.raise .time (s.withTime { t with discipline := .free, pendingSet := none })
  | .free => s.withTime t
  | .holdover => s.withTime t

/-- A change of R10 that is due is taken. -/
def State.takeExpiry (s : State) : State := if s.time.expiryDue then s.expirePulseAge else s

/-- The pulse age `n` oscillator microseconds later (R4): the change of R10 is taken on the way, or is due
when the age reaches 2,500,000 just now. -/
def State.agePulse (n : Nat) (s : State) : State :=
  match s.time.pulseAge with
  | none => s
  | some a =>
    if expiryAge ≤ a then s
    else if a + n < expiryAge then s.withTime { s.time with pulseAge := some (a + n) }
    else if a + n = expiryAge then
      s.withTime { s.time with pulseAge := some expiryAge, expiryDue := true }
    else (s.withTime { s.time with pulseAge := some expiryAge }).expirePulseAge

/-- `n` oscillator microseconds pass, with no demand event before their end. A demand event at their end is taken after
them, so a step pulse that rises at its very microsecond has risen before anything the event does (log entry 29). -/
def State.elapse (n : Nat) (s : State) : State :=
  if n = 0 then s
  else
    let s1 := s.takeExpiry
    let s2 :=
      { s1 with
        time := s1.time.count n, steps := s1.steps.map (StepOut.pass n)
        ports := s1.ports.map (Port.pass n) }
    s2.agePulse n

/-- The moment `n` oscillator microseconds ahead comes before the next demand event or with it. -/
def State.withinPeriod (n : Nat) (s : State) : Bool :=
  match s.time.untilEvent with
  | none => true
  | some m => decide (n ≤ m)

/-- Time passes up to a moment of the period in progress; where the moment is absent or comes after the
next demand event, nothing happens (log entry 2). While RESET_N is low no time is counted (R2). -/
def State.waitFor (n : Option Nat) (s : State) : State :=
  match n with
  | none => s
  | some n => if s.resetLow = false ∧ s.withinPeriod n = true then s.elapse n else s

end Sys2Proof.Machine
end

