-- ==== Sys2Proof/Machine/Select.lean ====
section
/-! DEFINITION. Selection (R104 to R108): the scan of the PENDING entries, the wrap choice, the start of an
entry and the wait. -/

namespace Sys2Proof.Machine

/-! ### Wrap choice (R107) -/

/-- A position in counts lies within an axis's limits in force; a value equal to a limit lies within. -/
def State.within (s : State) (ax : Axis) (x : Int) : Bool :=
  decide (s.inForce.lower.get ax ≤ x) && decide (x ≤ s.inForce.upper.get ax)

/-- The candidates: every k with lower ≤ az + k turns ≤ upper, in rising order. -/
def wrapCandidates (lower upper az : Int) : List Int :=
  let first := -((az - lower) / fullTurn)
  let last := (upper - az) / fullTurn
  (List.range (last - first + 1).toNat).map fun (i : Nat) => first + i

/-- Of a first candidate and later ones, the one whose azimuth is nearest to `e`; of two at equal distance the
earlier, which is the smaller (R107, AUTO). -/
def nearestWrap (az e : Int) : Int → List Int → Int
  | best, [] => best
  | best, k :: rest =>
    if magnitude (az + k * fullTurn - e) < magnitude (az + best * fullTurn - e) then
      nearestWrap az e k rest
    else nearestWrap az e best rest

/-- The choice among candidates by the preference (R107). -/
def chooseWrap (pref : WrapPref) (az e : Int) (ks : List Int) : Option Int :=
  match ks with
  | [] => none
  | k :: rest =>
    match pref with
    | .low => some k
    | .high => some ((k :: rest).getLastD k)
    | .auto => some (nearestWrap az e k rest)

/-- The wrap choice: among the full-fit candidates, or among all when none is full-fit (R107). -/
def wrapChoice (pref : WrapPref) (lower upper azNow azEnd e : Int) : Option Int :=
  let ks := wrapCandidates lower upper azNow
  let full := ks.filter fun k =>
    decide (lower ≤ azEnd + k * fullTurn) && decide (azEnd + k * fullTurn ≤ upper)
  chooseWrap pref azNow e (if full.isEmpty then ks else full)

/-! ### The scan (R104) -/

/-- The start position of an entry at `t`, in counts and without a wrap, and its azimuth at the end of its
track; none where its chain does not cover `t` (R104, R107). -/
def startPosition (t : Nat) (e : Entry) : Option (Axes Int × Int) :=
  match e.record.kind with
  | .fixed p => some (p, p.az)
  | .track =>
    match covering t e.chain, e.chain.getLast? with
    | some g, some last =>
      let now := (segPositions g 0 (segIndex g t)).map roundCounts
      let final := (segPositions last 0 ((last.len.toNat : Int) - 1)).map roundCounts
      some (now, final.az)
    | _, _ => none

/-- The wrap found for an entry with its start position, or none where it ends as LIMIT (R104 step 4). -/
def State.findWrap (e : Entry) (start : Axes Int × Int) (s : State) : Option Int :=
  if s.within .el start.1.el && s.within .rot start.1.rot then
    wrapChoice e.record.wrap s.inForce.lower.az s.inForce.upper.az start.1.az start.2
      s.axes.az.emitted
  else none

/-- The first PENDING entry (R104). -/
def State.firstPending (s : State) : Option Entry := s.night.entries.find? Entry.isPending

/-- The first PENDING entry changed. -/
def State.onPending (f : Entry → Entry) (s : State) : State :=
  s.withEntries (updateFirst Entry.isPending f s.night.entries)

/-- The first PENDING entry ends at selection: only "ended at" is written, the chain is released, the
end is noticed, and no TARGET_END event is given (R25, R28, R104). -/
def State.endPending (o : EndOutcome) (e : Entry) (s : State) : State :=
  let s1 := s.onPending (Entry.finish o s.time.mountTime)
  { s1 with free := s1.free + e.chain.length }.reportEnd e.record.id o

/-- An entry's stale segments released at `t` (R48). -/
def Entry.releaseStale (t : Nat) (e : Entry) : Entry := { e with chain := dropStale t e.chain }

/-- The stale segments of the first PENDING entry return to the pool (R48). -/
def State.releaseStale (e : Entry) (s : State) : State :=
  let s1 := s.onPending (Entry.releaseStale s.time.mountTime)
  { s1 with
    free := s1.free + (e.chain.length - (dropStale s.time.mountTime e.chain).length) }

/-- Every accumulator at 0 (R27). -/
def Tally.zero : Tally := ⟨0, 0, 0, 0, 0, .const 0, 0⟩

/-- An entry becomes ACTIVE in phase SLEWING (R27). -/
def Entry.activate (t : Nat) (k : Int) (e : Entry) : Entry :=
  { e with
    status := .active .slewing
    results :=
      { e.results with selectedAt := some t, wrapOffset := some k, tally := some .zero } }

/-- The first PENDING entry is started with a wrap offset (R27, R60, R106): the engine enters SLEWING with the
slew timer at 0 and the AZ start position as its target (log entry 14). G is kept when `keep` says so and
else becomes 0. -/
def State.start (e : Entry) (k az : Int) (keep : Bool) (s : State) : State :=
  let s1 := (s.onPending (Entry.activate s.time.mountTime k)).enter (.slewing 0 (az + k * fullTurn))
  let s2 := { s1 with model := { s1.model with pageInUse := e.record.station } }
  let s3 := State.raise .targetStart (s2.withReason none)
  let s4 := { s3 with notices := { s3.notices with recentStart := some e.record.id } }
  State.give .targetStart (if keep then s4 else s4.zeroGuide)

/-- Selection ends in a wait with a reason (R105, R106): LIST_EMPTY is raised by NONE_PENDING after another
reason or none; after a target end the engine enters STOPPING toward WAITING, and G is 0. -/
def State.wait (r : WaitReason) (afterEnd : Bool) (s : State) : State :=
  let s1 :=
    if r = .nonePending ∧ s.waitReason ≠ some .nonePending then State.raise .listEmpty s else s
  let s2 := (s1.withReason (some r)).zeroGuide
  if afterEnd then s2.enter (.stopping .waiting) else s2.enter .waiting

/-- What the steps of R104 decide for one entry. -/
inductive Verdict where
  /-- the entry ends, and the scan goes on -/
  | ends (outcome : EndOutcome)
  /-- selection stops, and the engine waits -/
  | waits (reason : WaitReason)
  /-- the entry becomes ACTIVE with this wrap offset; its azimuth now, without the wrap -/
  | starts (wrap az : Int)
deriving DecidableEq, Repr

/-- Steps 1 and 2 of R104: the start window (R21). -/
def windowVerdict (t : Nat) (r : Record) : Option Verdict :=
  if r.latest.any (fun l => decide (l < t)) then some (.ends .late)
  else if r.earliest.any (fun b => decide (t < b)) then some (.waits .early)
  else none

/-- Steps 3 to 5 of R104, on the entry with its stale segments released. -/
def State.chainVerdict (e : Entry) (s : State) : Verdict :=
  match startPosition s.time.mountTime e with
  | none => .waits .noTrack
  | some p =>
    match s.findWrap e p with
    | none => .ends .limit
    | some k => .starts k p.1.az

/-- The scan of R104, over at most `n` PENDING entries: each entry it ends is no longer PENDING, so the
number of entries bounds the scan. -/
def State.scan (afterEnd : Bool) : Nat → State → State
  | 0, s => s.wait .nonePending afterEnd
  | n + 1, s =>
    match s.firstPending with
    | none => s.wait .nonePending afterEnd
    | some e =>
      match windowVerdict s.time.mountTime e.record with
      | some (.ends o) => State.scan afterEnd n (s.endPending o e)
      | some (.waits r) => s.wait r afterEnd
      | some (.starts _ _) => s
      | none =>
        let s1 := s.releaseStale e
        let e1 := e.releaseStale s.time.mountTime
        match s1.chainVerdict e1 with
        | .ends o => State.scan afterEnd n (s1.endPending o e1)
        | .waits r => s1.wait r afterEnd
        | .starts k az => s1.start e1 k az (afterEnd && e1.record.carryGuide)

/-- Selection at a demand event (R104): in WAITING, or after an end with `afterEnd`. -/
def State.select (afterEnd : Bool) (s : State) : State :=
  s.scan afterEnd (s.night.entries.length + 1)

end Sys2Proof.Machine
end

