-- ==== Sys2Proof/Machine/System.lean ====
section
/-! DEFINITION. The schedule link's requests about the whole part: STATUS, SET_POSITION, SET_CONFIG,
GET_CONFIG, SOFT_RESET (R94, R95, R190, R192, R194). -/

namespace Sys2Proof.Machine

/-! ### STATUS (R96, R99, R192) -/

/-- What STATUS reports of one axis (R96). -/
def AxisState.report (a : AxisState) : AxisReport :=
  ⟨roundCounts a.base, a.vel, a.wanted, a.applied, a.host, a.demand, a.emitted, a.lag⟩

/-- STATUS (R192; log entry 18 for its last three fields). -/
def status (s : State) : State × Answer :=
  (s,
    ⟨.ok,
      .status
        { engine := s.engine
          waitReason := s.waitReason
          holdCounter := s.holdCounter
          activeId := s.activeId
          axes := s.axes.map AxisState.report
          nightFlag := s.night.flag
          free := s.free
          inputs := s.inputs.map Filter.level
          enable := s.enable
          onTarget := s.onTarget
          shelter := s.enclosure.shelter
          parkOwed := s.enclosure.parkOwed
          discipline := s.time.discipline
          timeValid := s.time.timeValid
          mountTime := s.time.mountTime
          pageInUse := s.model.pageInUse
          lastCorrection := s.model.last
          guideOffset := s.guide.offset }⟩)

/-- STATUS on the schedule link (R192, R186). -/
def execStatus (s : State) : Host.Outcome State Fault Refusal :=
  .next (s.request .schedule 0x10 status)

/-! ### Configuration (R190) -/

/-- An item's pending value where one is held, and its value in force otherwise: what every cross-check
reads (R190). -/
def State.latest (s : State) (i : Item) : Int := (s.pendingItems.get i).getD (s.inForce.get i)

/-- A range of limits may be taken for an axis: it is not empty, holds the axis's E unless the engine is
UNSET, and holds the park position (R86). -/
def State.limitsAllowed (s : State) (ax : Axis) (lower upper : Int) : Bool :=
  decide (lower < upper) &&
    (decide (s.engine = .unset) ||
      (decide (lower ≤ (s.axes.get ax).emitted) && decide ((s.axes.get ax).emitted ≤ upper))) &&
    (decide (lower ≤ s.latest (.park ax)) && decide (s.latest (.park ax) ≤ upper))

/-- The cross-check of an item's rule (R86, R89, R113, R122). -/
def State.crossCheck (s : State) (i : Item) (v : Int) : Bool :=
  match i with
  | .lower ax => s.limitsAllowed ax v (s.latest (.upper ax))
  | .upper ax => s.limitsAllowed ax (s.latest (.lower ax)) v
  | .stepMax ax => decide (s.latest (.vmax ax) ≤ v)
  | .vmax ax => decide (v ≤ s.latest (.stepMax ax))
  | .park ax => decide (s.latest (.lower ax) ≤ v) && decide (v ≤ s.latest (.upper ax))
  | .acc _ | .capturePos | .captureRate | .poolLow | .cstep | .lagTol | .slewTimeout | .settleTime
  | .guideStepMax | .guideRange | .guideTimeout | .encTimeout | .encTol | .followEnc => true

/-- A value lies in the item's range and passes its cross-checks (R190, step 3). -/
def State.valueAllowed (s : State) (i : Item) (v : Int) : Bool :=
  decide (i.range.1 ≤ v) && decide (v ≤ i.range.2) && s.crossCheck i v

/-- SET_CONFIG (R190). -/
def setConfig (code : Byte) (value : BitVec 32) (s : State) : State × Answer :=
  match itemOfCode code with
  | none => (s, .only .badValue)
  | some i =>
    if i.isMotion = true ∧ s.engine.isStill = false then (s, .only .inMotion)
    else if s.valueAllowed i value.toInt = false then (s, .only .badValue)
    else
      ({ s with pendingItems := s.pendingItems.set i (some value.toInt) },
        ⟨.ok, .configAccepted code value.toInt⟩)

/-- SET_CONFIG on the schedule link (R190, R186). -/
def execSetConfig (code : Byte) (value : BitVec 32) (s : State) : Host.Outcome State Fault Refusal :=
  .next (s.request .schedule 0x14 (setConfig code value))

/-- GET_CONFIG (R190). -/
def getConfig (code : Byte) (s : State) : State × Answer :=
  match itemOfCode code with
  | none => (s, .only .badValue)
  | some i => (s, ⟨.ok, .configItem i.isMotion (s.inForce.get i) (s.pendingItems.get i)⟩)

/-- GET_CONFIG on the schedule link (R190, R186). -/
def execGetConfig (code : Byte) (s : State) : Host.Outcome State Fault Refusal :=
  .next (s.request .schedule 0x15 (getConfig code))

/-! ### SET_POSITION (R94, R95) -/

/-- The position lies inside the limits, each taken at its pending value where one is held (R94, step 3). -/
def State.positionAllowed (s : State) (p : Axes Int) : Bool :=
  (Axes.of fun ax =>
    decide (s.latest (.lower ax) ≤ p.get ax) && decide (p.get ax ≤ s.latest (.upper ax))).all id

/-- One axis given a position (R94). -/
def AxisState.place (v : Int) : AxisState := ⟨v * fineUnits, 0, 0, 0, 0, v, v, 0⟩

/-- The engine state after an accepted SET_POSITION (R95): from UNSET the drives are enabled, and an asserted
fault input gives its fault event within the request (R168). -/
def State.afterPosition (s : State) : State :=
  match s.engine with
  | .unset =>
    if s.enclosure.parkOwed then
      (s.withParkOwed false).readyToPark.enterEnabling .parking
    else s.enterEnabling .idle
  | _ => s

/-- SET_POSITION (R94). -/
def setPosition (p : Axes (BitVec 32)) (s : State) : State × Answer :=
  if s.engine = .stopped then (s, .only .stopped)
  else if s.engine.isStill = false then (s, .only .inMotion)
  else if s.positionAllowed (signedAxes p) = false then (s, .only .badValue)
  else
    let s1 := { s with axes := (signedAxes p).map AxisState.place }.dropPulses
    (s1.afterPosition, .only .ok)

/-- SET_POSITION on the schedule link (R94, R186). -/
def execSetPosition (p : Axes (BitVec 32)) (s : State) : Host.Outcome State Fault Refusal :=
  .next (s.request .schedule 0x13 (setPosition p))

/-! ### SOFT_RESET (R194 and the reset tables) -/

/-- The effect of an accepted SOFT_RESET on every block (R194). -/
def State.softReset (s : State) : State :=
  { s with
    night := ⟨[], false⟩
    free := 512
    waitReason := none
    axes := s.axes.map fun a => { a with vel := 0, wanted := 0, applied := 0, host := 0 }
    guide := .initial
    lines := s.lines.map EventLine.quiet
    faults := ⟨none, none, 0⟩
    notices :=
      { boxes := s.notices.boxes.map fun b => { b with latched := 0, attn := false }
        recentStart := none
        recentEnd := none } }

/-- SOFT_RESET (R194). -/
def softReset (s : State) : State × Answer :=
  if s.engine = .stopped then (s, .only .stopped)
  else if s.engine.isStill = false then (s, .only .inMotion)
  else (s.softReset, .only .ok)

/-- SOFT_RESET on the schedule link (R194, R186). -/
def execSoftReset (s : State) : Host.Outcome State Fault Refusal :=
  .next (s.request .schedule 0x16 softReset)

end Sys2Proof.Machine
end

