-- ==== Sys2Proof/Machine/Follow.lean ====
section
/-! DEFINITION. The slew follower, the capture test, the step of deceleration, and the arithmetic of the
blend, limit and step stages, each on one axis (R81, R84, R87, R109, R112, R118). -/

namespace Sys2Proof.Machine

/-- A position and a velocity of one axis after a step of motion. -/
structure Motion where
  pos : Int
  vel : Int
deriving DecidableEq, Repr

/-- A position kept inside the axis range: clamped there with velocity 0 (R109 step 5, R118 step 3). -/
def Motion.bound (lower upper : Int) (m : Motion) : Motion :=
  if m.pos < lower * fineUnits then ⟨lower * fineUnits, 0⟩
  else if upper * fineUnits < m.pos then ⟨upper * fineUnits, 0⟩
  else m

/-- The velocity brought toward 0 by at most `a`. -/
def brake (a w : Int) : Int := w - w.sign * min a (magnitude w)

/-- The new relative velocity of the follower (R109, steps 1 to 3): `e` is the distance to the target,
`w` the velocity relative to it, `a` the acceleration limit. -/
def relativeVelocity (e w a : Int) : Int :=
  let d := w ^ 2 / (2 * a)
  if w ≠ 0 ∧ w.sign = e.sign ∧ magnitude e ≤ d + magnitude w then brake a w
  else if e ≠ 0 then w + e.sign * a
  else brake a w

/-- One follower step of one axis toward a target at position `g` and rate `r` (R109). -/
def followStep (lower upper acc vmax g r : Int) (m : Motion) : Motion :=
  let u := clampAbs (vmax * fineUnits) (r + relativeVelocity (g - m.pos) (m.vel - r) acc)
  Motion.bound lower upper ⟨m.pos + u, u⟩

/-- The capture test of one axis (R112). -/
def captured (capturePos captureRate g r : Int) (m : Motion) : Bool :=
  decide (magnitude (g - m.pos) ≤ capturePos * fineUnits) && decide (magnitude (m.vel - r) ≤ captureRate)

/-- One step of deceleration of one axis (R118). -/
def decelerate (lower upper acc : Int) (m : Motion) : Motion :=
  let u := brake acc m.vel
  Motion.bound lower upper ⟨m.pos + u, u⟩

/-- The applied offset moved toward the wanted one by at most CSTEP (R81). -/
def blend (cstep w o : Int) : Int :=
  if cstep < w - o then o + cstep
  else if w - o < -cstep then o - cstep
  else w

end Sys2Proof.Machine
end

