-- ==== Sys2Proof/Machine/Demand.lean ====
section
/-! DEFINITION. The demand event (R72): configuration taking force, the five stages of the engine, the
alignment judgement, the ON_TARGET evaluation, what is decided at the event, and the turns of the other
blocks. -/

namespace Sys2Proof.Machine

/-! ### Opening -/

/-- A timer of the table has run out at this demand event (log entry 4). -/
def State.ranOut (x : Expiry) (s : State) : State := { s with expiries := s.expiries ++ [x] }

/-- Pending configuration values become the values in force (R190). -/
def State.commitItems (s : State) : State :=
  { s with inForce := s.pendingItems.orElse s.inForce, pendingItems := .const none }

/-- The guide quantities clamped to the values in force, before anything else the guide unit does at the
event (R138). -/
def State.clampGuide (s : State) : State :=
  s.withGuide
    { s.guide with
      mailbox := s.guide.mailbox.map fun m =>
        { m with correction := m.correction.map (clampAbs s.inForce.guideStepMax) }
      offset := s.guide.offset.map (clampAbs s.inForce.guideRange) }

/-- What comes first at a demand event: the pins show their levels, the event is in progress, a slew counts it (R9),
and configuration takes force (R190, R138). -/
def State.openEvent (levels : Inputs Bool) (s : State) : State :=
  State.clampGuide <| State.commitItems
    { s with
      pins := levels
      time :=
        { s.time with
          eventDue := true
          slew := s.time.slew.map fun w => { w with events := w.events + 1 } }
      expiries := [] }

/-- What comes last at a demand event: it is no longer due, and from the next one on every timer set at it counts
(R161). -/
def State.closeEvent (s : State) : State :=
  { s with time := { s.time with eventDue := false } }.unmarkLines

/-! ### Base stage (R73, R74) -/

/-- The motion of one axis. -/
def AxisState.motion (a : AxisState) : Motion := ⟨a.base, a.vel⟩

/-- The base and the velocity of one axis replaced (R73, R74). -/
def AxisState.withMotion (a : AxisState) (m : Motion) : AxisState := { a with base := m.pos, vel := m.vel }

/-- What the base stage leaves to the later stages: the state, and what it decided. -/
structure BaseStage where
  state : State
  /-- the chain has run out (R92) -/
  runout : Bool
  /-- the rounded target lies outside the limits (R111 step 2) -/
  offLimits : Bool
  /-- the capture test passes on every axis (R112, R121) -/
  capture : Bool
deriving DecidableEq, Repr

/-- The target's position and rate at this event, with the passed segments released (R46, R47, R75 to R78);
none when the chain has run out. -/
def State.aim (s : State) : Option (State × Axes Int × Axes Int) :=
  match s.activeEntry with
  | none => none
  | some e =>
    let w := e.results.wrapOffset.getD 0
    match e.record.kind with
    | .fixed p => some (s, fixedPositions p w, .const 0)
    | .track =>
      let t := s.time.mountTime
      match covering t e.chain with
      | none => none
      | some g =>
        let kept := dropPassed t e.chain
        let s1 := s.onActive fun e => { e with chain := dropPassed t e.chain }
        some ({ s1 with free := s1.free + (e.chain.length - kept.length) },
          segPositions g w (segIndex g t), segRates g (segIndex g t))

/-- Every axis given a motion. -/
def State.withMotions (m : Axes Motion) (s : State) : State :=
  { s with axes := s.axes.map₂ AxisState.withMotion m }

/-- The follower step of every axis toward `g` at rate `r` (R109). -/
def State.followTo (g r : Axes Int) (s : State) : Axes Motion :=
  Axes.of fun ax =>
    followStep (s.inForce.lower.get ax) (s.inForce.upper.get ax) (s.inForce.acc.get ax)
      (s.inForce.vmax.get ax) (g.get ax) (r.get ax) (s.axes.get ax).motion

/-- The capture test on all three axes together (R112). -/
def State.captureTest (g r : Axes Int) (m : Axes Motion) (s : State) : Bool :=
  (Axes.of fun ax =>
    captured s.inForce.capturePos s.inForce.captureRate (g.get ax) (r.get ax) (m.get ax)).all id

/-- The base stage of SLEWING (R111, steps 1 to 3). -/
def State.baseSlewing (timer : Nat) (s : State) : BaseStage :=
  match s.aim with
  | none => ⟨s.foldAxes, true, false, false⟩
  | some (s1, g, r) =>
    let s2 := { s1 with engine := .slewing (timer + 1) (roundCounts g.az) }
    let off := (Axes.of fun ax => !s2.within ax (roundCounts (g.get ax))).any id
    let m := s2.followTo g r
    ⟨s2.withMotions m, false, off, !off && s2.captureTest g r m⟩

/-- The base stage of SETTLING, TRACKING and HOLDING: the target's position and rate (R73, R74). -/
def State.baseTarget (s : State) : BaseStage :=
  match s.aim with
  | none => ⟨s.foldAxes, true, false, false⟩
  | some (s1, g, r) => ⟨s1.withMotions (g.map₂ Motion.mk r), false, false, false⟩

/-- The base stage of PARKING: the follower chases the park position at rate 0 (R109, R120). -/
def State.baseParking (s : State) : BaseStage :=
  let g := s.inForce.park.map (· * fineUnits)
  let m := s.followTo g (.const 0)
  ⟨s.withMotions m, false, false, s.captureTest g (.const 0) m⟩

/-- The base stage of STOPPING: a step of deceleration (R118). -/
def State.baseStopping (s : State) : BaseStage :=
  ⟨s.withMotions (Axes.of fun ax =>
      decelerate (s.inForce.lower.get ax) (s.inForce.upper.get ax) (s.inForce.acc.get ax)
        (s.axes.get ax).motion),
    false, false, false⟩

/-- The base stage of IDLE, WAITING and PARKED: the held position, with velocity 0 (R73, R74). -/
def State.baseHeld (s : State) : BaseStage :=
  ⟨{ s with axes := s.axes.map fun a => { a with vel := 0 } }, false, false, false⟩

/-- The base stage (R73, R74, R92): it depends on the state in which the event is taken. -/
def State.baseStage (s : State) : BaseStage :=
  match s.engine with
  | .slewing timer _ => s.baseSlewing timer
  | .settling _ => s.baseTarget
  | .tracking _ => s.baseTarget
  | .holding _ => s.baseTarget
  | .parking => s.baseParking
  | .stopping _ => s.baseStopping
  | .idle => s.baseHeld
  | .waiting => s.baseHeld
  | .parked => s.baseHeld
  | .unset => ⟨s, false, false, false⟩
  | .stopped => ⟨s, false, false, false⟩

/-! ### Correction stage (R79) -/

/-- The correction of a base position, in fine units, from the page in use becomes the last correction (R61). -/
def State.evaluateCorrection (az el : Int) (s : State) : State :=
  { s with
    model :=
      { s.model with
        last := modelCorrection s.model.cells s.model.pageInUse (roundCounts az) (roundCounts el) } }

/-- The correction stage: the correction of this base (R61, R79). -/
def State.correctionStage (s : State) : State :=
  s.evaluateCorrection s.axes.az.base s.axes.el.base

/-! ### Blend stage (R79, R81, R130, R132) -/

/-- The take of the mailbox (R130): a full one is added into G within ±GUIDE_RANGE, counted in the active
entry, and GUIDE_TAKE is given. -/
def State.takeMailbox (s : State) : State :=
  match s.guide.mailbox with
  | none => s
  | some m =>
    let sum := s.guide.offset.map₂ (· + ·) m.correction
    let g := sum.map (clampAbs s.inForce.guideRange)
    let saturated : Nat := if g = sum then 0 else 1
    let s1 := s.onActive <| Entry.onTally fun y =>
      { y with
        guideSaturations := count32 y.guideSaturations saturated
        guideTaken := count32 y.guideTaken 1
        guideMerged := count32 y.guideMerged m.merges }
    State.give .guideTake (s1.withGuide { s1.guide with mailbox := none, offset := g })

/-- The guide timer, after the take (R132): in GUIDING it increases by one, and at GUIDE_TIMEOUT the state
becomes LOST and GUIDE is raised. -/
def State.countGuide (s : State) : State :=
  match s.guide.state with
  | .guiding n =>
    if s.inForce.guideTimeout ≤ (n + 1 : Nat) then
      (State.raise .guide (s.withGuideState .lost)).ranOut .guideLost
    else s.withGuideState (.guiding (n + 1))
  | .off => s
  | .seeking => s
  | .lost => s

/-- The guide unit's part of the blend stage: in SETTLING, TRACKING and HOLDING the take, but for a runout
(R92, R130), and the timer (R132, log entry 15). -/
def State.guideStage (runout : Bool) (s : State) : State :=
  if s.engine.followsTarget then
    (if runout then s else s.takeMailbox).countGuide
  else s

/-- The wanted offset: M + G + H in the target states, on ROT H alone; 0 elsewhere and at a runout
(R79, R92). -/
def State.wantedOf (runout : Bool) (s : State) : Axes Int :=
  if s.engine.isTarget && !runout then
    ⟨s.model.last.az + s.guide.offset.az + s.axes.az.host,
      s.model.last.el + s.guide.offset.el + s.axes.el.host, s.axes.rot.host⟩
  else .const 0

/-- One axis blended toward a wanted offset (R81). -/
def AxisState.blend (cstep w : Int) (a : AxisState) : AxisState :=
  { a with wanted := w, applied := Machine.blend cstep w a.applied }

/-- The blend stage (R79, R81). -/
def State.blendStage (runout : Bool) (s : State) : State :=
  let s1 := s.guideStage runout
  { s1 with
    axes := (s1.wantedOf runout).map₂ (AxisState.blend s1.inForce.cstep) s1.axes }

/-! ### Limit and step stages (R84 to R88) -/

/-- The sum the limit stage clamps: the base rounded to counts plus the applied offset (R84). -/
def AxisState.sum (a : AxisState) : Int := roundCounts a.base + a.applied

/-- The limit stage of one axis (R84). -/
def AxisState.limit (lower upper : Int) (a : AxisState) : AxisState :=
  { a with demand := clamp lower upper a.sum }

/-- The clamp acts on some axis at this event (R84). -/
def State.clampsAny (s : State) : Bool :=
  (Axes.of fun ax => !s.within ax (s.axes.get ax).sum).any id

/-- The limit stage (R84). -/
def State.limitStage (s : State) : State :=
  { s with
    axes := Axes.of fun ax =>
      (s.axes.get ax).limit (s.inForce.lower.get ax) (s.inForce.upper.get ax) }

/-- The step count of an axis: D − E clamped to ±STEP_MAX, and 0 in PARKED (R87). -/
def State.stepCount (s : State) (ax : Axis) : Int :=
  if s.engine = .parked then 0
  else clampAbs (s.inForce.stepMax.get ax) ((s.axes.get ax).demand - (s.axes.get ax).emitted)

/-- The emitted position advanced by a step count, and the lag formed (R87). -/
def AxisState.step (n : Int) (a : AxisState) : AxisState :=
  { a with emitted := a.emitted + n, lag := a.demand - (a.emitted + n) }

/-- The largest absolute lags compared (R32). -/
def State.recordLag (s : State) : State :=
  s.onActive <| Entry.onTally fun y =>
    { y with
      largestLag := y.largestLag.map₂
        (fun old a => max old (min 4294967295 a.lag.natAbs)) s.axes }

/-- The step stage (R87): the counts, the emitted positions and the lags, and each count handed to its
step output (R72, R156). -/
def State.stepStage (s : State) : State :=
  let n : Axes Int := Axes.of s.stepCount
  State.recordLag
    { s with
      axes := n.map₂ AxisState.step s.axes
      steps := n.map₂ StepOut.hand s.steps }

/-! ### Alignment and ON_TARGET (R141, R142, R145) -/

/-- The alignment of a report against the AZ demand (R142). -/
def judge (timeout tol : Int) (r : EncReport) (demandAz : Int) : Alignment :=
  if timeout < (r.age : Int) then .unknown
  else if circularDistance (r.slit : Int) (demandAz % fullTurn) ≤ tol then .aligned
  else .misaligned

/-- The report age counted and the alignment judged (R141, R142). The judgement that becomes UNKNOWN by the
age passing ENC_TIMEOUT is the running out of that timer (log entry 4). -/
def State.judgeAlignment (s : State) : State :=
  match s.enclosure.report with
  | none => { s with enclosure := { s.enclosure with alignment := .unknown } }
  | some r =>
    let r' := { r with age := saturate 600001 r.age 1 }
    let al := judge s.inForce.encTimeout s.inForce.encTol r' s.axes.az.demand
    let s1 := { s with enclosure := { s.enclosure with report := some r', alignment := al } }
    if al = .unknown ∧ s.enclosure.alignment ≠ .unknown then s1.ranOut .encReport else s1

/-- The conditions of ON_TARGET (R145). -/
def State.onTargetNow (runout : Bool) (s : State) : Bool :=
  s.engine.isTracking && !runout &&
    s.axes.all (fun a => decide (magnitude a.lag ≤ s.inForce.lagTol)) &&
    (decide (s.inForce.followEnc = 0) || decide (s.enclosure.alignment = .aligned)) &&
    (match s.activeEntry with
      | none => false
      | some e => !e.record.guideRequired || (match s.guide.state with | .guiding _ => true | _ => false))

/-- The ON_TARGET evaluation, with the on-target milliseconds of the active entry (R31, R145, R147). -/
def State.evaluateOnTarget (runout : Bool) (s : State) : State :=
  let b := s.onTargetNow runout
  let s1 := s.setOnTarget b
  if b then
    s1.onActive (Entry.onTally fun y => { y with onTargetMs := count32 y.onTargetMs 1 })
  else s1

/-! ### What is decided at the event (R98, R111 to R121) -/

/-- The ACTIVE entry ends with an outcome decided at this event, and selection runs at once (R98, R104). -/
def State.endAndSelect (o : EndOutcome) (s : State) : State := (s.endActive o).select true

/-- Capture (R112, R133): the engine enters SETTLING, and the guide unit of a guided entry SEEKING. -/
def State.capture (s : State) : State :=
  let t := s.time.mountTime
  let guided := s.activeEntry.any fun e => e.record.guided
  let s1 := (s.enter (.settling 0)).onActive fun e =>
    { e.withPhase .settling with results := { e.results with capturedAt := some t } }
  let s2 := State.give .capture s1
  if guided then s2.withGuideState .seeking else s2

/-- The settle ends (R114): the engine enters TRACKING. -/
def State.settleEnds (s : State) : State :=
  let t := s.time.mountTime
  let s1 := (s.enter (.tracking 0)).onActive fun e =>
    { e.withPhase .tracking with results := { e.results with trackingFrom := some t } }
  (State.give .trackStart s1).ranOut .settleEnd

/-- The dwell ends (R115): HOLDING where the filtered INST_HOLD line is asserted and max hold is above 0,
else the end as COMPLETE. -/
def State.dwellEnds (dwell : Nat) (s : State) : State :=
  let maxHold := (s.activeEntry.map fun e => e.record.maxHold).getD 0
  let s1 := (State.give .dwellEnd s).ranOut .dwellEnd
  if s.inputs.instHold.level ∧ 0 < maxHold then
    (s1.enter (.holding dwell)).onActive (Entry.withPhase .holding)
  else s1.endAndSelect .complete

/-- The hold used of the active entry raised by one (R32, R116). -/
def State.countHold (s : State) : State :=
  s.onActive (Entry.onTally fun y => { y with holdUsed := count32 y.holdUsed 1 })

/-- The active entry's hold used has reached its max hold (R116). -/
def State.holdSpent (s : State) : Bool :=
  s.activeEntry.any fun e =>
    e.results.tally.any fun y => decide (e.record.maxHold ≤ y.holdUsed)

/-- Arrival at rest (R119). -/
def State.arrive (dest : StopDest) (s : State) : State :=
  match dest with
  | .waiting => s.enter .waiting
  | .idle => State.raise .night ((s.withNightFlag false).enter .idle)

/-- Arrival at the park position (R121). -/
def State.parkArrives (s : State) : State :=
  let s1 :=
    { s with
      axes := Axes.of fun ax =>
        (s.axes.get ax).withMotion ⟨s.inForce.park.get ax * fineUnits, 0⟩ }
  State.give .parked (State.raise .night (s1.enter .parked))

/-- What SLEWING decides after its stages (R111, R112). -/
def State.decideSlewing (b : BaseStage) (timer : Nat) (s : State) : State :=
  if b.runout then s.endAndSelect .runout
  else if b.offLimits then s.endAndSelect .limit
  else if b.capture then s.capture
  else if s.inForce.slewTimeout ≤ (timer : Int) then (s.ranOut .slewTimeout).endAndSelect .slewTimeout
  else s

/-- What SETTLING decides (R85, R92, R114). -/
def State.decideSettling (runout clamped : Bool) (timer : Nat) (s : State) : State :=
  if runout then s.endAndSelect .runout
  else if clamped then s.endAndSelect .limit
  else if s.inForce.settleTime ≤ (timer + 1 : Nat) then s.settleEnds
  else s.enter (.settling (timer + 1))

/-- What TRACKING decides (R85, R92, R115). -/
def State.decideTracking (runout clamped : Bool) (count : Nat) (s : State) : State :=
  let dwell := (s.activeEntry.map fun e => e.record.dwell).getD 0
  if runout then s.endAndSelect .runout
  else if clamped then s.endAndSelect .limit
  else if dwell ≤ count + 1 then s.dwellEnds (count + 1)
  else s.enter (.tracking (count + 1))

/-- What HOLDING decides (R32, R85, R92, R116; log entry 15 for the hold used at an event that ends otherwise). -/
def State.decideHolding (runout clamped : Bool) (s : State) : State :=
  let s1 := if s.inputs.instHold.level then s.countHold else s
  if runout then s1.endAndSelect .runout
  else if clamped then s1.endAndSelect .limit
  else if s.inputs.instHold.level then
    if s1.holdSpent then (s1.ranOut .holdExpired).endAndSelect .holdExpired else s1
  else s1.endAndSelect .released

/-- The changes of state decided at the event, taken after the step stage (R98). -/
def State.takeDecision (b : BaseStage) (clamped : Bool) (s : State) : State :=
  match s.engine with
  | .slewing timer _ => s.decideSlewing b timer
  | .settling timer => s.decideSettling b.runout clamped timer
  | .tracking count => s.decideTracking b.runout clamped count
  | .holding _ => s.decideHolding b.runout clamped
  | .stopping dest => if s.axes.all (fun a => a.vel = 0) then s.arrive dest else s
  | .parking => if b.capture then s.parkArrives else s
  | .waiting => s.select false
  | .idle => s
  | .parked => s
  | .unset => s
  | .stopped => s

/-! ### The engine's turn and the others' -/

/-- The five stages, the alignment judgement, the ON_TARGET evaluation and the decisions (R72). The correction of this
event's base is evaluated from the page in use that a selection at the event leaves, so it is the first from a new
page (R60; log entry 20). -/
def State.computeEvent (s : State) : State :=
  let b := s.baseStage
  let s1 := (b.state.correctionStage).blendStage b.runout
  let clamped := s1.clampsAny
  let s2 := (s1.limitStage.stepStage.judgeAlignment).evaluateOnTarget b.runout
  (s2.takeDecision b clamped).evaluateCorrection b.state.axes.az.base b.state.axes.el.base

/-- The engine's turn: in UNSET and STOPPED no stage runs, and the alignment is judged on the demand that
stands (R72, R142). -/
def State.engineTurn (s : State) : State :=
  match s.engine with
  | .unset => s.judgeAlignment
  | .stopped => s.judgeAlignment
  | .idle => s.computeEvent
  | .waiting => s.computeEvent
  | .slewing _ _ => s.computeEvent
  | .settling _ => s.computeEvent
  | .tracking _ => s.computeEvent
  | .holding _ => s.computeEvent
  | .stopping _ => s.computeEvent
  | .parking => s.computeEvent
  | .parked => s.computeEvent

/-- One line counts this demand event; a delay or a width that runs out is noted (R161 to R163). -/
def State.lineTurn (id : LineId) (s : State) : State :=
  let l := s.lines.get id
  let s1 := { s with lines := s.lines.set id l.count }
  if l.runsOut then
    match l.phase with
    | .delay => s1.ranOut (.lineDelay id)
    | .active => s1.ranOut (.lineWidth id)
    | .quiet => s1
  else s1

/-- The whole-second mark, where this event is at a whole second (R3). -/
def State.secondTurn (s : State) : State :=
  if s.time.mountTime % 1000000 = 0 then State.give .second s else s

/-- One turn of a demand event. -/
def State.turn (s : State) : Turn → State
  | .filter i => s.filterInput i
  | .engine => s.engineTurn
  | .line l => s.lineTurn l
  | .second => s.secondTurn

/-- Every turn once: the filters, the whole-second mark, the engine, the lines. -/
def allTurns : List Turn :=
  [.filter .driveFaultAz, .filter .driveFaultEl, .filter .driveFaultRot, .filter .limitSwitch,
    .filter .instHold, .filter .shelter, .second, .engine,
    .line .ev0, .line .ev1, .line .ev2, .line .ev3]

/-- An order made complete: each turn at its first place in the order given, and the turns not named
after them (log entry 3). -/
def completeOrder (order : List Turn) : List Turn :=
  let named := order.eraseDups
  named ++ allTurns.filter fun t => !named.contains t

/-- The work of one demand event at the mount time that has been reached (R72). -/
def State.runEvent (levels : Inputs Bool) (order : List Turn) (s : State) : State :=
  ((completeOrder order).foldl State.turn (s.openEvent levels)).closeEvent

/-- Counting goes on to the next demand event, and the event is taken (R2, R3, R72). Where mount time
is held, or RESET_N is low, there is none (R2). -/
def State.demandEvent (levels : Inputs Bool) (order : List Turn) (s : State) : State :=
  match s.time.untilEvent with
  | none => s
  | some n => if s.resetLow then s else (s.elapse n).runEvent levels order

/-- The demand event at which a timer runs out; where that timer does not run out at the next demand
event, nothing happens (log entry 4). -/
def State.demandEventOf (x : Expiry) (levels : Inputs Bool) (order : List Turn) (s : State) : State :=
  let t := s.demandEvent levels order
  if t.expiries.contains x then t else s

/-- What passes with nobody commanding (log entry 1): a demand event that is due is taken, with the pins as they
stand and in an order the free value gives; else one microsecond of the oscillator passes. While RESET_N
is low nothing passes (R2). -/
def State.idle (s : State) : State :=
  if s.resetLow then s
  else if s.time.eventDue then
    { s with orderDraws := s.orderDraws + 1 }.runEvent s.pins (Config.turnOrder s.orderDraws)
  else s.elapse 1

end Sys2Proof.Machine
end

