-- ==== Sys2Proof/Machine/TimeBase.lean ====
section
/-! DEFINITION. The time base's commands: PPS_PULSE, SLEW_CORRECTION, PULSE_AGE_EXPIRY, MOUNT_TIME_HOLD,
GET_TIME and SET_TIME (R2 to R16). -/

namespace Sys2Proof.Machine

/-! ### Pulses (R4 to R8, R12) -/

/-- A pulse is accepted when none has been accepted yet or the pulse age is at least 900,000 (R4). -/
def TimeBase.accepts (t : TimeBase) : Bool :=
  match t.pulseAge with
  | none => true
  | some a => decide (900000 ≤ a)

/-- The phase error of a pulse at a mount time (R4). -/
def phaseErrorAt (m : Nat) : Int :=
  if m % 1000000 < 500000 then (m % 1000000 : Nat) else (m % 1000000 : Nat) - 1000000

/-- A slew by which mount time approaches the pulse: of min(|e|, 20) microseconds, removing when e is positive,
and none for an e of 0 (R6, R7, R9). -/
def slewFor (e : Int) : Option Slew :=
  if e = 0 then none
  else some ⟨decide (0 < e), min e.natAbs 20, min e.natAbs 20, 0⟩

/-- The good-pulse count and the discipline state after one pulse in ACQUIRING: the count goes to 0 for |e| above 2
and else up by one, and 4 locks (R6). -/
def TimeBase.countPulse (e : Int) (t : TimeBase) : TimeBase :=
  if 2 < magnitude e then { t with goodCount := 0 }
  else if 4 ≤ t.goodCount + 1 then { t with goodCount := 4, discipline := .locked }
  else { t with goodCount := t.goodCount + 1 }

/-- The correction of mount time by one pulse in ACQUIRING (R6, R8): a large error is stepped in a still state and
slewed otherwise. -/
def TimeBase.correctPulse (still : Bool) (e : Int) (t : TimeBase) : TimeBase :=
  if 2 < magnitude e ∧ still = true then
    t.jump (min maxTime ((t.mountTime : Int) - e).toNat)
  else { t with slew := slewFor e }

/-- An accepted pulse handled by the discipline state (R5 to R7). `e` is the phase error; `ec` is the error
the count is made with, 0 where a pending set is applied at this pulse (R12). -/
def TimeBase.discipline1 (still : Bool) (e ec : Int) (t : TimeBase) : TimeBase :=
  match t.discipline with
  | .locked =>
    if magnitude e ≤ 50 then { t with slew := slewFor e }
    else
      ({ t with discipline := .acquiring, goodCount := 0 }.correctPulse still e).countPulse ec
  | .acquiring => (t.correctPulse still e).countPulse ec
  | .free => ({ t with discipline := .acquiring, goodCount := 0 }.correctPulse still e).countPulse ec
  | .holdover => ({ t with discipline := .acquiring, goodCount := 0 }.correctPulse still e).countPulse ec

/-- The time base after an accepted pulse (R4 to R8, R12), in a still state or not. -/
def TimeBase.takePulse (still : Bool) (t : TimeBase) : TimeBase :=
  let e := phaseErrorAt t.mountTime
  let applies := still && t.pendingSet.isSome
  let t1 := { t with pulseAge := some 0, expiryDue := false, phaseError := some e, slew := none }
  let t2 := t1.discipline1 still e (if applies then 0 else e)
  match t.pendingSet with
  | none => t2
  | some v =>
    if still then { t2.jump v with slew := none, pendingSet := none, timeValid := true }
    else { t2 with pendingSet := none }

/-- A rising edge of PPS (R4): a spurious one is counted alone; an accepted one is handled, and the TIME
notice is raised by a change of the discipline state or by a pending set applied or dropped (R15). -/
def State.pulse (s : State) : State :=
  if s.time.accepts then
    let t := s.time.takePulse s.engine.isStill
    let s1 := s.retime t
    if s.time.pendingSet.isSome ∨ t.discipline ≠ s.time.discipline then State.raise .time s1 else s1
  else s.withTime { s.time with spurious := count16 s.time.spurious 1 }

/-- PPS_PULSE (R4). While RESET_N is low every block is held in its power-on state (R2, log entry 13). -/
def execPpsPulse (s : State) : Host.Outcome State Fault Refusal :=
  .next (if s.resetLow then s else s.pulse)

/-! ### Counting (R2, R9, R10) -/

/-- The microseconds until the correction of the period in progress has been applied (R9). -/
def TimeBase.untilCorrection (t : TimeBase) : Option Nat :=
  match t.correctionDue with
  | none => none
  | some _ => some (t.correctionAt - t.mountTime + 1)

/-- SLEW_CORRECTION: time passes over the correction of the period in progress (R9, log entry 2). -/
def execSlewCorrection (s : State) : Host.Outcome State Fault Refusal :=
  .next (s.waitFor s.time.untilCorrection)

/-- The microseconds until the pulse age reaches 2,500,000 (R10). -/
def TimeBase.untilExpiry (t : TimeBase) : Option Nat :=
  match t.pulseAge with
  | none => none
  | some a => if a < expiryAge then some (expiryAge - a) else none

/-- PULSE_AGE_EXPIRY: the age reaches 2,500,000, and the change of R10 is taken (log entry 2). -/
def execPulseAgeExpiry (s : State) : Host.Outcome State Fault Refusal :=
  .next (if s.resetLow then s else (s.waitFor s.time.untilExpiry).takeExpiry)

/-- The microseconds until mount time reaches its largest value, with no demand event before (R2). -/
def TimeBase.untilHold (t : TimeBase) : Option Nat :=
  match t.untilEvent with
  | some _ => none
  | none => some (t.until maxTime)

/-- MOUNT_TIME_HOLD: mount time reaches its largest value, where it holds (R2, log entry 2). -/
def execMountTimeHold (s : State) : Host.Outcome State Fault Refusal :=
  .next (s.waitFor s.time.untilHold)

/-! ### Requests (R11, R16) -/

/-- GET_TIME (R16). -/
def getTime (s : State) : State × Answer :=
  (s,
    ⟨.ok,
      .time
        { mountTime := s.time.mountTime
          discipline := s.time.discipline
          timeValid := s.time.timeValid
          pendingSet := s.time.pendingSet
          goodCount := s.time.goodCount
          phaseError := s.time.phaseError
          spurious := s.time.spurious }⟩)

/-- GET_TIME on the schedule link (R16, R186). -/
def execGetTime (s : State) : Host.Outcome State Fault Refusal :=
  .next (s.request .schedule 0x11 getTime)

/-- SET_TIME (R11). -/
def setTime (v : BitVec 48) (s : State) : State × Answer :=
  if s.engine.isStill = false then (s, .only .inMotion)
  else if s.time.discipline = .free then
    (State.raise .time
      (s.retime { s.time.jump v.toNat with slew := none, timeValid := true }), .only .ok)
  else if v.toNat % 1000000 ≠ 0 then (s, .only .badValue)
  else (s.withTime { s.time with pendingSet := some v.toNat }, .only .ok)

/-- SET_TIME on the schedule link (R11, R186). -/
def execSetTime (v : BitVec 48) (s : State) : Host.Outcome State Fault Refusal :=
  .next (s.request .schedule 0x12 (setTime v))

end Sys2Proof.Machine
end

