-- ==== Sys2Proof/Machine/Bytes.lean ====
section
/-! DEFINITION. BYTE_RECEIVED: the receiver's phases, and what a complete frame does (R180, R182 to R184). -/

namespace Sys2Proof.Machine

/-- What the block that owns a request does with it (R183). The rows that are no request reach no block by a
frame: `judgeFrame` gives none of them. -/
def requestEffect (i : Instr) (s : State) : State × Answer :=
  match i with
  | .identify l => identify l s
  | .noticeRead l => noticeRead l s
  | .noticeAck l kinds => noticeAck l kinds s
  | .noticeMask l kinds => noticeMask l kinds s
  | .status => Machine.status s
  | .getTime => getTime s
  | .setTime v => setTime v s
  | .setPosition p => setPosition p s
  | .setConfig code value => setConfig code value s
  | .getConfig code => getConfig code s
  | .softReset => Machine.softReset s
  | .targetAppend r => targetAppend r s
  | .targetInsert named r => targetInsert named r s
  | .targetRemove id => targetRemove id s
  | .listPurge => listPurge s
  | .targetGet id => targetGet id s
  | .listSummary => listSummary s
  | .segmentAppend id segs => segmentAppend id segs s
  | .modelSeek pointer page index => modelSeek pointer page index s
  | .modelWrite pairs => modelWrite pairs s
  | .modelRead count => modelRead count s
  | .nightStart => nightStart s
  | .nightStop => nightStop s
  | .targetAbort id => targetAbort id s
  | .park => Machine.park s
  | .offsetSet d => offsetSet d s
  | .eventConfig line source mode polarity delay width =>
    eventConfig line source mode polarity delay width s
  | .eventSet line level => eventSet line level s
  | .eventGet line => eventGet line s
  | .faultRead => faultRead s
  | .faultClear => faultClear s
  | .guideCorrect d => guideCorrect d s
  | .guideStatus => guideStatus s
  | .guideZero => guideZero s
  | .encReport slit flag => encReport slit flag s
  | .encStatus => encStatus s
  | .powerOn _ | .resetPin | .resetPinRelease _ | .demandEvent _ _ | .mountTimeHold | .ppsPulse
  | .slewCorrection | .pulseAgeExpiry | .frameTimeout _ _ | .lineBreak _ _ | .replyEnd _
  | .slewTimeout _ _ | .settleEnd _ _ | .dwellEnd _ _ | .holdExpired _ _ | .guideLost _ _
  | .encReportExpiry _ _ | .eventDelayExpiry _ _ _ | .eventWidthExpiry _ _ _
  | .waitingScheduleStart _ | .byteReceived _ _ | .stepPulse _ => (s, .only .unknownKind)

/-- The bad-check counter of a port raised (R182, R185). -/
def Port.countBadCheck (p : Port) : Port := { p with badChecks := count16 p.badChecks 1 }

/-- A frame with its CHECK byte has arrived (R182 to R184). -/
def State.completeFrame (l : Link) (len kind : Byte) (payload : List Byte) (check : Byte) (s : State) :
    State :=
  match (s.ports.get l).sending with
  | some _ => s.onPort l Port.overrun
  | none =>
    if check ≠ crc (len :: kind :: payload) then
      (s.onPort l Port.countBadCheck).reject l 0xFF .badCheck
    else
      match judgeFrame l kind payload with
      | .unknownKind => s.reject l (unknownReplyKind kind) .unknownKind
      | .badLength => s.reject l (replyKind kind) .badLength
      | .request i => s.request l kind (requestEffect i)

/-- The receiver's phase replaced, and the gap counted from this byte on (R180). -/
def Port.receive (r : Receiver) (p : Port) : Port := { p with receiver := r, gap := 0 }

/-- A byte arrives (R180). -/
def State.byteReceived (l : Link) (b : Byte) (s : State) : State :=
  match (s.ports.get l).receiver with
  | .hunt => if b = 0xC3 then s.onPort l (Port.receive .length) else s
  | .length => s.onPort l (Port.receive (.kind b))
  | .kind len =>
    s.onPort l (Port.receive (if len = 0 then .check len b [] else .payload len b []))
  | .payload len kind received =>
    let got := received ++ [b]
    s.onPort l (Port.receive (if len.toNat ≤ got.length then .check len kind got else .payload len kind got))
  | .check len kind received => s.completeFrame l len kind received b

/-- BYTE_RECEIVED (R180). While RESET_N is low the port receives nothing (R185). -/
def execByteReceived (l : Link) (b : Byte) (s : State) : Host.Outcome State Fault Refusal :=
  .next (if s.resetLow then s else s.byteReceived l b)

end Sys2Proof.Machine
end

