-- ==== Sys2Proof/Machine/DemandSteps.lean ====
section
/-! DEFINITION. DEMAND_EVENT, the rows of the timers that run out at a demand event, and the step outputs' rows
(R72, R111, R114 to R116, R132, R142, R156, R157, R162, R163). -/

namespace Sys2Proof.Machine

/-- DEMAND_EVENT (R72). -/
def execDemandEvent (levels : Inputs Bool) (order : List Turn) (s : State) :
    Host.Outcome State Fault Refusal :=
  .next (s.demandEvent levels order)

/-- SLEW_TIMEOUT (R111). -/
def execSlewTimeout (levels : Inputs Bool) (order : List Turn) (s : State) :
    Host.Outcome State Fault Refusal :=
  .next (s.demandEventOf .slewTimeout levels order)

/-- SETTLE_END (R114). -/
def execSettleEnd (levels : Inputs Bool) (order : List Turn) (s : State) :
    Host.Outcome State Fault Refusal :=
  .next (s.demandEventOf .settleEnd levels order)

/-- DWELL_END (R115). -/
def execDwellEnd (levels : Inputs Bool) (order : List Turn) (s : State) :
    Host.Outcome State Fault Refusal :=
  .next (s.demandEventOf .dwellEnd levels order)

/-- HOLD_EXPIRED (R116). -/
def execHoldExpired (levels : Inputs Bool) (order : List Turn) (s : State) :
    Host.Outcome State Fault Refusal :=
  .next (s.demandEventOf .holdExpired levels order)

/-- GUIDE_LOST (R132). -/
def execGuideLost (levels : Inputs Bool) (order : List Turn) (s : State) :
    Host.Outcome State Fault Refusal :=
  .next (s.demandEventOf .guideLost levels order)

/-- ENC_REPORT_EXPIRY (R142). -/
def execEncReportExpiry (levels : Inputs Bool) (order : List Turn) (s : State) :
    Host.Outcome State Fault Refusal :=
  .next (s.demandEventOf .encReport levels order)

/-- EVENT_DELAY_EXPIRY (R163). -/
def execEventDelayExpiry (line : LineId) (levels : Inputs Bool) (order : List Turn) (s : State) :
    Host.Outcome State Fault Refusal :=
  .next (s.demandEventOf (.lineDelay line) levels order)

/-- EVENT_WIDTH_EXPIRY (R162, R163). -/
def execEventWidthExpiry (line : LineId) (levels : Inputs Bool) (order : List Turn) (s : State) :
    Host.Outcome State Fault Refusal :=
  .next (s.demandEventOf (.lineWidth line) levels order)

/-- WAITING_SCHEDULE_START (R157): time passes to the fall of the last pulse of the axis's schedule in
progress, where the waiting count starts (log entry 2). -/
def execWaitingScheduleStart (ax : Axis) (s : State) : Host.Outcome State Fault Refusal :=
  .next (s.waitFor (s.steps.get ax).untilWaiting)

/-- STEP_PULSE (R156): time passes to the fall of the axis's next pulse (log entry 2). -/
def execStepPulse (ax : Axis) (s : State) : Host.Outcome State Fault Refusal :=
  .next (s.waitFor (s.steps.get ax).untilFall)

end Sys2Proof.Machine
end

