-- ==== Sys2Proof/Machine/LinkLines.lean ====
section
/-! DEFINITION. The serial lines' events below a whole frame: FRAME_TIMEOUT, LINE_BREAK, REPLY_END (R180,
R184). The moments of bytes, breaks and ends of replies are the queue's (log entry 11). -/

namespace Sys2Proof.Machine

/-- FRAME_TIMEOUT: within the frame in assembly the line falls silent for `gap` microseconds. A gap longer than 20,000 is
taken at the moment it passes 20,000 and not at its end: time passes to that moment, which abandons the frame (R180; log
entries 2 and 11). In HUNT, and for a gap that is not longer, there is no such moment. -/
def execFrameTimeout (l : Link) (gap : Nat) (s : State) : Host.Outcome State Fault Refusal :=
  .next (if gapLimit < gap then s.waitFor (s.ports.get l).untilTimeout else s)

/-- What holds RX at the space level is a break: twenty bit times or more, or a stop bit found there
(R180). -/
def isBreak : BreakCause → Bool
  | .spaceFor n => decide (20 ≤ n)
  | .stopBitAtSpace => true

/-- LINE_BREAK: a break during a frame in assembly abandons it (R180). -/
def execLineBreak (l : Link) (cause : BreakCause) (s : State) : Host.Outcome State Fault Refusal :=
  .next (if s.resetLow = false ∧ isBreak cause = true then s.onPort l Port.abandon else s)

/-- REPLY_END: the transmitter becomes idle at the end of the reply's CHECK byte (R184). -/
def execReplyEnd (l : Link) (s : State) : Host.Outcome State Fault Refusal :=
  .next (if s.resetLow then s else s.onPort l fun p => { p with sending := none })

end Sys2Proof.Machine
end

