-- ==== Sys2Proof/Machine/Power.lean ====
section
/-! DEFINITION. POWER_ON, RESET_PIN and RESET_PIN_RELEASE (R2, R167 and the reset tables of each chapter). -/

namespace Sys2Proof.Machine

/-- Every block in its power-on state. What is outside the part stays: the commands that wait, and the
levels at its input pins. -/
def State.powerOnState (straps : Links Straps) (low : Bool) (s : State) : State :=
  { State.reset with
    pending := s.pending
    resetLow := low
    pins := s.pins
    ports := straps.map Port.initial }

/-- POWER_ON: mount time is 0 and counting starts at once, every block is in its power-on state, and the
straps are read (R2, R167, R185). RESET_N is high (log entry 19). -/
def execPowerOn (straps : Links Straps) (s : State) : Host.Outcome State Fault Refusal :=
  .next (s.powerOnState straps false)

/-- RESET_PIN: RESET_N goes low, which has the same effect on every block as power-on, and holds mount time
at 0 (R2). The straps are read at the end of the low level; until then the last reading stands. -/
def execResetPin (s : State) : Host.Outcome State Fault Refusal :=
  .next (s.powerOnState (s.ports.map Port.straps) true)

/-- RESET_PIN_RELEASE: the low level ends, the straps are read and counting starts from 0 (R2, R167). With
RESET_N not low there is no low level to end. -/
def execResetPinRelease (straps : Links Straps) (s : State) : Host.Outcome State Fault Refusal :=
  .next (if s.resetLow then s.powerOnState straps false else s)

end Sys2Proof.Machine
end

