-- ==== Sys2Proof/Machine/Dispatch.lean ====
section
/-! DEFINITION. One arm for each command: its meaning. -/

namespace Sys2Proof.Machine

def exec (i : Instr) (s : State) : Host.Outcome State Fault Refusal :=
  match i with
  | .powerOn straps => Sys2Proof.Machine.execPowerOn straps s
  | .resetPin => Sys2Proof.Machine.execResetPin s
  | .resetPinRelease straps => Sys2Proof.Machine.execResetPinRelease straps s
  | .demandEvent levels order => Sys2Proof.Machine.execDemandEvent levels order s
  | .mountTimeHold => Sys2Proof.Machine.execMountTimeHold s
  | .ppsPulse => Sys2Proof.Machine.execPpsPulse s
  | .slewCorrection => Sys2Proof.Machine.execSlewCorrection s
  | .pulseAgeExpiry => Sys2Proof.Machine.execPulseAgeExpiry s
  | .frameTimeout link gap => Sys2Proof.Machine.execFrameTimeout link gap s
  | .lineBreak link cause => Sys2Proof.Machine.execLineBreak link cause s
  | .replyEnd link => Sys2Proof.Machine.execReplyEnd link s
  | .identify link => Sys2Proof.Machine.execIdentify link s
  | .noticeRead link => Sys2Proof.Machine.execNoticeRead link s
  | .noticeAck link kinds => Sys2Proof.Machine.execNoticeAck link kinds s
  | .noticeMask link kinds => Sys2Proof.Machine.execNoticeMask link kinds s
  | .status => Sys2Proof.Machine.execStatus s
  | .getTime => Sys2Proof.Machine.execGetTime s
  | .setTime time => Sys2Proof.Machine.execSetTime time s
  | .setPosition position => Sys2Proof.Machine.execSetPosition position s
  | .setConfig code value => Sys2Proof.Machine.execSetConfig code value s
  | .getConfig code => Sys2Proof.Machine.execGetConfig code s
  | .softReset => Sys2Proof.Machine.execSoftReset s
  | .targetAppend record => Sys2Proof.Machine.execTargetAppend record s
  | .targetInsert named record => Sys2Proof.Machine.execTargetInsert named record s
  | .targetRemove id => Sys2Proof.Machine.execTargetRemove id s
  | .listPurge => Sys2Proof.Machine.execListPurge s
  | .targetGet id => Sys2Proof.Machine.execTargetGet id s
  | .listSummary => Sys2Proof.Machine.execListSummary s
  | .segmentAppend id segments => Sys2Proof.Machine.execSegmentAppend id segments s
  | .modelSeek pointer page index => Sys2Proof.Machine.execModelSeek pointer page index s
  | .modelWrite pairs => Sys2Proof.Machine.execModelWrite pairs s
  | .modelRead count => Sys2Proof.Machine.execModelRead count s
  | .nightStart => Sys2Proof.Machine.execNightStart s
  | .nightStop => Sys2Proof.Machine.execNightStop s
  | .targetAbort id => Sys2Proof.Machine.execTargetAbort id s
  | .park => Sys2Proof.Machine.execPark s
  | .offsetSet offset => Sys2Proof.Machine.execOffsetSet offset s
  | .eventConfig line source mode polarity delay width => Sys2Proof.Machine.execEventConfig line source mode polarity delay width s
  | .eventSet line level => Sys2Proof.Machine.execEventSet line level s
  | .eventGet line => Sys2Proof.Machine.execEventGet line s
  | .faultRead => Sys2Proof.Machine.execFaultRead s
  | .faultClear => Sys2Proof.Machine.execFaultClear s
  | .guideCorrect correction => Sys2Proof.Machine.execGuideCorrect correction s
  | .guideStatus => Sys2Proof.Machine.execGuideStatus s
  | .guideZero => Sys2Proof.Machine.execGuideZero s
  | .encReport slit flag => Sys2Proof.Machine.execEncReport slit flag s
  | .encStatus => Sys2Proof.Machine.execEncStatus s
  | .slewTimeout levels order => Sys2Proof.Machine.execSlewTimeout levels order s
  | .settleEnd levels order => Sys2Proof.Machine.execSettleEnd levels order s
  | .dwellEnd levels order => Sys2Proof.Machine.execDwellEnd levels order s
  | .holdExpired levels order => Sys2Proof.Machine.execHoldExpired levels order s
  | .guideLost levels order => Sys2Proof.Machine.execGuideLost levels order s
  | .encReportExpiry levels order => Sys2Proof.Machine.execEncReportExpiry levels order s
  | .eventDelayExpiry line levels order => Sys2Proof.Machine.execEventDelayExpiry line levels order s
  | .eventWidthExpiry line levels order => Sys2Proof.Machine.execEventWidthExpiry line levels order s
  | .waitingScheduleStart axis => Sys2Proof.Machine.execWaitingScheduleStart axis s
  | .byteReceived link byte => Sys2Proof.Machine.execByteReceived link byte s
  | .stepPulse axis => Sys2Proof.Machine.execStepPulse axis s

end Sys2Proof.Machine
end

