-- ==== Sys2Proof/Machine/Step.lean ====
section
/-! DEFINITION. The step of the part, and how a command is put in front of its queue. -/

namespace Sys2Proof.Machine

/-- The queue of commands replaced. -/
def State.withPending (q : List Instr) (s : State) : State := { s with pending := q }

/-- One step: the command at the front of the queue is taken, with the queue's rest behind it. On an empty
queue the part is left to itself: a demand event that is due is taken, else one microsecond of the
oscillator passes (log entry 1). -/
def step (s : State) : Host.Outcome State Fault Refusal :=
  match s.pending with
  | [] => .next s.idle
  | c :: rest => exec c (s.withPending rest)

/-- The state with the command a word spells put in front of its queue. The table gives no row bits, so no
word spells a command and the state is unchanged. -/
def State.withFetchWord (s : State) (nbits w : Nat) : State :=
  match decodeTableWord nbits w with
  | some c => s.withPending (c :: s.pending)
  | none => s

end Sys2Proof.Machine
end

