-- ==== Sys2Proof/Machine/Encode.lean ====
section
/-! DEFINITION. The frame a master sends for each request: its link and KIND (R186), its payload most significant byte
first (R187 to R189; 00_scope.md, "Wire format"), and the bytes of the whole frame (R180, R181). -/

namespace Sys2Proof.Machine

/-- The bytes of a field of `8·n` bits. -/
def fieldBytes (n : Nat) (v : BitVec (8 * n)) : List Byte := natBytes n v.toNat

/-- The bytes of three fields, for AZ, EL and ROT. -/
def axesBytes (n : Nat) (x : Axes (BitVec (8 * n))) : List Byte :=
  fieldBytes n x.az ++ fieldBytes n x.el ++ fieldBytes n x.rot

/-- The bytes of a pair for AZ and EL. -/
def pairBytes (x : AzEl (BitVec 16)) : List Byte := fieldBytes 2 x.az ++ fieldBytes 2 x.el

/-- The bytes of an optional field: none when it is absent. -/
def optionBytes (n : Nat) : Option (BitVec (8 * n)) → List Byte
  | none => []
  | some v => fieldBytes n v

/-- A segment as sent, 50 bytes (the segment's layout before R188). -/
def segmentBytes (g : Segment) : List Byte :=
  fieldBytes 6 g.t0 ++ fieldBytes 2 g.len ++
    (fieldBytes 6 g.p0.az ++ fieldBytes 4 g.v0.az ++ fieldBytes 4 g.a.az) ++
    (fieldBytes 6 g.p0.el ++ fieldBytes 4 g.v0.el ++ fieldBytes 4 g.a.el) ++
    (fieldBytes 6 g.p0.rot ++ fieldBytes 4 g.v0.rot ++ fieldBytes 4 g.a.rot)

/-- A target record as sent (R188). -/
def recordBytes (r : TargetRecord) : List Byte :=
  fieldBytes 2 r.id ++ [r.kind, r.presence] ++ optionBytes 6 r.earliest ++ optionBytes 6 r.latest ++
    fieldBytes 4 r.dwell ++ fieldBytes 4 r.maxHold ++ [r.station, r.flags, r.wrap] ++
    (match r.fixedPosition with
      | none => []
      | some p => axesBytes 4 p)

/-- The link and the KIND of a request row; none for the rows that are no request (R186). -/
def requestRow : Instr → Option (Link × Byte)
  | .identify l => some (l, 0x01)
  | .noticeRead l => some (l, 0x02)
  | .noticeAck l _ => some (l, 0x03)
  | .noticeMask l _ => some (l, 0x04)
  | .status => some (.schedule, 0x10)
  | .getTime => some (.schedule, 0x11)
  | .setTime _ => some (.schedule, 0x12)
  | .setPosition _ => some (.schedule, 0x13)
  | .setConfig _ _ => some (.schedule, 0x14)
  | .getConfig _ => some (.schedule, 0x15)
  | .softReset => some (.schedule, 0x16)
  | .targetAppend _ => some (.schedule, 0x20)
  | .targetInsert _ _ => some (.schedule, 0x21)
  | .targetRemove _ => some (.schedule, 0x22)
  | .listPurge => some (.schedule, 0x23)
  | .targetGet _ => some (.schedule, 0x24)
  | .listSummary => some (.schedule, 0x25)
  | .segmentAppend _ _ => some (.schedule, 0x26)
  | .modelSeek _ _ _ => some (.schedule, 0x30)
  | .modelWrite _ => some (.schedule, 0x31)
  | .modelRead _ => some (.schedule, 0x32)
  | .nightStart => some (.schedule, 0x40)
  | .nightStop => some (.schedule, 0x41)
  | .targetAbort _ => some (.schedule, 0x42)
  | .park => some (.schedule, 0x43)
  | .offsetSet _ => some (.schedule, 0x44)
  | .eventConfig _ _ _ _ _ _ => some (.schedule, 0x50)
  | .eventSet _ _ => some (.schedule, 0x51)
  | .eventGet _ => some (.schedule, 0x52)
  | .faultRead => some (.schedule, 0x58)
  | .faultClear => some (.schedule, 0x59)
  | .guideCorrect _ => some (.guide, 0x60)
  | .guideStatus => some (.guide, 0x61)
  | .guideZero => some (.guide, 0x62)
  | .encReport _ _ => some (.enclosure, 0x70)
  | .encStatus => some (.enclosure, 0x71)
  | .powerOn _ | .resetPin | .resetPinRelease _ | .demandEvent _ _ | .mountTimeHold | .ppsPulse
  | .slewCorrection | .pulseAgeExpiry | .frameTimeout _ _ | .lineBreak _ _ | .replyEnd _
  | .slewTimeout _ _ | .settleEnd _ _ | .dwellEnd _ _ | .holdExpired _ _ | .guideLost _ _
  | .encReportExpiry _ _ | .eventDelayExpiry _ _ _ | .eventWidthExpiry _ _ _
  | .waitingScheduleStart _ | .byteReceived _ _ | .stepPulse _ => none

/-- The payload of a request (R186 to R189): the fields in the order the request's rule names them (log entry 9). -/
def payloadOf : Instr → List Byte
  | .noticeAck _ kinds => fieldBytes 2 kinds
  | .noticeMask _ kinds => fieldBytes 2 kinds
  | .setTime v => fieldBytes 6 v
  | .setPosition p => axesBytes 4 p
  | .setConfig code value => code :: fieldBytes 4 value
  | .getConfig code => [code]
  | .targetAppend r => recordBytes r
  | .targetInsert named r => fieldBytes 2 named ++ recordBytes r
  | .targetRemove id => fieldBytes 2 id
  | .targetGet id => fieldBytes 2 id
  | .segmentAppend id segs => fieldBytes 2 id ++ segs.flatMap segmentBytes
  | .modelSeek pointer page index => [pointer, page, index]
  | .modelWrite pairs => pairs.flatMap pairBytes
  | .modelRead count => [count]
  | .targetAbort id => fieldBytes 2 id
  | .offsetSet d => axesBytes 4 d
  | .eventConfig line source mode polarity delay width =>
    [line, source, mode, polarity] ++ fieldBytes 2 delay ++ fieldBytes 2 width
  | .eventSet line level => [line, level]
  | .eventGet line => [line]
  | .guideCorrect d => pairBytes d
  | .encReport slit flag => fieldBytes 4 slit ++ [flag]
  | .identify _ | .noticeRead _ | .status | .getTime | .softReset | .listPurge | .listSummary
  | .nightStart | .nightStop | .park | .faultRead | .faultClear | .guideStatus | .guideZero | .encStatus
  | .powerOn _ | .resetPin | .resetPinRelease _ | .demandEvent _ _ | .mountTimeHold | .ppsPulse
  | .slewCorrection | .pulseAgeExpiry | .frameTimeout _ _ | .lineBreak _ _ | .replyEnd _
  | .slewTimeout _ _ | .settleEnd _ _ | .dwellEnd _ _ | .holdExpired _ _ | .guideLost _ _
  | .encReportExpiry _ _ | .eventDelayExpiry _ _ _ | .eventWidthExpiry _ _ _
  | .waitingScheduleStart _ | .byteReceived _ _ | .stepPulse _ => []

/-- The bytes of a frame: SYNC, LEN, KIND, the payload and CHECK (R180, R181). -/
def frameBytes (kind : Byte) (payload : List Byte) : List Byte :=
  let len : Byte := BitVec.ofNat 8 payload.length
  0xC3 :: len :: kind :: payload ++ [crc (len :: kind :: payload)]

/-- Bytes that arrive on a link one after another (R180). -/
def State.receive (l : Link) (bytes : List Byte) (s : State) : State :=
  bytes.foldl (fun s b => if s.resetLow then s else s.byteReceived l b) s

end Sys2Proof.Machine
end

