-- ==== Sys2Proof/Safety.lean ====
section
/-! DEFINITION. What a safe run of the part is: the laws that the spec states of its state (the "law of"
sentences of R2, R18, R42, R43, R25, R81, R87, R88, R130, R145, R151, R158, R169, R175), each as a test of one
state, and the words in which claims speak of ports and of demand events. -/

namespace Sys2Proof.Machine

/-! ### Ports -/

/-- A port takes a request: RESET_N is high and the transmitter idle (R184, R185). -/
def State.ready (l : Link) (s : State) : Prop := s.resetLow = false ∧ (s.ports.get l).sending = none

/-- A state in which the port of a link has begun to send a reply, its receiver in HUNT (R183, R184). -/
def State.answered (l : Link) (kind : Byte) (st : Status) (fields : ReplyFields) (s : State) : State :=
  s.onPort l fun p => { p with receiver := .hunt, gap := 0, sending := some (Reply.form kind ⟨st, fields⟩) }

/-- A port counts and holds a frame as R180 and R185 say: a frame whose gap has passed 20,000 is no longer there. -/
def Port.lawful (p : Port) : Prop :=
  p.gap ≤ 20000 ∧ (p.receiver = .hunt → p.gap = 0) ∧ p.badChecks ≤ 65535 ∧ p.overruns ≤ 65535 ∧ p.timeouts ≤ 65535 ∧
    (match p.receiver with
      | .hunt => True
      | .length => True
      | .kind _ => True
      | .payload len _ got => got.length < len.toNat
      | .check len _ got => got.length = len.toNat)

/-- Every port is lawful (R180, R185). -/
def State.PortLaw (s : State) : Prop :=
  s.ports.schedule.lawful ∧ s.ports.guide.lawful ∧ s.ports.enclosure.lawful

/-! ### Time base -/

/-- The ranges of the time base (01_mount_time.md, table), the good-pulse count that LOCKED stands for (R6, R7),
and where a pending set can be held (R11, R13). -/
def State.TimeLaw (s : State) : Prop :=
  s.time.mountTime ≤ maxTime ∧ s.time.goodCount ≤ 4 ∧ s.time.spurious ≤ 65535 ∧
    (s.time.discipline = .locked ↔ s.time.goodCount = 4) ∧
    (∀ a ∈ s.time.pulseAge, a ≤ 2500000) ∧
    (∀ e ∈ s.time.phaseError, -500000 ≤ e ∧ e ≤ 499999) ∧
    (∀ w ∈ s.time.slew, 1 ≤ w.size ∧ w.size ≤ 20 ∧ 1 ≤ w.left ∧ w.left ≤ w.size) ∧
    (∀ v ∈ s.time.pendingSet, v ≤ maxTime ∧ v % 1000000 = 0 ∧ s.time.discipline ≠ .free)

/-! ### Night list and segment pool -/

/-- The number of segments in all chains. -/
def chainTotal : List Entry → Nat
  | [] => 0
  | e :: rest => e.chain.length + chainTotal rest

/-- The law of the pool (R42): the free count and the chains' lengths make 512, and an ENDED entry's chain is
empty. -/
def State.PoolLaw (s : State) : Prop :=
  s.free + chainTotal s.night.entries = 512 ∧ ∀ e ∈ s.night.entries, e.isEnded = true → e.chain = []

/-- The law of the list (R18): never more than 64 entries, and no two share an id. -/
def State.ListLaw (s : State) : Prop :=
  s.night.entries.length ≤ 64 ∧ (s.night.entries.map fun e => e.record.id).Nodup

/-- The law of the chain (R43), with the segments' ranges (R41). -/
def chainLawful : List Segment → Prop
  | [] => True
  | g :: rest =>
    (segStart g % 1000 = 0 ∧ 1 ≤ g.len.toNat ∧ segEnd g ≤ maxTime) ∧
      (match rest with
        | [] => True
        | h :: _ => segStart g < segStart h ∧ segStart h ≤ segEnd g ∧ segEnd g ≤ segEnd h) ∧
      chainLawful rest

/-- Every chain is lawful, and a FIXED entry has none (R20, R43). -/
def State.ChainLaw (s : State) : Prop :=
  ∀ e ∈ s.night.entries, chainLawful e.chain ∧ (e.record.kind ≠ .track → e.chain = [])

/-! ### Model table -/

/-- The table stands in its canonical form, and the pointers name entries (R59, R65). -/
def State.ModelLaw (s : State) : Prop :=
  cellsWf s.model.cells = true ∧ s.model.writePtr.index < 128 ∧ s.model.readPtr.index < 128

/-! ### Target cycle -/

/-- The phase of an ACTIVE entry in an engine state (R26). -/
def Engine.phase : Engine → Option Phase
  | .slewing _ _ => some .slewing
  | .settling _ => some .settling
  | .tracking _ => some .tracking
  | .holding _ => some .holding
  | .unset | .idle | .waiting | .stopping _ | .parking | .parked | .stopped => none

/-- How far an entry has moved (R25, R26): PENDING, then its phases in their order, then ENDED. -/
def EntryStatus.rank : EntryStatus → Nat
  | .pending => 0
  | .active .slewing => 1
  | .active .settling => 2
  | .active .tracking => 3
  | .active .holding => 4
  | .ended _ => 5

/-- The law that ties the list to the engine (R25, R26) and the law of the on-target line (R145): exactly one
entry is ACTIVE in the target states and none elsewhere, its phase is the engine state, and ON_TARGET is
asserted only in TRACKING and HOLDING. -/
def State.CycleLaw (s : State) : Prop :=
  (s.night.entries.filter Entry.isActive).length = (if s.engine.isTarget then 1 else 0) ∧
    (∀ e ∈ s.night.entries, ∀ p, e.status = .active p → s.engine.phase = some p) ∧
    (s.onTarget = true → s.engine.isTracking = true)

/-- The law of the enables (R158). -/
def State.EnableLaw (s : State) : Prop := s.enable = s.engine.drivesOn

/-! ### Faults, shelter, notices -/

/-- The law of the fault record (R169): the first slot is filled exactly in STOPPED, the second only when the
first is, and faults are counted only with both filled (R172). -/
def State.FaultLaw (s : State) : Prop :=
  (s.faults.first.isSome = true ↔ s.engine = .stopped) ∧
    (s.faults.second.isSome = true → s.faults.first.isSome = true) ∧
    (0 < s.faults.overflow → s.faults.second.isSome = true) ∧ s.faults.overflow ≤ 255

/-- The shelter condition is its two sources together (R149), and park owed is set exactly while it is active in
UNSET or STOPPED (R151). -/
def State.ShelterLaw (s : State) : Prop :=
  s.enclosure.shelter = s.shelterSources ∧
    (s.enclosure.parkOwed = true ↔
      s.enclosure.shelter = true ∧ (s.engine = .unset ∨ s.engine = .stopped))

/-- ATTN of one link is asserted exactly while a latched kind is in its mask (R175). -/
def NoticeBox.lawful (b : NoticeBox) : Prop := b.attn = decide (b.latched &&& b.mask ≠ 0)

/-- Every attention line shows its set (R175). -/
def State.AttentionLaw (s : State) : Prop :=
  s.notices.boxes.schedule.lawful ∧ s.notices.boxes.guide.lawful ∧ s.notices.boxes.enclosure.lawful

/-! ### Configuration and demand -/

/-- Values of items that lie in their ranges and pass the cross-checks between items (R86, R89, R113, R122,
R190). -/
def itemsLawful (v : Item → Int) : Prop :=
  (∀ i : Item, i.range.1 ≤ v i ∧ v i ≤ i.range.2) ∧
    ∀ ax : Axis, v (.vmax ax) ≤ v (.stepMax ax) ∧ v (.lower ax) < v (.upper ax) ∧
      v (.lower ax) ≤ v (.park ax) ∧ v (.park ax) ≤ v (.upper ax)

/-- The values in force are lawful, and so are those that stand after the pending ones take force (R190). -/
def State.ConfigLaw (s : State) : Prop := itemsLawful s.inForce.get ∧ itemsLawful s.latest

/-- The law of the emitted position (R88): outside UNSET each axis's E lies within the limits it is held to,
the pending one where there is one (R86, R94, R190). -/
def State.EmittedLaw (s : State) : Prop :=
  s.engine ≠ .unset →
    ∀ ax : Axis, s.latest (.lower ax) ≤ (s.axes.get ax).emitted ∧
      (s.axes.get ax).emitted ≤ s.latest (.upper ax)

/-- The law of the guide quantities (R130), with what is left of them outside the states that guide (R126,
R135). -/
def State.GuideLaw (s : State) : Prop :=
  (magnitude s.guide.offset.az ≤ s.inForce.guideRange ∧ magnitude s.guide.offset.el ≤ s.inForce.guideRange) ∧
    (∀ m ∈ s.guide.mailbox,
      magnitude m.correction.az ≤ s.inForce.guideStepMax ∧
        magnitude m.correction.el ≤ s.inForce.guideStepMax ∧ m.merges ≤ 65535) ∧
    (s.engine.isTarget = false → s.guide.offset = ⟨0, 0⟩) ∧
    (s.engine.followsTarget = false → s.guide.state = .off ∧ s.guide.mailbox = none)

/-- Outside the target states every offset is 0, a slew has no host offset, and the host offset stays in its range
(R79, R80, R83). -/
def State.OffsetLaw (s : State) : Prop :=
  ∀ ax : Axis,
    (s.engine.isTarget = false →
      (s.axes.get ax).applied = 0 ∧ (s.axes.get ax).host = 0 ∧ (s.axes.get ax).wanted = 0) ∧
      (s.engine.followsTarget = false → (s.axes.get ax).host = 0) ∧
      magnitude (s.axes.get ax).host ≤ 262144

/-! ### Event lines -/

/-- What R162 and R163 leave of an event line: a line of OFF, MANUAL or TOGGLE stays QUIET, PULSE is never in
DELAY, the timer runs exactly outside QUIET, and the output of PULSE and DELAYED is active exactly in ACTIVE. -/
def EventLine.lawful (l : EventLine) : Prop :=
  (1 ≤ l.delay ∧ l.delay ≤ 65535) ∧ (1 ≤ l.width ∧ l.width ≤ 65535) ∧ l.ignored ≤ 65535 ∧
    (∀ n ∈ l.timer, 1 ≤ n ∧ n ≤ 65535) ∧ (l.phase = .quiet ↔ l.timer = none) ∧
    (match l.mode with
      | .off => l.phase = .quiet ∧ l.output = false
      | .manual => l.phase = .quiet
      | .toggle => l.phase = .quiet
      | .pulse => l.phase ≠ .delay ∧ (l.output = true ↔ l.phase = .active)
      | .delayed => l.output = true ↔ l.phase = .active)

/-- Every event line is lawful (R162, R163), and a timer counts as set at a demand event only while that event is due
or in progress (R161; log entry 5). -/
def State.LineLaw (s : State) : Prop :=
  s.lines.ev0.lawful ∧ s.lines.ev1.lawful ∧ s.lines.ev2.lawful ∧ s.lines.ev3.lawful ∧
    (s.time.eventDue = false → ∀ id : LineId, (s.lines.get id).fresh = false)

/-! ### Resets -/

/-- Every value that the reset tables give for power-on and the RESET pin (R17, R40, R58, R71, R97, R125, R139, R153,
R166, R169, R179, R185, R190), written out, and those of the model's own fields. -/
def State.atPowerOn (straps : Links Straps) (t : State) : Prop :=
  (t.time = ⟨0, .free, 0, none, none, none, none, false, 0, false, false⟩ ∧ t.night = ⟨[], false⟩ ∧
      t.free = 512 ∧ t.model = ⟨[], ⟨false, 0⟩, ⟨false, 0⟩, false, ⟨0, 0⟩⟩) ∧
    (t.engine = .unset ∧ t.waitReason = none ∧ t.onTarget = false ∧ t.enable = false ∧
      (∀ ax, t.axes.get ax = ⟨0, 0, 0, 0, 0, 0, 0, 0⟩) ∧
      (∀ ax, t.steps.get ax = ⟨none, [], false, false, 0⟩)) ∧
    (t.guide = ⟨.off, none, ⟨0, 0⟩⟩ ∧ t.enclosure = ⟨none, .unknown, false, false⟩ ∧
      (∀ i, t.inputs.get i = ⟨false, false⟩) ∧
      (∀ l, t.lines.get l = ⟨.second, .off, true, 1, 1, .quiet, none, false, 0, false⟩)) ∧
    (t.faults = ⟨none, none, 0⟩ ∧
      t.notices =
        ⟨⟨⟨0, 0b1111111111, false⟩, ⟨0, 0b0000000111, false⟩, ⟨0, 0b1001000001, false⟩⟩, none, none⟩ ∧
      (∀ l, t.ports.get l = ⟨.hunt, 0, none, 0, 0, 0, straps.get l⟩)) ∧
    (t.inForce =
        { lower := ⟨-23068672, 233017, -12582912⟩, upper := ⟨23068672, 4171002, 12582912⟩
          stepMax := ⟨200, 200, 200⟩, vmax := ⟨140, 100, 200⟩, acc := ⟨655, 655, 1311⟩
          capturePos := 16, captureRate := 3277, park := ⟨0, 4000000, 0⟩, poolLow := 64, cstep := 4
          lagTol := 32, slewTimeout := 300000, settleTime := 2000, guideStepMax := 256
          guideRange := 8192, guideTimeout := 10000, encTimeout := 5000, encTol := 93207
          followEnc := 1 } ∧
      (∀ i : Item, t.pendingItems.get i = none) ∧ t.expiries = [] ∧ t.orderDraws = 0)

/-! ### The end of a target -/

/-- What the end of the ACTIVE entry `e` as `o` writes, whatever took it (R28, R31, R134, R146): the entry written ENDED
with its stamp, its discards counted and its chain released, the guide unit off and ON_TARGET not asserted. -/
def State.EndWrites (o : EndOutcome) (e : Entry) (s t : State) : Prop :=
  t.free = s.free + e.chain.length ∧ t.onTarget = false ∧ t.guide.state = .off ∧ t.guide.mailbox = none ∧
    t.notices.recentEnd = some (e.record.id, o) ∧
    t.night.entries =
      updateFirst Entry.isActive
        (fun _ =>
          { e with
            status := .ended o
            chain := []
            results :=
              { e.results with
                endedAt := some s.time.mountTime
                tally := e.results.tally.map fun y =>
                  { y with guideDiscarded := min 4294967295 (y.guideDiscarded + s.guide.held) } } })
        s.night.entries

/-- What the end of the ACTIVE entry `e` as `o` leaves where nothing is computed after it: what it writes, and every axis
folded (R91). G and the engine state are left to the cause of the end. -/
def State.EndLeaves (o : EndOutcome) (e : Entry) (s t : State) : Prop :=
  s.EndWrites o e t ∧
    ∀ ax, t.axes.get ax =
      { s.axes.get ax with
        base := (s.axes.get ax).demand * 65536, applied := 0, host := 0, wanted := 0 }

/-- What an end taken by a request leaves as it was, and what it reports (R28, R124, R147): TARGET_END to the three
notice sets and to the event lines, and the fall of ON_TARGET where it was asserted. -/
def State.EndKeeps (s t : State) : Prop :=
  let r := State.give .targetEnd (State.raise .targetEnd s)
  let reported := if s.onTarget then State.give .onTargetFall (State.raise .onTarget r) else r
  t.lines = reported.lines ∧ t.notices.boxes = reported.notices.boxes ∧
    t.notices.recentStart = s.notices.recentStart ∧ t.time = s.time ∧ t.model = s.model ∧
    t.enclosure = s.enclosure ∧ t.inputs = s.inputs ∧ t.pins = s.pins ∧ t.steps = s.steps ∧
    t.faults = s.faults ∧ t.ports = s.ports ∧ t.inForce = s.inForce ∧ t.pendingItems = s.pendingItems ∧
    t.pending = s.pending ∧ t.resetLow = s.resetLow ∧ t.expiries = s.expiries ∧ t.orderDraws = s.orderDraws

/-! ### Demand events -/

/-- A demand event comes next: RESET_N is high and mount time is not held (R2, R3). -/
def State.counting (s : State) : Prop := s.resetLow = false ∧ s.time.untilEvent.isSome = true

/-- The mount time of the demand event that comes next: now, where one is due, else the next multiple of 1,000
(R3). -/
def State.nextEventTime (s : State) : Nat :=
  if s.time.eventDue then s.time.mountTime else (s.time.mountTime / 1000 + 1) * 1000

/-- The filtered level of an input, as its pin's level shows it (R154). -/
def showsLevel (levels : Inputs Bool) (i : Input) : Bool := levels.get i == assertedHigh i

/-- A demand event at which nothing but the engine acts: every pin shows its filtered level, the shelter
condition stands as its sources form it, and no configuration value waits. -/
def State.calm (levels : Inputs Bool) (s : State) : Prop :=
  s.counting ∧ (∀ i : Input, (s.inputs.get i).level = showsLevel levels i) ∧
    s.enclosure.shelter = s.shelterSources ∧ s.pendingItems = Items.const none

/-- From one state to another the output of every TOGGLE line of a source with no timer has flipped: the source gave one
event, or an odd number (R160, R162). -/
def State.Flips (src : Source) (s t : State) : Prop :=
  ∀ id : LineId, (s.lines.get id).source = src → (s.lines.get id).mode = .toggle →
    (s.lines.get id).timer = none → (t.lines.get id).output = !(s.lines.get id).output

/-- From one state to another the output of every TOGGLE line of a source with no timer has stayed: the source gave no
event, or an even number (R160, R162). -/
def State.Rests (src : Source) (s t : State) : Prop :=
  ∀ id : LineId, (s.lines.get id).source = src → (s.lines.get id).mode = .toggle →
    (s.lines.get id).timer = none → (t.lines.get id).output = (s.lines.get id).output

/-- A notice kind is latched on all three links (R175). -/
def State.Noticed (k : Notice) (t : State) : Prop :=
  ∀ l : Link, (t.notices.boxes.get l).latched &&& k.bit ≠ 0

/-- The ACTIVE entry is FIXED at `p` with a wrap of `w` turns, no correction of any kind is at work, and the
position lies inside the limits: the demand of every following event is the position itself. -/
def State.onFixed (e : Entry) (p : Axes Int) (w : Int) (s : State) : Prop :=
  s.activeEntry = some e ∧ e.record.kind = .fixed p ∧ e.results.wrapOffset = some w ∧
    s.model.cells = [] ∧ s.guide.offset = ⟨0, 0⟩ ∧ s.guide.mailbox = none ∧ 0 ≤ s.inForce.cstep ∧
    0 ≤ s.inForce.guideRange ∧
    ∀ ax : Axis, (s.axes.get ax).host = 0 ∧ (s.axes.get ax).applied = 0 ∧
      s.within ax (roundCounts ((fixedPositions p w).get ax)) = true

/-- The ACTIVE entry is TRACK with a wrap of `w` turns, and no correction of any kind is at work: the demand of every
following event is the track's position. -/
def State.onTrack (e : Entry) (w : Int) (s : State) : Prop :=
  s.activeEntry = some e ∧ e.record.kind = .track ∧ e.results.wrapOffset = some w ∧
    s.model.cells = [] ∧ s.guide.offset = ⟨0, 0⟩ ∧ s.guide.mailbox = none ∧ 0 ≤ s.inForce.cstep ∧
    0 ≤ s.inForce.guideRange ∧ ∀ ax : Axis, (s.axes.get ax).host = 0 ∧ (s.axes.get ax).applied = 0

end Sys2Proof.Machine
end

