-- ==== Sys2Proof/WellFormed.lean ====
section
/-! DEFINITION. The checks on commands: what the frame of a request must be for its fields to be
these (R186, R188), and what an order of turns must be. A command that fails one of them still has a
meaning (the port answers BAD_LENGTH, R182; a repeated turn is taken once, log entry 3). -/

namespace Sys2Proof

/-- The optional fields of a record are those its presence byte names (R188). -/
def TargetRecord.wf (r : TargetRecord) : Bool :=
  (r.earliest.isSome == r.presence.getLsbD 0) &&
  (r.latest.isSome == r.presence.getLsbD 1) &&
  (r.fixedPosition.isSome == r.presence.getLsbD 2)

/-- An order names each turn at most once. -/
def orderWf (order : List Turn) : Bool := decide order.Nodup

/-- The commands whose operands a frame, a pin or a timer can give. -/
def Instr.wf : Instr → Bool
  | .powerOn _ => true
  | .resetPin => true
  | .resetPinRelease _ => true
  | .demandEvent _ order => orderWf order
  | .mountTimeHold => true
  | .ppsPulse => true
  | .slewCorrection => true
  | .pulseAgeExpiry => true
  | .frameTimeout _ gap => decide (20000 < gap)
  | .lineBreak _ (.spaceFor n) => decide (20 ≤ n)
  | .lineBreak _ .stopBitAtSpace => true
  | .replyEnd _ => true
  | .identify _ => true
  | .noticeRead _ => true
  | .noticeAck _ _ => true
  | .noticeMask _ _ => true
  | .status => true
  | .getTime => true
  | .setTime _ => true
  | .setPosition _ => true
  | .setConfig _ _ => true
  | .getConfig _ => true
  | .softReset => true
  | .targetAppend r => r.wf
  | .targetInsert _ r => r.wf
  | .targetRemove _ => true
  | .listPurge => true
  | .targetGet _ => true
  | .listSummary => true
  | .segmentAppend _ segs => decide (1 ≤ segs.length ∧ segs.length ≤ 4)
  | .modelSeek _ _ _ => true
  | .modelWrite pairs => decide (1 ≤ pairs.length ∧ pairs.length ≤ 60)
  | .modelRead _ => true
  | .nightStart => true
  | .nightStop => true
  | .targetAbort _ => true
  | .park => true
  | .offsetSet _ => true
  | .eventConfig _ _ _ _ _ _ => true
  | .eventSet _ _ => true
  | .eventGet _ => true
  | .faultRead => true
  | .faultClear => true
  | .guideCorrect _ => true
  | .guideStatus => true
  | .guideZero => true
  | .encReport _ _ => true
  | .encStatus => true
  | .slewTimeout _ order => orderWf order
  | .settleEnd _ order => orderWf order
  | .dwellEnd _ order => orderWf order
  | .holdExpired _ order => orderWf order
  | .guideLost _ order => orderWf order
  | .encReportExpiry _ order => orderWf order
  | .eventDelayExpiry _ _ order => orderWf order
  | .eventWidthExpiry _ _ order => orderWf order
  | .waitingScheduleStart _ => true
  | .byteReceived _ _ => true
  | .stepPulse _ => true

end Sys2Proof
end

