-- ==== Sys2Proof/Certificates/Slice0/Obligations.lean ====
section
/-! DEFINITION. The statements for the provers. Each docstring names the rules of the spec it states. -/

open Sys2Proof Sys2Proof.Machine

/-! ### The queue, resets -/

/-- One step takes the command at the front of the queue and runs it on the state with the queue's rest. On an empty queue
the part is left to itself: a demand event that is due is taken, with the pins as last shown, else one microsecond of the
oscillator passes, in which mount time (with no slew to correct it) advances by one up to its largest value, and the pulse age
by one (R2 to R4). The queue, and a step without a command, are the model's own (log entry 1), and so is the order of that
event's turns, a free value (log entry 3). -/
def Obligations.StepTakesFrontCommand : Prop :=
  (∀ (c : Instr) (rest : List Instr) (s : State),
    step { s with pending := c :: rest } = exec c { s with pending := rest }) ∧
  ∀ s : State, s.pending = [] →
    (s.resetLow = true → step s = .next s) ∧
    (s.resetLow = false → s.time.eventDue = true →
      step s =
        exec (.demandEvent s.pins (Config.turnOrder s.orderDraws))
          { s with orderDraws := s.orderDraws + 1 }) ∧
    (s.resetLow = false → s.time.eventDue = false →
      ∃ t, step s = .next t ∧
        { t with time := s.time, notices := s.notices, steps := s.steps, ports := s.ports } = s ∧
        t.steps = s.steps.map (StepOut.pass 1) ∧ t.ports = s.ports.map (Port.pass 1) ∧
        (s.time.slew = none → s.time.mountTime ≤ 281474976710655 →
          t.time.mountTime = min 281474976710655 (s.time.mountTime + 1) ∧
            (t.time.eventDue = true ↔ (s.time.mountTime + 1) % 1000 = 0)) ∧
        (s.time.pulseAge = none → t.time.pulseAge = none) ∧
        ∀ a, s.time.pulseAge = some a → a < 2500000 →
          t.time.pulseAge = some (a + 1) ∧ t.time.expiryDue = decide (a + 1 = 2500000))

/-- Power-on, the RESET pin and its release leave every value the reset tables give (R2, R167 and the reset
rule of each chapter), and State.reset has those values. Each link's straps, as read last, set its baud rate by R167's table. The model's
choices are these: POWER_ON leaves RESET_N high, and the pins and the queue of commands outlive a reset (log entries 6 and
19); the straps of State.reset are low, and while RESET_N is low they stay as last read (log entry 7); RESET_PIN_RELEASE with
RESET_N already high changes nothing (log entry 13). -/
def Obligations.ResetsLeavePowerOnState : Prop :=
  State.reset.atPowerOn ⟨strapsLow, strapsLow, strapsLow⟩ ∧
  ∀ (straps : Links Straps) (s : State),
    (∃ t, exec (.powerOn straps) s = .next t ∧ t.atPowerOn straps ∧ t.resetLow = false ∧
      t.pins = s.pins ∧ t.pending = s.pending) ∧
    (∃ t, exec .resetPin s = .next t ∧ t.atPowerOn (s.ports.map Port.straps) ∧ t.resetLow = true ∧
      t.pins = s.pins ∧ t.pending = s.pending) ∧
    (s.resetLow = true →
      ∃ t, exec (.resetPinRelease straps) s = .next t ∧ t.atPowerOn straps ∧ t.resetLow = false ∧
        t.pins = s.pins ∧ t.pending = s.pending) ∧
    (s.resetLow = false → exec (.resetPinRelease straps) s = .next s) ∧
    ∀ (l : Link) (t : State), t.atPowerOn straps →
      let x := straps.get l
      (t.ports.get l).baud =
        if x.rate1 then (if x.rate0 then 460800 else 230400)
        else if x.rate0 then 115200 else 38400

/-- The state right after power-on meets every law that the statements below keep along steps. -/
def Obligations.ResetMeetsEveryLaw : Prop :=
  State.reset.TimeLaw ∧ State.reset.ListLaw ∧ State.reset.PoolLaw ∧ State.reset.ChainLaw ∧
    State.reset.ModelLaw ∧ State.reset.CycleLaw ∧ State.reset.EnableLaw ∧ State.reset.FaultLaw ∧
    State.reset.ShelterLaw ∧ State.reset.AttentionLaw ∧ State.reset.ConfigLaw ∧
    State.reset.EmittedLaw ∧ State.reset.GuideLaw ∧ State.reset.OffsetLaw ∧ State.reset.LineLaw ∧
    State.reset.PortLaw

/-! ### Mount time (01_mount_time.md) -/

/-- A rising edge of PPS (R4 to R8, R12, R15). A spurious pulse is counted and nothing else. An accepted one sets
the age to 0, records e, and is handled by the discipline state, by the size of e and by whether the engine is still;
a pending set is applied in a still state and dropped in any other. Where mount time jumps, by a step or an applied set, the
demand event that was due does not occur, and the event lines' timers are again counted at the next; where it does not jump,
an event that was due still is (R3, R161; log entry 5). A change of R10 that was due is no longer. -/
def Obligations.PulseHandledByDiscipline : Prop :=
  ∀ s : State, s.resetLow = false →
    (∀ a, s.time.pulseAge = some a → a < 900000 →
      exec .ppsPulse s =
        .next { s with time := { s.time with spurious := min 65535 (s.time.spurious + 1) } }) ∧
    ((∀ a, s.time.pulseAge = some a → 900000 ≤ a) →
      let m := s.time.mountTime
      let r : Int := m % 1000000
      let e : Int := if r < 500000 then r else r - 1000000
      let kept := s.time.discipline = .locked ∧ magnitude e ≤ 50
      let good : Nat := if s.time.discipline = .acquiring then s.time.goodCount else 0
      let applied := s.engine.isStill = true ∧ s.time.pendingSet ≠ none
      let counts := magnitude e ≤ 2 ∨ applied
      let moved : Nat := (min 281474976710655 ((m : Int) - e)).toNat
      let slewed : Option Slew :=
        if e = 0 then none else some ⟨decide (0 < e), min e.natAbs 20, min e.natAbs 20, 0⟩
      ∃ t, exec .ppsPulse s = .next t ∧
        { t with time := s.time, notices := s.notices, lines := s.lines } = s ∧
        (t.lines =
          if t.time.eventDue then s.lines else s.lines.map fun l => { l with fresh := false }) ∧
        t.time.pulseAge = some 0 ∧ t.time.phaseError = some e ∧ t.time.pendingSet = none ∧
        t.time.spurious = s.time.spurious ∧ t.time.expiryDue = false ∧
        (applied → t.time.eventDue = false) ∧
        (¬ applied → ¬ kept → 2 < magnitude e → s.engine.isStill = true → t.time.eventDue = false) ∧
        (¬ applied → (kept ∨ magnitude e ≤ 2 ∨ s.engine.isStill = false) →
          t.time.eventDue = s.time.eventDue) ∧
        (kept → t.time.discipline = .locked ∧ t.time.goodCount = s.time.goodCount) ∧
        (¬ kept → ¬ counts → t.time.discipline = .acquiring ∧ t.time.goodCount = 0) ∧
        (¬ kept → counts → good < 3 → t.time.discipline = .acquiring ∧ t.time.goodCount = good + 1) ∧
        (¬ kept → counts → 3 ≤ good → t.time.discipline = .locked ∧ t.time.goodCount = 4) ∧
        (∀ v, s.time.pendingSet = some v → applied →
          t.time.mountTime = v ∧ t.time.slew = none ∧ t.time.timeValid = true) ∧
        (¬ applied → t.time.timeValid = s.time.timeValid) ∧
        (¬ applied → (kept ∨ magnitude e ≤ 2 ∨ s.engine.isStill = false) →
          t.time.mountTime = m ∧ t.time.slew = slewed) ∧
        (¬ applied → ¬ kept → 2 < magnitude e → s.engine.isStill = true →
          t.time.mountTime = moved ∧ t.time.slew = none) ∧
        t.notices =
          if s.time.pendingSet ≠ none ∨ t.time.discipline ≠ s.time.discipline then
            (State.raise .time s).notices
          else s.notices)

/-- SET_TIME, in the order of its checks, and GET_TIME (R11, R15, R16). A set applied at once leaves no demand event due, so
no event line's timer is one that such an event does not count (R3, R161; log entry 5). -/
def Obligations.SetTimeAndGetTime : Prop :=
  ∀ (v : BitVec 48) (s : State), s.ready .schedule →
    (s.engine.isStill = false →
      exec (.setTime v) s = .next (s.answered .schedule 0x92 .inMotion .none)) ∧
    (s.engine.isStill = true → s.time.discipline = .free →
      exec (.setTime v) s =
        .next ((State.raise .time
          { s with
            time :=
              { s.time with
                mountTime := v.toNat, eventDue := false, slew := none, timeValid := true }
            lines := s.lines.map fun l => { l with fresh := false } }).answered
            .schedule 0x92 .ok .none)) ∧
    (s.engine.isStill = true → s.time.discipline ≠ .free → v.toNat % 1000000 ≠ 0 →
      exec (.setTime v) s = .next (s.answered .schedule 0x92 .badValue .none)) ∧
    (s.engine.isStill = true → s.time.discipline ≠ .free → v.toNat % 1000000 = 0 →
      exec (.setTime v) s =
        .next ({ s with time := { s.time with pendingSet := some v.toNat } }.answered
          .schedule 0x92 .ok .none)) ∧
    exec .getTime s =
      .next (s.answered .schedule 0x91 .ok (.time
        { mountTime := s.time.mountTime, discipline := s.time.discipline
          timeValid := s.time.timeValid, pendingSet := s.time.pendingSet
          goodCount := s.time.goodCount, phaseError := s.time.phaseError
          spurious := s.time.spurious }))

/-- A correction of a slew (R9): in the period numbered floor(j·1,000/n) + 1 mount time reads 500 of its millisecond for
two microseconds in a removal, and goes from 500 to 502 in an insertion. The row brings time to just after it; with no slew
nothing happens (log entry 2). -/
def Obligations.SlewCorrectionAtFiveHundred : Prop :=
  ∀ s : State, s.resetLow = false →
    (s.time.slew = none → exec .slewCorrection s = .next s) ∧
    (∀ w a, s.time.slew = some w → 0 < w.left →
      w.events = (w.size - w.left) * 1000 / w.size + 1 →
      s.time.eventDue = false → s.time.expiryDue = false → s.time.mountTime % 1000 ≤ 500 →
      s.time.mountTime + 1000 ≤ 281474976710655 →
      s.time.pulseAge = some a → a + 1000 ≤ 2500000 →
      let start := s.time.mountTime - s.time.mountTime % 1000
      let n := 501 - s.time.mountTime % 1000
      exec .slewCorrection s =
        .next
          { s with
            time :=
              { s.time with
                mountTime := if w.remove then start + 500 else start + 502
                slew := if w.left = 1 then none else some { w with left := w.left - 1 }
                pulseAge := some (a + n) }
            steps := s.steps.map (StepOut.pass n)
            ports := s.ports.map (Port.pass n) })

/-- The pulse age reaches 2,500,000 (R10, R13, R15): LOCKED falls to HOLDOVER and ACQUIRING to FREE with a pending set
dropped and the TIME notice raised, FREE and HOLDOVER stay, and the good-pulse count becomes 0. That the row brings time to
that moment only within the period in progress is the model's choice (log entry 2). -/
def Obligations.PulseAgeExpiryFalls : Prop :=
  ∀ (s : State) (a : Nat), s.resetLow = false → s.time.mountTime ≤ 281474976710655 →
    s.time.pulseAge = some a →
    (a < 2500000 ∧ s.time.expiryDue = false ∧ s.withinPeriod (2500000 - a) = true ∨
      a = 2500000 ∧ s.time.expiryDue = true) →
    let n := 2500000 - a
    let falls := s.time.discipline = .locked ∨ s.time.discipline = .acquiring
    ∃ t, exec .pulseAgeExpiry s = .next t ∧
      { t with time := s.time, notices := s.notices, steps := s.steps, ports := s.ports } = s ∧
      t.steps = s.steps.map (StepOut.pass n) ∧ t.ports = s.ports.map (Port.pass n) ∧
      { t.time with
        discipline := s.time.discipline, goodCount := s.time.goodCount
        pendingSet := s.time.pendingSet, pulseAge := some a, expiryDue := false } =
        { s.time.count n with expiryDue := false } ∧
      t.time.pulseAge = some 2500000 ∧ t.time.expiryDue = false ∧ t.time.goodCount = 0 ∧
      (s.time.discipline = .locked → t.time.discipline = .holdover) ∧
      (s.time.discipline = .acquiring → t.time.discipline = .free) ∧
      (falls → t.time.pendingSet = none ∧ t.notices = (State.raise .time s).notices) ∧
      (¬ falls →
        t.time.discipline = s.time.discipline ∧ t.time.pendingSet = s.time.pendingSet ∧
          t.notices = s.notices)

/-- Mount time reaches 281,474,976,710,655 and holds there (R2): nothing but the time base, the step outputs, the gaps within
frames and the TIME notice can change on the way, and from then on there is no demand event. The statement is of the last period before the
hold, and that a DEMAND_EVENT has no effect then is the model's choice (log entry 2). -/
def Obligations.MountTimeHoldsAtLargest : Prop :=
  ∀ s : State, s.resetLow = false → s.time.eventDue = false →
    281474976710000 ≤ s.time.mountTime → s.time.mountTime ≤ 281474976710655 →
    (∃ t, exec .mountTimeHold s = .next t ∧ t.time.mountTime = 281474976710655 ∧
      t.time.eventDue = false ∧ t.time.timeValid = s.time.timeValid ∧
      { t with time := s.time, notices := s.notices, steps := s.steps, ports := s.ports } = s ∧
      ∃ n, t.steps = s.steps.map (StepOut.pass n) ∧ t.ports = s.ports.map (Port.pass n)) ∧
    ∀ levels order, exec (.demandEvent levels order) s = .next s

/-- The law of mount time (R2): from one step to the next it never falls, except by a reset, or in a still state by a
pulse or by a SET_TIME (as its row, or as the last byte of its frame). -/
def Obligations.MountTimeFallsOnlyWhenStill : Prop :=
  ∀ s t : State, s.time.mountTime ≤ 281474976710655 → step s = .next t →
    s.time.mountTime ≤ t.time.mountTime ∨
    (∃ straps, s.pending.head? = some (.powerOn straps)) ∨
    s.pending.head? = some .resetPin ∨
    (∃ straps, s.pending.head? = some (.resetPinRelease straps)) ∨
    (s.engine.isStill = true ∧
      (s.pending.head? = some .ppsPulse ∨ (∃ v, s.pending.head? = some (.setTime v)) ∨
        ∃ b, s.pending.head? = some (.byteReceived .schedule b)))

/-! ### Night list (02_the_night_list.md) -/

/-- The checks of a target record, and the fields written when it is accepted (R19, R20, R23): as given, but for guide
required without guided. -/
def Obligations.RecordChecked : Prop :=
  ∀ r : TargetRecord,
    (recordOf r = none ↔
      r.id.toNat = 0 ∨ (r.kind.toNat ≠ 0 ∧ r.kind.toNat ≠ 1) ∨ 3 ≤ r.wrap.toNat ∨
        r.dwell.toNat = 0 ∨ 2 ≤ r.station.toNat ∨
        (∃ a b, r.earliest = some a ∧ r.latest = some b ∧ b.toNat < a.toNat) ∨
        (r.kind.toNat = 1 ∧ r.fixedPosition = none) ∨
        (r.kind.toNat = 0 ∧ r.fixedPosition ≠ none) ∨
        8 ≤ r.presence.toNat ∨ 8 ≤ r.flags.toNat) ∧
    ∀ rec, recordOf r = some rec →
      rec.id = r.id.toNat ∧ (r.kind.toNat = 0 → rec.kind = .track) ∧
      (∀ p, r.kind.toNat = 1 → r.fixedPosition = some p →
        rec.kind = .fixed ⟨p.az.toInt, p.el.toInt, p.rot.toInt⟩) ∧
      rec.earliest = r.earliest.map BitVec.toNat ∧ rec.latest = r.latest.map BitVec.toNat ∧
      rec.dwell = r.dwell.toNat ∧ rec.maxHold = r.maxHold.toNat ∧
      (rec.station = true ↔ r.station.toNat = 1) ∧
      rec.guided = r.flags.getLsbD 0 ∧
      rec.guideRequired = (r.flags.getLsbD 0 && r.flags.getLsbD 1) ∧
      rec.carryGuide = r.flags.getLsbD 2 ∧
      (rec.wrap = .auto ↔ r.wrap.toNat = 0) ∧ (rec.wrap = .low ↔ r.wrap.toNat = 1) ∧
      (rec.wrap = .high ↔ r.wrap.toNat = 2)

/-- TARGET_APPEND, in the order of its checks (R33, R188): the new PENDING entry stands at the tail. That a row whose operands
no frame can carry (r.wf = false) is answered BAD_LENGTH is the model's choice (log entry 8). -/
def Obligations.TargetAppendAtTail : Prop :=
  ∀ (r : TargetRecord) (s : State), s.ready .schedule →
    (r.wf = false →
      exec (.targetAppend r) s = .next (s.answered .schedule 0xA0 .badLength .none)) ∧
    (r.wf = true → recordOf r = none →
      exec (.targetAppend r) s = .next (s.answered .schedule 0xA0 .badValue .none)) ∧
    ∀ rec, r.wf = true → recordOf r = some rec →
      ((∃ e ∈ s.night.entries, e.record.id = rec.id) →
        exec (.targetAppend r) s = .next (s.answered .schedule 0xA0 .duplicateId .none)) ∧
      ((∀ e ∈ s.night.entries, e.record.id ≠ rec.id) → 64 ≤ s.night.entries.length →
        exec (.targetAppend r) s = .next (s.answered .schedule 0xA0 .listFull .none)) ∧
      ((∀ e ∈ s.night.entries, e.record.id ≠ rec.id) → s.night.entries.length < 64 →
        exec (.targetAppend r) s =
          .next ({ s with
            night :=
              { s.night with
                entries :=
                  s.night.entries ++
                    [(⟨rec, .pending, ⟨none, none, none, none, none, none⟩, []⟩ : Entry)] } }.answered
            .schedule 0xA0 .ok (.position (s.night.entries.length + 1))))

/-- TARGET_INSERT, in the order of its checks (R34, R188): the new PENDING entry stands immediately before the named one. That
a row whose operands no frame can carry (r.wf = false) is answered BAD_LENGTH is the model's choice (log entry 8). -/
def Obligations.TargetInsertBeforeNamed : Prop :=
  ∀ (named : BitVec 16) (r : TargetRecord) (s : State), s.ready .schedule →
    (r.wf = false →
      exec (.targetInsert named r) s = .next (s.answered .schedule 0xA1 .badLength .none)) ∧
    (r.wf = true → recordOf r = none →
      exec (.targetInsert named r) s = .next (s.answered .schedule 0xA1 .badValue .none)) ∧
    ∀ rec, r.wf = true → recordOf r = some rec →
      ((∀ e ∈ s.night.entries, e.record.id ≠ named.toNat) →
        exec (.targetInsert named r) s = .next (s.answered .schedule 0xA1 .noSuchTarget .none)) ∧
      ∀ (before after : List Entry) (e : Entry), s.night.entries = before ++ e :: after →
        (∀ x ∈ before, x.record.id ≠ named.toNat) → e.record.id = named.toNat →
        (e.isPending = false →
          exec (.targetInsert named r) s = .next (s.answered .schedule 0xA1 .notPending .none)) ∧
        (e.isPending = true → (∃ x ∈ s.night.entries, x.record.id = rec.id) →
          exec (.targetInsert named r) s =
            .next (s.answered .schedule 0xA1 .duplicateId .none)) ∧
        (e.isPending = true → (∀ x ∈ s.night.entries, x.record.id ≠ rec.id) →
          64 ≤ s.night.entries.length →
          exec (.targetInsert named r) s = .next (s.answered .schedule 0xA1 .listFull .none)) ∧
        (e.isPending = true → (∀ x ∈ s.night.entries, x.record.id ≠ rec.id) →
          s.night.entries.length < 64 →
          exec (.targetInsert named r) s =
            .next ({ s with
              night :=
                { s.night with
                  entries :=
                    before ++
                      (⟨rec, .pending, ⟨none, none, none, none, none, none⟩, []⟩ : Entry) :: e :: after } }.answered
              .schedule 0xA1 .ok (.position (before.length + 1))))

/-- TARGET_REMOVE and LIST_PURGE (R35, R36, R49). -/
def Obligations.EntriesLeaveTheList : Prop :=
  ∀ (id : BitVec 16) (s : State), s.ready .schedule →
    ((∀ e ∈ s.night.entries, e.record.id ≠ id.toNat) →
      exec (.targetRemove id) s = .next (s.answered .schedule 0xA2 .noSuchTarget .none)) ∧
    (∀ (before after : List Entry) (e : Entry), s.night.entries = before ++ e :: after →
      (∀ x ∈ before, x.record.id ≠ id.toNat) → e.record.id = id.toNat →
      (e.isActive = true →
        exec (.targetRemove id) s = .next (s.answered .schedule 0xA2 .wrongState .none)) ∧
      (e.isActive = false →
        exec (.targetRemove id) s =
          .next ({ s with
            night := { s.night with entries := before ++ after }
            free := s.free + e.chain.length }.answered
            .schedule 0xA2 .ok (.removed e.chain.length (s.free + e.chain.length))))) ∧
    ∃ kept, kept = s.night.entries.filter (fun e => !e.isEnded) ∧
      exec .listPurge s =
        .next ({ s with night := { s.night with entries := kept } }.answered
          .schedule 0xA3 .ok (.purged (s.night.entries.length - kept.length) kept.length))

/-- TARGET_GET and LIST_SUMMARY read the list and change nothing but their port (R37, R38, R45). -/
def Obligations.ListRead : Prop :=
  ∀ (id : BitVec 16) (s : State), s.ready .schedule →
    ((∀ e ∈ s.night.entries, e.record.id ≠ id.toNat) →
      exec (.targetGet id) s = .next (s.answered .schedule 0xA4 .noSuchTarget .none)) ∧
    (∀ (before after : List Entry) (e : Entry), s.night.entries = before ++ e :: after →
      (∀ x ∈ before, x.record.id ≠ id.toNat) → e.record.id = id.toNat →
      exec (.targetGet id) s =
        .next (s.answered .schedule 0xA4 .ok (.target
          { position := before.length + 1, record := e.record, status := e.status
            results := e.results, chainLength := e.chain.length
            chainStart := e.chain.head?.map segStart
            chainEnd := e.chain.getLast?.map segEnd }))) ∧
    exec .listSummary s =
      .next (s.answered .schedule 0xA5 .ok (.summary
        { nightFlag := s.night.flag, entries := s.night.entries.length
          pending := s.night.entries.countP Entry.isPending
          active := s.night.entries.countP Entry.isActive
          ended := s.night.entries.countP Entry.isEnded
          activeId := s.activeEntry.map fun e => e.record.id
          items := s.night.entries.map fun e => (e.record.id, e.status) }))

/-- An entry moves one way only (R25, R26): from one step to the next, an entry that stays keeps its record, its state
and phase never go back, and an ENDED entry does not change. -/
def Obligations.EntriesMoveOneWay : Prop :=
  ∀ s t : State, s.ListLaw → s.CycleLaw → step s = .next t →
    ∀ e ∈ s.night.entries, ∀ e' ∈ t.night.entries, e'.record.id = e.record.id →
      e'.record = e.record ∧ e.status.rank ≤ e'.status.rank ∧ (e.isEnded = true → e' = e)

/-! ### Segment pool (03_track_segments_and_the_segment_pool.md) -/

/-- The covering segment of a chain, and what is released as passed or as stale (R44, R45, R47, R48); and the demand event of
a TRACK target with no correction at work (R46, R47, R73 to R78, R85, R92, R111): a covered chain gives the target's position
and rate and releases what has passed, a position outside the limits ends the entry as LIMIT, a chain that has run out ends
it as RUNOUT with the demand where it was. -/
def Obligations.CoveringSegment : Prop :=
  (∀ (t : Nat) (chain : List Segment),
    (∀ g, covering t chain = some g ↔
      ∃ before after, chain = before ++ g :: after ∧ segStart g ≤ t ∧ t < segEnd g ∧
        ∀ h ∈ after, t < segStart h) ∧
    (∀ before g after, chain = before ++ g :: after → segStart g ≤ t →
      (∀ h ∈ after, t < segStart h) → dropPassed t chain = g :: after) ∧
    (chainLawful chain → ∀ first last, chain.head? = some first → chain.getLast? = some last →
      (covering t chain ≠ none ↔ segStart first ≤ t ∧ t < segEnd last) ∧
      (segEnd last ≤ t → dropStale t chain = []) ∧
      (t < segStart first → dropStale t chain = chain) ∧
      (segStart first ≤ t → t < segEnd last → dropStale t chain = dropPassed t chain))) ∧
  ∀ (levels : Inputs Bool) (order : List Turn) (s : State) (e : Entry) (w : Int),
    s.calm levels → s.onTrack e w →
    let now := s.nextEventTime
    let kept := dropPassed now e.chain
    let ended (t : State) (o : EndOutcome) :=
      ∃ x ∈ t.night.entries, x.record = e.record ∧ x.status = .ended o ∧
        x.results.endedAt = some now ∧ x.chain = []
    let follows (t : State) (g : Segment) :=
      t.free = s.free + (e.chain.length - kept.length) ∧
        (∃ x, t.activeEntry = some x ∧ x.record = e.record ∧ x.chain = kept ∧
          kept.head? = some g) ∧
        ∀ ax : Axis, (t.axes.get ax).demand = roundCounts (t.axes.get ax).base ∧
          (t.axes.get ax).applied = 0
    (s.engine.isTarget = true → covering now e.chain = none →
      (∀ ax : Axis, s.within ax (s.axes.get ax).demand = true) →
      ∃ t, exec (.demandEvent levels order) s = .next t ∧ ended t .runout ∧ t.onTarget = false ∧
        ∀ ax : Axis, (t.axes.get ax).demand = (s.axes.get ax).demand ∧
          (t.axes.get ax).base = (s.axes.get ax).demand * 65536 ∧
          (t.axes.get ax).vel = (s.axes.get ax).vel ∧ (t.axes.get ax).applied = 0) ∧
    ∀ g, covering now e.chain = some g →
      let k : Int := ((now - segStart g) / 1000 : Nat)
      let pos := segPositions g w k
      let rate := segRates g k
      let inside := ∀ ax : Axis, s.within ax (roundCounts (pos.get ax)) = true
      (s.engine.followsTarget = true → ¬ inside →
        ∃ t, exec (.demandEvent levels order) s = .next t ∧ ended t .limit ∧
          ∀ ax : Axis,
            let d := max (s.inForce.lower.get ax)
              (min (s.inForce.upper.get ax) (roundCounts (pos.get ax)))
            (s.inForce.lower.get ax ≤ s.inForce.upper.get ax →
              (t.axes.get ax).demand = d ∧ (t.axes.get ax).base = d * 65536)) ∧
      (∀ n, s.engine = .settling n ∧ (n + 1 : Nat) < s.inForce.settleTime ∨
          s.engine = .tracking n ∧ n + 1 < e.record.dwell →
        inside →
        ∃ t, exec (.demandEvent levels order) s = .next t ∧ follows t g ∧
          (s.engine = .settling n → t.engine = .settling (n + 1)) ∧
          (s.engine = .tracking n → t.engine = .tracking (n + 1)) ∧
          ∀ ax : Axis, (t.axes.get ax).base = pos.get ax ∧ (t.axes.get ax).vel = rate.get ax) ∧
      ∀ n az, s.engine = .slewing n az →
        let m := s.followTo pos rate
        (¬ inside → ∃ t, exec (.demandEvent levels order) s = .next t ∧ ended t .limit) ∧
        (inside → s.captureTest pos rate m = false → (n + 1 : Nat) < s.inForce.slewTimeout →
          (∀ ax : Axis, s.within ax (roundCounts (m.get ax).pos) = true) →
          ∃ t, exec (.demandEvent levels order) s = .next t ∧ follows t g ∧
            t.engine = .slewing (n + 1) (roundCounts pos.az) ∧
            ∀ ax : Axis, (t.axes.get ax).base = (m.get ax).pos ∧
              (t.axes.get ax).vel = (m.get ax).vel)

/-- SEGMENT_APPEND, in the order of its checks, all or nothing (R50, R51, R53, R56). Which segment of step 4 fails is
said by `segmentsFault` (the next statement). -/
def Obligations.SegmentAppendAllOrNothing : Prop :=
  ∀ (id : BitVec 16) (segs : List Segment) (s : State), s.ready .schedule →
    1 ≤ segs.length → segs.length ≤ 4 →
    ((∀ e ∈ s.night.entries, e.record.id ≠ id.toNat) →
      exec (.segmentAppend id segs) s = .next (s.answered .schedule 0xA6 .noSuchTarget .none)) ∧
    ∀ (before after : List Entry) (e : Entry), s.night.entries = before ++ e :: after →
      (∀ x ∈ before, x.record.id ≠ id.toNat) → e.record.id = id.toNat →
      let refused (st : Status) (place : Option Nat) :=
        exec (.segmentAppend id segs) s =
          .next (s.answered .schedule 0xA6 st (.chain e.chain.length s.free none place))
      let fault := segmentsFault e.isActive s.time.mountTime 1 e.chain.getLast? segs
      let chain := e.chain ++ segs
      let free := s.free - segs.length
      let stored : State :=
        { s with
          night := { s.night with entries := before ++ { e with chain := chain } :: after }
          free := free }
      (e.isEnded = true → refused .notPending none) ∧
      (e.isEnded = false → e.record.kind ≠ .track → refused .badValue none) ∧
      (∀ st place, e.isEnded = false → e.record.kind = .track → fault = some (st, place) →
        refused st (some place)) ∧
      (e.isEnded = false → e.record.kind = .track → fault = none → s.free < segs.length →
        refused .poolFull none) ∧
      (e.isEnded = false → e.record.kind = .track → fault = none → segs.length ≤ s.free →
        exec (.segmentAppend id segs) s =
          .next
            ((if s.inForce.poolLow ≤ (s.free : Int) ∧ (free : Int) < s.inForce.poolLow then
                State.raise .poolLow stored
              else stored).answered
              .schedule 0xA6 .ok (.chain chain.length free (chainSpan chain) none)))

/-- Step 4 of SEGMENT_APPEND (R51, R52): segments pass exactly when the chain with them keeps the law of the chain and,
for an ACTIVE entry, all of them start after receipt; else the first that fails is named with its place and the first of
the four checks it fails: ALIGN, BAD_VALUE, ORDER against its predecessor, LATE. -/
def Obligations.SegmentsChecked : Prop :=
  ∀ (active : Bool) (t : Nat) (chain segs : List Segment), chainLawful chain →
    (segmentsFault active t 1 chain.getLast? segs = none ↔
      chainLawful (chain ++ segs) ∧ (active = true → ∀ g ∈ segs, t < segStart g)) ∧
    ∀ st place, segmentsFault active t 1 chain.getLast? segs = some (st, place) →
      ∃ before g after, segs = before ++ g :: after ∧ place = before.length + 1 ∧
        segmentsFault active t 1 chain.getLast? before = none ∧
        let aligned := segStart g % 1000 = 0
        let fits := g.len.toNat ≠ 0 ∧ segEnd g ≤ 281474976710655
        let ordered := ∀ p, (chain ++ before).getLast? = some p →
          segStart p < segStart g ∧ segStart g ≤ segEnd p ∧ segEnd p ≤ segEnd g
        (st = .align ↔ ¬ aligned) ∧ (st = .badValue ↔ aligned ∧ ¬ fits) ∧
        (st = .order ↔ aligned ∧ fits ∧ ¬ ordered) ∧
        (st = .late ↔ aligned ∧ fits ∧ ordered ∧ active = true ∧ segStart g ≤ t) ∧
        (chainLawful (chain ++ before ++ [g]) ↔ aligned ∧ fits ∧ ordered) ∧
        (st = .align ∨ st = .badValue ∨ st = .order ∨ st = .late)

/-- The law of the list, the law of the pool, the law of the chain, and no chain for a FIXED or an ENDED entry (R18, R20, R41
to R43) are kept by every step. -/
def Obligations.ListAndPoolLawsKept : Prop :=
  ∀ s t : State, step s = .next t →
    (s.ListLaw → t.ListLaw) ∧ (s.PoolLaw → t.PoolLaw) ∧ (s.ChainLaw → t.ChainLaw)

/-! ### Model table (04_pointing_model_table.md) -/

/-- MODEL_SEEK, MODEL_WRITE and MODEL_READ (R65 to R68): a pointer advances by one index for every pair, 127 followed by 0 on
its page; a write's pairs stand at the entries from the write pointer onward, every other entry reads as before. That
the table is a list in a canonical form, which a write keeps, is the model's choice (log entry 23), and so is that the reply
to a refused MODEL_SEEK carries no pointer (log entry 31). -/
def Obligations.ModelPointersAndEntries : Prop :=
  ∀ (pointer page index count : Byte) (pairs : List Pair) (s : State), s.ready .schedule →
    (1 < pointer.toNat ∨ 1 < page.toNat ∨ 127 < index.toNat →
      exec (.modelSeek pointer page index) s =
        .next (s.answered .schedule 0xB0 .badValue .none)) ∧
    (pointer.toNat ≤ 1 → page.toNat ≤ 1 → index.toNat ≤ 127 →
      let p : Pointer := ⟨decide (page.toNat = 1), index.toNat⟩
      let m : ModelTable :=
        if pointer.toNat = 0 then { s.model with writePtr := p }
        else { s.model with readPtr := p }
      exec (.modelSeek pointer page index) s =
        .next ({ s with model := m }.answered
          .schedule 0xB0 .ok (.pointers m.writePtr m.readPtr))) ∧
    (count.toNat = 0 ∨ 60 < count.toNat →
      exec (.modelRead count) s = .next (s.answered .schedule 0xB2 .badValue .none)) ∧
    (1 ≤ count.toNat → count.toNat ≤ 60 →
      let p := s.model.readPtr
      let held := (List.range count.toNat).map fun j =>
        readCell s.model.cells (cellAddr p.page ((p.index + j) % 128))
      exec (.modelRead count) s =
        .next ({ s with
          model :=
            { s.model with readPtr := ⟨p.page, (p.index + count.toNat) % 128⟩ } }.answered
          .schedule 0xB2 .ok (.modelPairs p held s.model.pageInUse s.model.last))) ∧
    (s.ModelLaw → 1 ≤ pairs.length → pairs.length ≤ 60 →
      let p := s.model.writePtr
      let after : Pointer := ⟨p.page, (p.index + pairs.length) % 128⟩
      ∃ cells, exec (.modelWrite pairs) s =
          .next ({ s with model := { s.model with cells := cells, writePtr := after } }.answered
            .schedule 0xB1 .ok (.writePointer after)) ∧
        cellsWf cells = true ∧
        (∀ j v, pairs[j]? = some v →
          readCell cells (cellAddr p.page ((p.index + j) % 128)) = v) ∧
        ∀ a, (∀ j, j < pairs.length → a ≠ cellAddr p.page ((p.index + j) % 128)) →
          readCell cells a = readCell s.model.cells a)

/-- The column, the row and the weighted mean of four entries (R62, R63, R64): the ranges of columns, rows and
fractions, the sum of the weights, the bound on the sum X, and the result between the least and the greatest of the
four. -/
def Obligations.CorrectionIsWeightedMean : Prop :=
  ∀ (cells : List (Nat × Pair)) (page : Bool) (az el : Int),
    let azMod := az % 16777216
    let c := (column az).1
    let fa := (column az).2
    let r := (row el).1
    let fe := (row el).2
    let next := if c = 15 then 0 else c + 1
    let t (i j : Nat) : Pair := readCell cells ((if page then 128 else 0) + (i * 16 + j))
    let x (f : Pair → Int) : Int :=
      f (t r c) * (4096 - fa) * (4096 - fe) + f (t r next) * fa * (4096 - fe) +
        f (t (r + 1) c) * (4096 - fa) * fe + f (t (r + 1) next) * fa * fe
    let m := modelCorrection cells page az el
    ((c : Int) = azMod / 1048576 ∧ c ≤ 15 ∧ fa = azMod % 1048576 / 256 ∧ 0 ≤ fa ∧ fa ≤ 4095) ∧
    (el < 0 → r = 0 ∧ fe = 0) ∧ (3670016 ≤ el → r = 6 ∧ fe = 4096) ∧
    (0 ≤ el → el < 3670016 →
      (r : Int) = el / 524288 ∧ r ≤ 6 ∧ fe = el % 524288 / 128 ∧ 0 ≤ fe ∧ fe ≤ 4095) ∧
    (4096 - fa) * (4096 - fe) + fa * (4096 - fe) + (4096 - fa) * fe + fa * fe = 16777216 ∧
    m.az = (x (fun v => v.az.toInt) + 8388608) / 16777216 ∧
    m.el = (x (fun v => v.el.toInt) + 8388608) / 16777216 ∧
    (magnitude (x fun v => v.az.toInt) < 1099511627776 ∧
      magnitude (x fun v => v.el.toInt) < 1099511627776) ∧
    (∀ lo hi : Int,
      (∀ i j, (i = r ∨ i = r + 1) → (j = c ∨ j = next) → lo ≤ (t i j).az.toInt ∧ (t i j).az.toInt ≤ hi) →
        lo ≤ m.az ∧ m.az ≤ hi) ∧
    (∀ lo hi : Int,
      (∀ i j, (i = r ∨ i = r + 1) → (j = c ∨ j = next) → lo ≤ (t i j).el.toInt ∧ (t i j).el.toInt ≤ hi) →
        lo ≤ m.el ∧ m.el ≤ hi)

/-! ### Demand (05_computing_the_demand.md) -/

/-- The position and the rate of a segment at millisecond k (R75 to R78): the acceleration terms alone are rounded, the
wrap offset stands on AZ alone, and the sums are clamped to 48 and 32 bits. -/
def Obligations.SegmentEvaluated : Prop :=
  ∀ (g : Segment) (w : Int) (k : Nat) (ax : Axis),
    let p0 := (g.p0.get ax).toInt
    let v0 := (g.v0.get ax).toInt
    let a := (g.a.get ax).toInt
    let wrap := if ax = .az then w * 1099511627776 else 0
    let sum := p0 + v0 * k + (a * (k : Int) ^ 2 + 65536) / 131072 + wrap
    let rate := v0 + (a * k + 32768) / 65536
    (segPositions g w k).get ax =
        max (-140737488355328) (min 140737488355327 sum) ∧
      (segRates g k).get ax = max (-2147483648) (min 2147483647 rate) ∧
      (k = 0 → w = 0 → (segPositions g w k).get ax = p0) ∧
      (k ≤ 65534 →
        -9223372036854775808 < a * (k : Int) ^ 2 ∧
          a * (k : Int) ^ 2 + 65536 < 9223372036854775808)

/-- SET_POSITION, in the order of its checks (R94, R95, R158, R168): every axis takes the value given, pulses not yet
issued are dropped, and from UNSET the drives are enabled toward IDLE, or toward PARKING where park is owed; a filtered
fault input asserted then stops the mount within the request. -/
def Obligations.SetPositionPlacesAxes : Prop :=
  ∀ (p : Axes (BitVec 32)) (s : State), s.ready .schedule →
    let refused (st : Status) :=
      exec (.setPosition p) s = .next (s.answered .schedule 0x93 st .none)
    let inside :=
      ∀ ax : Axis, s.latest (.lower ax) ≤ (p.get ax).toInt ∧ (p.get ax).toInt ≤ s.latest (.upper ax)
    let place (v : BitVec 32) : AxisState :=
      ⟨v.toInt * 65536, 0, 0, 0, 0, v.toInt, v.toInt, 0⟩
    let placed : State :=
      { s with
        axes := p.map place
        steps := s.steps.map fun o => { o with schedule := none, waiting := [] } }
    let accepted (t : State) := exec (.setPosition p) s = .next (t.answered .schedule 0x93 .ok .none)
    (s.engine = .stopped → refused .stopped) ∧
    (s.engine.isStill = false → refused .inMotion) ∧
    (s.engine = .unset ∨ s.engine = .idle ∨ s.engine = .parked → ¬ inside → refused .badValue) ∧
    (s.engine = .idle ∨ s.engine = .parked → inside → accepted placed) ∧
    (s.engine = .unset → s.enable = false → inside → s.faultAsserted = false →
      s.enclosure.parkOwed = false →
      accepted { placed with engine := .idle, enable := true }) ∧
    (s.engine = .unset → s.enable = false → inside → s.faultAsserted = false →
      s.enclosure.parkOwed = true →
      accepted
        { placed with
          engine := .parking, enable := true, waitReason := none
          night := { s.night with flag := false }
          guide := { s.guide with offset := ⟨0, 0⟩ }
          enclosure := { s.enclosure with parkOwed := false } }) ∧
    (s.engine = .unset → s.enable = false → inside → s.faultAsserted = true →
      ∃ t, accepted t ∧ t.engine = .stopped ∧ t.enable = false ∧ t.axes = placed.axes ∧
        t.faults.first.isSome = true ∧ t.time = s.time ∧ t.inputs = s.inputs)

/-- SET_CONFIG and GET_CONFIG, in the order of their checks (R190): an accepted value becomes the pending value and
nothing in force changes. The item codes and the classes are those of the table of R190, written out; which values are
allowed is the next statement. -/
def Obligations.ConfigRequests : Prop :=
  let motion : List (Byte × Item) :=
    [(0x01, .lower .az), (0x02, .upper .az), (0x03, .lower .el), (0x04, .upper .el),
      (0x05, .lower .rot), (0x06, .upper .rot), (0x07, .stepMax .az), (0x08, .stepMax .el),
      (0x09, .stepMax .rot), (0x0A, .vmax .az), (0x0B, .vmax .el), (0x0C, .vmax .rot),
      (0x0D, .acc .az), (0x0E, .acc .el), (0x0F, .acc .rot), (0x11, .capturePos),
      (0x12, .captureRate), (0x13, .park .az), (0x14, .park .el), (0x15, .park .rot)]
  let timing : List (Byte × Item) :=
    [(0x20, .poolLow), (0x21, .cstep), (0x22, .lagTol), (0x23, .slewTimeout), (0x24, .settleTime),
      (0x25, .guideStepMax), (0x26, .guideRange), (0x27, .guideTimeout), (0x28, .encTimeout),
      (0x29, .encTol), (0x2A, .followEnc)]
  ∀ (code : Byte) (value : BitVec 32) (s : State), s.ready .schedule →
    ((∀ i, (code, i) ∉ motion ∧ (code, i) ∉ timing) →
      exec (.setConfig code value) s = .next (s.answered .schedule 0x94 .badValue .none) ∧
        exec (.getConfig code) s = .next (s.answered .schedule 0x95 .badValue .none)) ∧
    ∀ i, (code, i) ∈ motion ∨ (code, i) ∈ timing →
      let moves := decide ((code, i) ∈ motion)
      itemOfCode code = some i ∧ i.isMotion = moves ∧
      (moves = true → s.engine.isStill = false →
        exec (.setConfig code value) s = .next (s.answered .schedule 0x94 .inMotion .none)) ∧
      ((moves = false ∨ s.engine.isStill = true) → s.valueAllowed i value.toInt = false →
        exec (.setConfig code value) s = .next (s.answered .schedule 0x94 .badValue .none)) ∧
      ((moves = false ∨ s.engine.isStill = true) → s.valueAllowed i value.toInt = true →
        ∃ t : State, exec (.setConfig code value) s =
            .next (t.answered .schedule 0x94 .ok (.configAccepted code value.toInt)) ∧
          { t with pendingItems := s.pendingItems } = s ∧
          t.pendingItems.get i = some value.toInt ∧
          ∀ j, j ≠ i → t.pendingItems.get j = s.pendingItems.get j) ∧
      exec (.getConfig code) s =
        .next (s.answered .schedule 0x95 .ok
          (.configItem moves (s.inForce.get i) (s.pendingItems.get i)))

/-- The checks of a configuration value (R57, R82, R86, R89, R90, R113, R122, R138, R143, R190): the range of every item is
written out, and a value is allowed exactly when the items, each at its pending value where one is held, stay lawful
together with it, and a limit does not exclude E outside UNSET. -/
def Obligations.ConfigValueChecks : Prop :=
  (∀ ax : Axis, (Item.stepMax ax).range = (1, 250) ∧ (Item.vmax ax).range = (1, 250) ∧
    (Item.acc ax).range = (1, 65535) ∧ (Item.park ax).range = (-2147483648, 2147483647) ∧
    (Item.lower ax).range = (Item.upper ax).range) ∧
  (Item.lower .az).range = (-25165824, 25165824) ∧ (Item.lower .el).range = (0, 4194304) ∧
  (Item.lower .rot).range = (-16777216, 16777216) ∧ Item.capturePos.range = (1, 4096) ∧
  Item.captureRate.range = (1, 65535) ∧ Item.poolLow.range = (0, 511) ∧
  Item.cstep.range = (1, 64) ∧ Item.lagTol.range = (1, 65535) ∧
  Item.slewTimeout.range = (1000, 1800000) ∧ Item.settleTime.range = (1, 60000) ∧
  Item.guideStepMax.range = (1, 4096) ∧ Item.guideRange.range = (1, 65535) ∧
  Item.guideTimeout.range = (500, 600000) ∧ Item.encTimeout.range = (500, 600000) ∧
  Item.encTol.range = (1, 4194304) ∧ Item.followEnc.range = (0, 1) ∧
  ∀ (s : State) (i : Item) (v : Int), itemsLawful s.latest →
    let new : Item → Int := fun j => if j = i then v else s.latest j
    (v < i.range.1 ∨ i.range.2 < v → s.valueAllowed i v = false) ∧
    (∀ ax : Axis, (i = .park ax →
        (s.valueAllowed i v = true ↔ s.latest (.lower ax) ≤ v ∧ v ≤ s.latest (.upper ax))) ∧
      (i = .vmax ax →
        (s.valueAllowed i v = true ↔ 1 ≤ v ∧ v ≤ 250 ∧ v ≤ s.latest (.stepMax ax))) ∧
      (i = .stepMax ax →
        (s.valueAllowed i v = true ↔ 1 ≤ v ∧ v ≤ 250 ∧ s.latest (.vmax ax) ≤ v))) ∧
    (s.valueAllowed i v = true ↔
      itemsLawful new ∧
        ∀ ax : Axis, (i = .lower ax ∨ i = .upper ax) → s.engine ≠ .unset →
          new (.lower ax) ≤ (s.axes.get ax).emitted ∧ (s.axes.get ax).emitted ≤ new (.upper ax))

/-- SOFT_RESET (R194 and the reset tables): refused in STOPPED and in motion; else the list, the pool, the offsets, the guide
unit, the running event-line timers, the fault record and the notices go to their reset values, and everything else
stays. What the tables do not name is read as kept, which is the model's reading (log entry 25); the mark fresh of an event
line is the model's own (log entry 5). -/
def Obligations.SoftResetKeepsTheRest : Prop :=
  ∀ s : State, s.ready .schedule →
    (s.engine = .stopped →
      exec .softReset s = .next (s.answered .schedule 0x96 .stopped .none)) ∧
    (s.engine.isStill = false →
      exec .softReset s = .next (s.answered .schedule 0x96 .inMotion .none)) ∧
    (s.engine = .unset ∨ s.engine = .idle ∨ s.engine = .parked →
      let cleared : State :=
        { s with
          night := ⟨[], false⟩
          free := 512
          waitReason := none
          axes := s.axes.map fun a => { a with vel := 0, wanted := 0, applied := 0, host := 0 }
          guide := ⟨.off, none, ⟨0, 0⟩⟩
          lines := s.lines.map fun l =>
            { l with phase := .quiet, timer := none, output := false, fresh := false }
          faults := ⟨none, none, 0⟩
          notices :=
            ⟨s.notices.boxes.map fun b => { b with latched := 0, attn := false }, none, none⟩ }
      exec .softReset s = .next (cleared.answered .schedule 0x96 .ok .none))

/-- The law of the step and the law of the applied offset (R81, R87) at one demand event: E changes by at most the STEP_MAX
in force at it and not at all in PARKED, UNSET and STOPPED, and O changes by at most its CSTEP or becomes 0. Where the event
does not stop the mount, E moves by D − E clamped to ±STEP_MAX, the lag is what remains, and the change of E is handed to the
step output at the moment of the event (R72, R87, R156); a fault at the event then drops what is not yet issued (R155,
R158). These are the model's choice: a pulse that rises at the very microsecond of the event has risen, and counts as issued,
before the event drops or hands over anything (log entry 29); a pulse that has risen stands and falls one microsecond after
its rise (log entry 25); more than one count may wait (log entry 12). -/
def Obligations.DemandEventBoundsStepAndBlend : Prop :=
  ∀ (levels : Inputs Bool) (order : List Turn) (s t : State), s.ConfigLaw →
    exec (.demandEvent levels order) s = .next t → ∀ ax : Axis,
      let a := s.axes.get ax
      let b := t.axes.get ax
      let m := t.inForce.stepMax.get ax
      magnitude (b.emitted - a.emitted) ≤ m ∧
      (s.engine = .unset ∨ s.engine = .parked ∨ s.engine = .stopped → b.emitted = a.emitted) ∧
      (b.applied = 0 ∨ magnitude (b.applied - a.applied) ≤ t.inForce.cstep) ∧
      ∀ n, s.resetLow = false → s.time.untilEvent = some n →
        let handed := ((s.steps.get ax).pass n).hand (b.emitted - a.emitted)
        (s.engine ≠ .unset → t.engine ≠ .stopped → b.lag = b.demand - b.emitted) ∧
        (s.engine ≠ .unset → s.engine ≠ .parked → t.engine ≠ .stopped →
          b.emitted = a.emitted + max (-m) (min m (b.demand - a.emitted))) ∧
        (t.engine ≠ .stopped ∨ s.engine = .stopped → t.steps.get ax = handed) ∧
        (t.engine = .stopped → s.engine ≠ .stopped →
          t.steps.get ax = { handed with schedule := none, waiting := [] })

/-- The blend of one axis (R81): within CSTEP of the wanted offset it takes it, else it moves by CSTEP toward it, and with W
still it stands at W after any number n of events with |W − O| ≤ n·CSTEP. -/
def Obligations.BlendReachesWanted : Prop :=
  ∀ cstep w o : Int, 1 ≤ cstep →
    (cstep < w - o → blend cstep w o = o + cstep) ∧
    (w - o < -cstep → blend cstep w o = o - cstep) ∧
    (-cstep ≤ w - o → w - o ≤ cstep → blend cstep w o = w) ∧
    ∀ n : Nat, magnitude (w - o) ≤ n * cstep → (blend cstep w)^[n] o = w

/-- OFFSET_SET (R80, R193). -/
def Obligations.OffsetSetReplacesHost : Prop :=
  ∀ (d : Axes (BitVec 32)) (s : State), s.ready .schedule →
    let allowed := ∀ ax : Axis, -262144 ≤ (d.get ax).toInt ∧ (d.get ax).toInt ≤ 262144
    let given : Axes Int := ⟨d.az.toInt, d.el.toInt, d.rot.toInt⟩
    let refused (st : Status) := exec (.offsetSet d) s = .next (s.answered .schedule 0xC4 st .none)
    (s.engine.followsTarget = false → refused .notTracking) ∧
    (s.engine.followsTarget = true → ¬ allowed → refused .badValue) ∧
    (s.engine.followsTarget = true → allowed →
      exec (.offsetSet d) s =
        .next ({ s with
          axes :=
            ⟨{ s.axes.az with host := given.az }, { s.axes.el with host := given.el },
              { s.axes.rot with host := given.rot }⟩ }.answered
          .schedule 0xC4 .ok (.offsets given)))

/-! ### Target cycle (06_slews_capture_and_the_target_cycle.md) -/

/-- NIGHT_START, in the order of its checks (R39, R100, R158, R168): the engine enters WAITING with the night flag set and
the drives on; from PARKED a filtered fault input that is asserted then stops the mount within the request. -/
def Obligations.NightStartChecked : Prop :=
  ∀ s : State, s.ready .schedule →
    let refused (st : Status) := exec .nightStart s = .next (s.answered .schedule 0xC0 st .none)
    let accepted (t : State) := exec .nightStart s = .next (t.answered .schedule 0xC0 .ok .none)
    let started : State :=
      State.raise .night
        { s with
          night := { s.night with flag := true }, waitReason := none, engine := .waiting
          enable := true }
    (s.engine = .unset → refused .unset) ∧ (s.engine = .stopped → refused .stopped) ∧
    (s.engine ≠ .unset → s.engine ≠ .stopped → s.engine ≠ .idle → s.engine ≠ .parked →
      refused .wrongState) ∧
    (s.engine = .idle ∨ s.engine = .parked → s.enclosure.shelter = true → refused .sheltered) ∧
    (s.engine = .idle ∨ s.engine = .parked → s.enclosure.shelter = false →
      s.time.timeValid = false → refused .noTime) ∧
    (s.engine = .idle → s.enable = true → s.enclosure.shelter = false → s.time.timeValid = true →
      accepted started) ∧
    (s.engine = .parked → s.enable = false → s.enclosure.shelter = false →
      s.time.timeValid = true → s.faultAsserted = false → accepted started) ∧
    (s.engine = .parked → s.enable = false → s.enclosure.shelter = false →
      s.time.timeValid = true → s.faultAsserted = true →
      ∃ t, accepted t ∧ t.engine = .stopped ∧ t.enable = false ∧ t.night.flag = false ∧
        t.faults.first.isSome = true ∧ t.time = s.time)

/-- NIGHT_STOP (R28, R39, R91, R101, R135): an ACTIVE entry ends as STOPPED, the engine enters STOPPING toward IDLE, the wait
reason becomes absent and the night flag stays. -/
def Obligations.NightStopStops : Prop :=
  ∀ s : State, s.ready .schedule →
    (s.engine = .waiting ∨ s.engine = .stopping .waiting →
      exec .nightStop s =
        .next ({ s with waitReason := none, engine := .stopping .idle, enable := true }.answered
          .schedule 0xC1 .ok .none)) ∧
    (s.engine.isTarget = false → s.engine ≠ .waiting → s.engine ≠ .stopping .waiting →
      exec .nightStop s = .next (s.answered .schedule 0xC1 .wrongState .none)) ∧
    ∀ e, s.engine.isTarget = true → s.activeEntry = some e →
      ∃ t : State, exec .nightStop s = .next (t.answered .schedule 0xC1 .ok .none) ∧
        s.EndLeaves .stopped e t ∧ s.EndKeeps t ∧ t.engine = .stopping .idle ∧ t.enable = true ∧
        t.waitReason = none ∧ t.guide.offset = ⟨0, 0⟩ ∧ t.night.flag = s.night.flag

/-- TARGET_ABORT (R28, R91, R102, R135): accepted only for the ACTIVE entry's id, which ends as ABORTED; the engine enters
STOPPING toward WAITING with no wait reason, and the night flag stays. -/
def Obligations.TargetAbortEndsActive : Prop :=
  ∀ (id : BitVec 16) (s : State), s.ready .schedule →
    (s.engine.isTarget = false ∨ s.activeId ≠ some id.toNat →
      exec (.targetAbort id) s = .next (s.answered .schedule 0xC2 .wrongState .none)) ∧
    ∀ e, s.engine.isTarget = true → s.activeEntry = some e → e.record.id = id.toNat →
      ∃ t : State, exec (.targetAbort id) s = .next (t.answered .schedule 0xC2 .ok .none) ∧
        s.EndLeaves .aborted e t ∧ s.EndKeeps t ∧ t.engine = .stopping .waiting ∧
        t.enable = true ∧ t.waitReason = none ∧ t.guide.offset = ⟨0, 0⟩ ∧
        t.night.flag = s.night.flag

/-- PARK (R28, R39, R91, R93, R103): the engine enters PARKING with every axis folded, G at 0, no wait reason and the night
flag clear; an ACTIVE entry ends as PARKED. -/
def Obligations.ParkFoldsAndParks : Prop :=
  ∀ s : State, s.ready .schedule →
    let fold (a : AxisState) : AxisState :=
      { a with base := a.demand * 65536, applied := 0, host := 0, wanted := 0 }
    let parked : State :=
      { s with
        engine := .parking, enable := true, waitReason := none
        night := { s.night with flag := false }
        guide := { s.guide with offset := ⟨0, 0⟩ }
        axes := ⟨fold s.axes.az, fold s.axes.el, fold s.axes.rot⟩ }
    (s.engine = .unset → exec .park s = .next (s.answered .schedule 0xC3 .unset .none)) ∧
    (s.engine = .stopped → exec .park s = .next (s.answered .schedule 0xC3 .stopped .none)) ∧
    (s.engine = .parking ∨ s.engine = .parked →
      exec .park s = .next (s.answered .schedule 0xC3 .ok .none)) ∧
    (s.engine = .idle ∨ s.engine = .waiting ∨ (∃ d, s.engine = .stopping d) →
      exec .park s = .next (parked.answered .schedule 0xC3 .ok .none)) ∧
    ∀ e, s.engine.isTarget = true → s.activeEntry = some e →
      ∃ t : State, exec .park s = .next (t.answered .schedule 0xC3 .ok .none) ∧
        s.EndLeaves .parked e t ∧ s.EndKeeps t ∧ t.engine = .parking ∧ t.enable = true ∧
        t.waitReason = none ∧ t.guide.offset = ⟨0, 0⟩ ∧ t.night.flag = false

/-- What the scan of selection does (R27, R28, R48, R60, R98, R104 to R107): the PENDING entries before the one that decides end as
LATE where their window has passed, or as LIMIT where their start lies outside the elevation or the derotator limits or no
wrap candidate exists; the one that decides waits, or becomes ACTIVE with the wrap chosen, and the entries after it are not
examined. What leaves the chains returns to the pool, and TARGET_END, LIST_EMPTY and TARGET_START are noticed. That SLEWING holds the
start azimuth as its destination before its first demand event is the model's choice (log entry 14). A demand event in WAITING,
and one that ends a FIXED target by its dwell, its hold, its slew timeout or a limit, leaves the list, the pool, the engine
state, G, the wait reason, the most recent start and end and the notices of both that this scan gives after the event's steps.
At that end, with any correction at work, every axis stands folded at the demand of the event (R79, R84, R91), and TARGET_END
is noticed and given to the event lines once (R28, R85, R111, R115, R116). -/
def Obligations.SelectionScansFromHead : Prop :=
  (∀ (afterEnd : Bool) (s : State), (∀ e ∈ s.night.entries, e.isActive = false) →
    let t := s.select afterEnd
    let now := s.time.mountTime
    let held (e : Entry) : Entry := { e with chain := dropStale now e.chain }
    let opened (e : Entry) := ∀ l, e.record.latest = some l → now ≤ l
    let open' (e : Entry) := opened e ∧ ∀ b, e.record.earliest = some b → b ≤ now
    let wrapOf (e : Entry) (p : Axes Int × Int) : Option Int :=
      if s.within .el p.1.el ∧ s.within .rot p.1.rot then
        wrapChoice e.record.wrap s.inForce.lower.az s.inForce.upper.az p.1.az p.2 s.axes.az.emitted
      else none
    let waits (r : WaitReason) :=
      t.waitReason = some r ∧ t.guide.offset = ⟨0, 0⟩ ∧
        (t.engine = if afterEnd then .stopping .waiting else .waiting) ∧
        t.model = s.model ∧ t.lines = s.lines ∧ t.notices.recentStart = s.notices.recentStart
    (∀ e p, s.findWrap e p = wrapOf e p) ∧
    (∀ e p, e.record.kind = .fixed p → startPosition now e = some (p, p.az)) ∧
    (∀ e, e.record.kind = .track → covering now e.chain = none → startPosition now e = none) ∧
    (∀ e g last, e.record.kind = .track → covering now e.chain = some g →
      e.chain.getLast? = some last →
      startPosition now e =
        some ((segPositions g 0 (((now - segStart g) / 1000 : Nat) : Int)).map roundCounts,
          roundCounts (segPositions last 0 ((last.len.toNat : Int) - 1)).az)) ∧
    t.enable = true ∧ t.free + chainTotal t.night.entries = s.free + chainTotal s.night.entries ∧
    { t with
      night := s.night, free := s.free, engine := s.engine, enable := s.enable, guide := s.guide
      waitReason := s.waitReason, model := s.model, lines := s.lines, notices := s.notices } = s ∧
    { t.guide with offset := s.guide.offset } = s.guide ∧ t.night.flag = s.night.flag ∧
    ∃ before before' rest : List Entry, s.night.entries = before ++ rest ∧
      before'.length = before.length ∧
      let s1 := if before.any Entry.isPending then State.raise .targetEnd s else s
      (∀ (i : Nat) (e e' : Entry), before[i]? = some e → before'[i]? = some e' →
        (e.isPending = false → e' = e) ∧
        (e.isPending = true →
          e'.record = e.record ∧ e'.chain = [] ∧
            e'.results = { e.results with endedAt := some now } ∧
            (e'.status = .ended .late ∧ (∃ l, e.record.latest = some l ∧ l < now) ∨
              e'.status = .ended .limit ∧ open' e ∧
                ∃ p, startPosition now (held e) = some p ∧ wrapOf e p = none)) ∧
        ((∀ x ∈ before.drop (i + 1), x.isPending = false) → e.isPending = true →
          ∀ o, e'.status = .ended o → t.notices.recentEnd = some (e.record.id, o))) ∧
      ((∀ x ∈ before, x.isPending = false) → t.notices.recentEnd = s.notices.recentEnd) ∧
      (rest = [] ∧ t.night.entries = before' ∧ waits .nonePending ∧
          t.notices.boxes =
            (if s.waitReason = some .nonePending then s1
              else State.raise .listEmpty s1).notices.boxes ∨
        ∃ e tail, rest = e :: tail ∧ e.isPending = true ∧ opened e ∧
          (t.night.entries = before' ++ e :: tail ∧ waits .early ∧
              t.notices.boxes = s1.notices.boxes ∧
              (∃ b, e.record.earliest = some b ∧ now < b) ∨
            (∀ b, e.record.earliest = some b → b ≤ now) ∧
              (t.night.entries = before' ++ held e :: tail ∧
                  waits .noTrack ∧ t.notices.boxes = s1.notices.boxes ∧ e.record.kind = .track ∧
                  covering now (dropStale now e.chain) = none ∨
                ∃ p k, startPosition now (held e) = some p ∧ wrapOf e p = some k ∧
                  t.night.entries =
                    before' ++
                      { e with
                        chain := dropStale now e.chain, status := .active .slewing
                        results :=
                          { e.results with
                            selectedAt := some now, wrapOffset := some k
                            tally := some ⟨0, 0, 0, 0, 0, ⟨0, 0, 0⟩, 0⟩ } } :: tail ∧
                    t.engine = .slewing 0 (p.1.az + k * 16777216) ∧ t.waitReason = none ∧
                    t.model = { s.model with pageInUse := e.record.station } ∧
                    t.lines = (State.give .targetStart s).lines ∧
                    t.notices.boxes = (State.raise .targetStart s1).notices.boxes ∧
                    t.notices.recentStart = some e.record.id ∧
                    t.guide.offset =
                      if afterEnd && e.record.carryGuide then s.guide.offset else ⟨0, 0⟩)))) ∧
  ∀ (levels : Inputs Bool) (order : List Turn) (s : State), s.calm levels →
    let moved (t : State) : State :=
      { s with time := { s.time with mountTime := s.nextEventTime }, axes := t.axes }
    let leaves (t u : State) :=
      t.night = u.night ∧ t.free = u.free ∧ t.engine = u.engine ∧ t.waitReason = u.waitReason ∧
        t.model.pageInUse = u.model.pageInUse ∧ t.guide.offset = u.guide.offset ∧
        t.notices.recentStart = u.notices.recentStart ∧ t.notices.recentEnd = u.notices.recentEnd ∧
        (∀ (k : Notice) (l : Link), k = .targetStart ∨ k = .targetEnd ∨ k = .listEmpty →
          (t.notices.boxes.get l).latched &&& k.bit = (u.notices.boxes.get l).latched &&& k.bit) ∧
        ∀ id : LineId, (s.lines.get id).source = .targetStart → (s.lines.get id).mode = .toggle →
          (s.lines.get id).timer = none → (t.lines.get id).output = (u.lines.get id).output
    (s.engine = .waiting → (∀ e ∈ s.night.entries, e.isActive = false) →
      ∃ t, exec (.demandEvent levels order) s = .next t ∧ leaves t ((moved t).select false)) ∧
    ∀ (e : Entry) (p : Axes Int) (w : Int) (o : EndOutcome), s.ConfigLaw → s.GuideLaw →
      s.activeEntry = some e → e.record.kind = .fixed p → e.results.wrapOffset = some w →
      let hold := showsLevel levels .instHold = true
      let g := fixedPositions p w
      let m := s.followTo g (.const 0)
      let slews := ∃ n az, s.engine = .slewing n az
      let base (ax : Axis) : Int := if s.engine.followsTarget then g.get ax else (m.get ax).pos
      let vel (ax : Axis) : Int := if s.engine.followsTarget then 0 else (m.get ax).vel
      let cut (x : Int) := max (-s.inForce.guideRange) (min s.inForce.guideRange x)
      let offset : AzEl Int :=
        match s.guide.mailbox with
        | none => s.guide.offset
        | some box =>
          ⟨cut (s.guide.offset.az + box.correction.az), cut (s.guide.offset.el + box.correction.el)⟩
      let c := modelCorrection s.model.cells s.model.pageInUse (roundCounts (base .az))
        (roundCounts (base .el))
      let wanted : Axes Int :=
        ⟨c.az + offset.az + s.axes.az.host, c.el + offset.el + s.axes.el.host, s.axes.rot.host⟩
      let sum (ax : Axis) :=
        roundCounts (base ax) + blend s.inForce.cstep (wanted.get ax) (s.axes.get ax).applied
      let demand (ax : Axis) := max (s.inForce.lower.get ax) (min (s.inForce.upper.get ax) (sum ax))
      let inside := ∀ ax : Axis, s.within ax (roundCounts (g.get ax)) = true
      let clear := ∀ ax : Axis, s.within ax (sum ax) = true
      (∃ n, s.engine = .tracking n ∧ clear ∧ e.record.dwell ≤ n + 1 ∧
          ¬ (hold ∧ 0 < e.record.maxHold) ∧ o = .complete) ∨
        (∃ n, s.engine = .holding n ∧ clear ∧ ¬ hold ∧ o = .released) ∨
        (∃ n y, s.engine = .holding n ∧ clear ∧ hold ∧ e.results.tally = some y ∧
          e.record.maxHold ≤ y.holdUsed + 1 ∧ y.holdUsed < 4294967295 ∧ o = .holdExpired) ∨
        (∃ n az, s.engine = .slewing n az ∧ inside ∧ s.captureTest g (.const 0) m = false ∧
          s.inForce.slewTimeout ≤ (n + 1 : Nat) ∧ o = .slewTimeout) ∨
        (s.engine.followsTarget = true ∧ ¬ clear ∧ o = .limit) ∨ (slews ∧ ¬ inside ∧ o = .limit) →
      ∃ t x, exec (.demandEvent levels order) s = .next t ∧ x.record = e.record ∧
        x.status = .ended o ∧ x.chain = [] ∧
        x.results =
          { e.results with endedAt := some s.nextEventTime, tally := x.results.tally } ∧
        t.onTarget = false ∧ t.Noticed .targetEnd ∧ s.Flips .targetEnd t ∧
        (∀ ax : Axis,
          t.axes.get ax =
            ⟨demand ax * 65536, vel ax, 0, 0, 0, demand ax, (t.axes.get ax).emitted,
              (t.axes.get ax).lag⟩) ∧
        leaves t
          (State.select true
            { moved t with
              free := s.free + e.chain.length
              guide := { s.guide with offset := offset }
              notices :=
                { (State.raise .targetEnd s).notices with recentEnd := some (e.record.id, o) }
              night :=
                { s.night with
                  entries := updateFirst Entry.isActive (fun _ => x) s.night.entries } })

/-- The wrap choice (R107): among the candidates, or the full-fit ones where there are any, LOW takes the smallest, HIGH the
largest and AUTO the nearest to E, of two equally near the smaller; with no candidate it fails. -/
def Obligations.WrapChosenByPreference : Prop :=
  ∀ (pref : WrapPref) (lower upper now last e : Int),
    let candidate (k : Int) := lower ≤ now + k * 16777216 ∧ now + k * 16777216 ≤ upper
    let fullFit (k : Int) :=
      candidate k ∧ lower ≤ last + k * 16777216 ∧ last + k * 16777216 ≤ upper
    let pool (k : Int) := fullFit k ∨ candidate k ∧ ∀ j, ¬ fullFit j
    let distance (k : Int) := magnitude (now + k * 16777216 - e)
    (wrapChoice pref lower upper now last e = none ↔ ∀ k, ¬ candidate k) ∧
    ∀ k, wrapChoice pref lower upper now last e = some k →
      pool k ∧
      (pref = .low → ∀ j, pool j → k ≤ j) ∧ (pref = .high → ∀ j, pool j → j ≤ k) ∧
      (pref = .auto → ∀ j, pool j → distance k < distance j ∨ distance k = distance j ∧ k ≤ j)

/-- The follower step by its cases (R109, R110), with its speed and its position bounded; the deceleration of a stop (R118),
which keeps the velocity's sign, ends inside the limits and is at rest after any number n of events with |u| ≤ n·ACC; and what
the two do at a demand event: STOPPING decelerates and, at rest, arrives in WAITING or IDLE (R119), and PARKING follows
toward the park position and arrives in PARKED (R120, R121). -/
def Obligations.FollowerAndDeceleration : Prop :=
  (∀ (lower upper acc vmax g r : Int) (m : Motion), 1 ≤ acc → 1 ≤ vmax → lower ≤ upper →
    let e := g - m.pos
    let w := m.vel - r
    let d := w ^ 2 / (2 * acc)
    let brakes := w ≠ 0 ∧ w.sign = e.sign ∧ magnitude e ≤ d + magnitude w
    let bounded (t : Motion) (u : Int) :=
      (m.pos + u < lower * 65536 → t = ⟨lower * 65536, 0⟩) ∧
        (upper * 65536 < m.pos + u → t = ⟨upper * 65536, 0⟩) ∧
        (lower * 65536 ≤ m.pos + u → m.pos + u ≤ upper * 65536 → t = ⟨m.pos + u, u⟩)
    let t := followStep lower upper acc vmax g r m
    let outcome (w' : Int) := bounded t (max (-(vmax * 65536)) (min (vmax * 65536) (r + w')))
    let stop := decelerate lower upper acc
    (brakes → outcome (w - w.sign * min acc (magnitude w))) ∧
    (¬ brakes → e ≠ 0 → outcome (w + e.sign * acc)) ∧
    (e = 0 → outcome (w - w.sign * min acc (magnitude w))) ∧
    (magnitude t.vel ≤ vmax * 65536 ∧ lower * 65536 ≤ t.pos ∧ t.pos ≤ upper * 65536) ∧
    (∀ n : Nat, magnitude m.vel ≤ n * acc → (brake acc)^[n] m.vel = 0) ∧
    (0 ≤ m.vel → 0 ≤ brake acc m.vel ∧ brake acc m.vel ≤ m.vel) ∧
    (m.vel ≤ 0 → m.vel ≤ brake acc m.vel ∧ brake acc m.vel ≤ 0) ∧
    bounded (stop m) (m.vel - m.vel.sign * min acc (magnitude m.vel)) ∧
    (0 ≤ m.vel → 0 ≤ (stop m).vel ∧ (stop m).vel ≤ m.vel) ∧
    (m.vel ≤ 0 → m.vel ≤ (stop m).vel ∧ (stop m).vel ≤ 0) ∧
    (∀ n : Nat, magnitude m.vel ≤ n * acc → (stop^[n] m).vel = 0) ∧
    ∀ n : Nat, 1 ≤ n → lower * 65536 ≤ (stop^[n] m).pos ∧ (stop^[n] m).pos ≤ upper * 65536) ∧
  ∀ (levels : Inputs Bool) (order : List Turn) (s : State), s.calm levels → s.enable = true →
    (∀ e ∈ s.night.entries, e.isActive = false) →
    let noticed (t : State) := ∀ l : Link, (t.notices.boxes.get l).latched.getLsbD 9 = true
    let moves (t : State) (m : Axes Motion) :=
      ∀ ax : Axis, (t.axes.get ax).base = (m.get ax).pos ∧ (t.axes.get ax).vel = (m.get ax).vel
    (∀ dest, s.engine = .stopping dest →
      let m : Axes Motion := Axes.of fun ax =>
        decelerate (s.inForce.lower.get ax) (s.inForce.upper.get ax) (s.inForce.acc.get ax)
          ⟨(s.axes.get ax).base, (s.axes.get ax).vel⟩
      let rests := ∀ ax : Axis, (m.get ax).vel = 0
      ∃ t, exec (.demandEvent levels order) s = .next t ∧ moves t m ∧ t.enable = true ∧
        t.waitReason = s.waitReason ∧ t.night.entries = s.night.entries ∧
        (¬ rests → t.engine = .stopping dest ∧ t.night.flag = s.night.flag) ∧
        (rests → dest = .waiting → t.engine = .waiting ∧ t.night.flag = s.night.flag) ∧
        (rests → dest = .idle → t.engine = .idle ∧ t.night.flag = false ∧ noticed t)) ∧
    (s.engine = .parking →
      let m : Axes Motion := Axes.of fun ax =>
        followStep (s.inForce.lower.get ax) (s.inForce.upper.get ax) (s.inForce.acc.get ax)
          (s.inForce.vmax.get ax) (s.inForce.park.get ax * 65536) 0
          ⟨(s.axes.get ax).base, (s.axes.get ax).vel⟩
      let arrives := ∀ ax : Axis,
        magnitude (s.inForce.park.get ax * 65536 - (m.get ax).pos) ≤ s.inForce.capturePos * 65536 ∧
          magnitude (m.get ax).vel ≤ s.inForce.captureRate
      ∃ t, exec (.demandEvent levels order) s = .next t ∧ t.night = s.night ∧
        (¬ arrives → t.engine = .parking ∧ t.enable = true ∧ moves t m) ∧
        (arrives →
          t.engine = .parked ∧ t.enable = false ∧ noticed t ∧
            (∀ ax : Axis, (t.axes.get ax).base = s.inForce.park.get ax * 65536 ∧
              (t.axes.get ax).vel = 0) ∧
            ∀ id : LineId, (s.lines.get id).source = .parked → (s.lines.get id).mode = .toggle →
              (s.lines.get id).timer = none →
              (t.lines.get id).output = !(s.lines.get id).output))

/-! ### Guiding (07_guiding.md) -/

/-- GUIDE_CORRECT and GUIDE_ZERO, in the order of their checks (R127 to R129, R136): a correction clamped to ±GUIDE_STEP_MAX
fills or joins the mailbox, the status says whether it was merged and whether a clamp acted, and the state is GUIDING with
the timer at 0; a zero empties the mailbox into the entry's discards and sets G to 0. -/
def Obligations.GuideCorrectAndZero : Prop :=
  ∀ (d : AzEl (BitVec 16)) (s : State), s.ready .guide → 0 ≤ s.inForce.guideStepMax →
    let fields (g : Guide) : ReplyFields :=
      .correction g.mailbox ((g.mailbox.map Mailbox.merges).getD 0) g.state
    let cut (x : Int) := max (-s.inForce.guideStepMax) (min s.inForce.guideStepMax x)
    let c : AzEl Int := ⟨cut d.az.toInt, cut d.el.toInt⟩
    let whole := c = ⟨d.az.toInt, d.el.toInt⟩
    let accepted (m : Mailbox) (st : Status) :=
      let g : Guide := ⟨.guiding 0, some m, s.guide.offset⟩
      exec (.guideCorrect d) s = .next ({ s with guide := g }.answered .guide 0xE0 st (fields g))
    let refused (st : Status) :=
      exec (.guideCorrect d) s = .next (s.answered .guide 0xE0 st (fields s.guide)) ∧
        exec .guideZero s = .next (s.answered .guide 0xE2 st .none)
    (s.engine.followsTarget = false → refused .notTracking) ∧
    ∀ e, s.engine.followsTarget = true → s.activeEntry = some e →
      (e.record.guided = false → refused .notGuided) ∧
      (e.record.guided = true → s.guide.mailbox = none →
        (whole → accepted ⟨c, 0⟩ .ok) ∧ (¬ whole → accepted ⟨c, 0⟩ .clamped)) ∧
      (∀ m, e.record.guided = true → s.guide.mailbox = some m →
        let sum : AzEl Int := ⟨m.correction.az + c.az, m.correction.el + c.el⟩
        let kept : Mailbox := ⟨⟨cut sum.az, cut sum.el⟩, min 65535 (m.merges + 1)⟩
        (whole ∧ kept.correction = sum → accepted kept .merged) ∧
        (¬ (whole ∧ kept.correction = sum) → accepted kept .mergedClamped)) ∧
      (e.record.guided = true →
        let held : Nat := (s.guide.mailbox.map fun m => 1 + m.merges).getD 0
        let discards (y : Tally) : Tally :=
          { y with guideDiscarded := min 4294967295 (y.guideDiscarded + held) }
        let counted (x : Entry) : Entry :=
          { x with results := { x.results with tally := x.results.tally.map discards } }
        exec .guideZero s =
          .next ({ s with
            night :=
              { s.night with entries := updateFirst Entry.isActive counted s.night.entries }
            guide := ⟨s.guide.state, none, ⟨0, 0⟩⟩ }.answered
            .guide 0xE2 .ok (.emptied held s.guide.state)))

/-! ### Enclosure and shelter (08_enclosure_instrument_and_shelter.md) -/

/-- ENC_REPORT (R140, R149 to R152): the report replaces the last one with age 0, and an edge of the shelter condition raises
the SHELTER notice and acts by the engine state; in a target state the ACTIVE entry ends as SHELTER, with TARGET_END noticed
and given to the event lines after that notice, and everything the end does not name stays. The same rise made by the
SHELTER filter at a demand event (R123, R150, R155): taken before the computation, it acts on the state before the event, an
ACTIVE entry ending as SHELTER with one fold, and the event takes the first follower step of the park from the folded base;
taken after it, the rise acts on the state that the computation left. That TARGET_END is given for that end too where the
computation has ended another entry is the model's choice (log entry 30). -/
def Obligations.EncReportFormsShelter : Prop :=
  (∀ (slit : BitVec 32) (flag : Byte) (s : State), s.ready .enclosure →
    (16777215 < slit.toNat ∨ 1 < flag.toNat →
      exec (.encReport slit flag) s = .next (s.answered .enclosure 0xF0 .badValue .none)) ∧
    (slit.toNat ≤ 16777215 → flag.toNat ≤ 1 →
      let active := s.inputs.shelter.level || decide (flag.toNat = 1)
      let reported : State :=
        { s with
          enclosure :=
            { s.enclosure with
              report := some ⟨slit.toNat, decide (flag.toNat = 1), 0⟩, shelter := active } }
      let accepted (t : State) :=
        exec (.encReport slit flag) s =
          .next (t.answered .enclosure 0xF0 .ok
            (.encAccepted t.engine.state t.enclosure.shelter t.enclosure.parkOwed))
      let rises := s.enclosure.shelter = false ∧ active = true
      let owes (b : Bool) (t : State) : State :=
        { t with enclosure := { t.enclosure with parkOwed := b } }
      let fold (a : AxisState) : AxisState :=
        { a with base := a.demand * 65536, applied := 0, host := 0, wanted := 0 }
      (s.enclosure.shelter = active → accepted reported) ∧
      (s.enclosure.shelter = true → active = false →
        accepted (State.raise .shelter (owes false reported))) ∧
      (rises → s.engine = .parking ∨ s.engine = .parked →
        accepted (State.raise .shelter reported)) ∧
      (rises → s.engine = .unset ∨ s.engine = .stopped →
        accepted (State.raise .shelter (owes true reported))) ∧
      (rises → s.engine = .idle ∨ s.engine = .waiting ∨ (∃ d, s.engine = .stopping d) →
        accepted (State.raise .shelter
          { reported with
            engine := .parking, enable := true, waitReason := none
            night := { s.night with flag := false }
            guide := { s.guide with offset := ⟨0, 0⟩ }
            axes := ⟨fold s.axes.az, fold s.axes.el, fold s.axes.rot⟩ })) ∧
      ∀ e, rises → s.engine.isTarget = true → s.activeEntry = some e →
        ∃ t : State, accepted t ∧ s.EndLeaves .shelter e t ∧
          (State.raise .shelter reported).EndKeeps t ∧ t.enclosure = reported.enclosure ∧
          t.engine = .parking ∧ t.enable = true ∧ t.waitReason = none ∧
          t.guide.offset = ⟨0, 0⟩ ∧ t.night.flag = false ∧ t.time = s.time ∧ t.steps = s.steps)) ∧
  ∀ (levels : Inputs Bool) (rest : List Turn) (s : State) (n : Nat), s.resetLow = false →
    s.time.untilEvent = some n → s.enclosure.shelter = false →
    (s.inputs.get .shelter).level = false → (s.inputs.get .shelter).previous = true →
    (∀ i : Input, showsLevel levels i = if i = .shelter then true else (s.inputs.get i).level) →
    let here : State := { s with time := { s.time with mountTime := s.nextEventTime } }
    let computed := ((s.elapse n).openEvent levels).engineTurn
    let rests (u : State) := u.engine = .idle ∨ u.engine = .waiting ∨ ∃ d, u.engine = .stopping d
    let risen (t : State) (b : Bool) :=
      t.enclosure.shelter = true ∧ t.enclosure.parkOwed = b ∧ t.Noticed .shelter
    let cleared (t : State) :=
      t.waitReason = none ∧ t.guide.offset = ⟨0, 0⟩ ∧ t.night.flag = false
    let fold (a : AxisState) : AxisState :=
      { a with base := a.demand * 65536, applied := 0, host := 0, wanted := 0 }
    (s.ConfigLaw → s.CycleLaw → s.EnableLaw →
      ∃ t, exec (.demandEvent levels (.filter .shelter :: rest)) s = .next t ∧
        (s.engine = .unset ∨ s.engine = .stopped →
          risen t true ∧ t.engine = s.engine ∧ t.axes = s.axes ∧ t.night = s.night) ∧
        (s.engine = .parked →
          risen t s.enclosure.parkOwed ∧ t.engine = .parked ∧ t.night = s.night ∧
            ∀ ax, (t.axes.get ax).base = (s.axes.get ax).base) ∧
        (s.engine ≠ .unset → s.engine ≠ .stopped → s.engine ≠ .parked →
          let start (ax : Axis) : Motion :=
            ⟨if s.engine = .parking then (s.axes.get ax).base else (s.axes.get ax).demand * 65536,
              (s.axes.get ax).vel⟩
          let m : Axes Motion := Axes.of fun ax =>
            followStep (t.inForce.lower.get ax) (t.inForce.upper.get ax) (t.inForce.acc.get ax)
              (t.inForce.vmax.get ax) (t.inForce.park.get ax * 65536) 0 (start ax)
          let arrives := ∀ ax : Axis,
            magnitude (t.inForce.park.get ax * 65536 - (m.get ax).pos) ≤
                t.inForce.capturePos * 65536 ∧
              magnitude (m.get ax).vel ≤ t.inForce.captureRate
          risen t s.enclosure.parkOwed ∧
          (¬ arrives → t.engine = .parking ∧ t.enable = true ∧
            ∀ ax : Axis, (t.axes.get ax).base = (m.get ax).pos ∧ (t.axes.get ax).vel = (m.get ax).vel) ∧
          (arrives → t.engine = .parked ∧ t.enable = false ∧ t.Noticed .night ∧ s.Flips .parked t ∧
            ∀ ax : Axis, (t.axes.get ax).base = t.inForce.park.get ax * 65536 ∧
              (t.axes.get ax).vel = 0) ∧
          (s.engine = .parking → t.night = s.night) ∧
          (s.engine ≠ .parking → cleared t ∧
            ∀ ax : Axis, (t.axes.get ax).demand = roundCounts (m.get ax).pos ∧
              (t.axes.get ax).applied = 0 ∧ (t.axes.get ax).host = 0 ∧ (t.axes.get ax).wanted = 0) ∧
          (rests s → t.night.entries = s.night.entries ∧
            t.notices.recentEnd = s.notices.recentEnd) ∧
          ∀ e, s.engine.isTarget = true → s.activeEntry = some e →
            here.EndWrites .shelter e t ∧ t.Noticed .targetEnd ∧ s.Flips .targetEnd t)) ∧
    ∃ t, exec (.demandEvent levels (.engine :: .filter .shelter :: rest)) s = .next t ∧
      (∀ ax : Axis, t.steps.get ax = computed.steps.get ax ∧
        (t.axes.get ax).emitted = (computed.axes.get ax).emitted) ∧
      (computed.engine = .unset ∨ computed.engine = .stopped →
        risen t true ∧ t.engine = computed.engine ∧ t.axes = computed.axes ∧
          t.night = computed.night) ∧
      (computed.engine = .parking ∨ computed.engine = .parked →
        risen t s.enclosure.parkOwed ∧ t.engine = computed.engine ∧ t.axes = computed.axes ∧
          t.night = computed.night) ∧
      (rests computed ∨ computed.engine.isTarget = true →
        risen t s.enclosure.parkOwed ∧ t.engine = .parking ∧ t.enable = true ∧ cleared t) ∧
      (rests computed → t.night.entries = computed.night.entries ∧
        ∀ ax, t.axes.get ax = fold (computed.axes.get ax)) ∧
      ∀ e, computed.engine.isTarget = true → computed.activeEntry = some e →
        computed.EndLeaves .shelter e t ∧ t.Noticed .targetEnd ∧ computed.Flips .targetEnd t

/-- The report age at a demand event and the judgement it gives (R141, R142), whatever else the event does: with no report, or
past ENC_TIMEOUT, the alignment is UNKNOWN; else it is ALIGNED where the slit lies within ENC_TOL of the AZ demand that the
event leaves, by the circular distance, and MISALIGNED where it does not. Where the age passes ENC_TIMEOUT, ENC_REPORT_EXPIRY
takes the event (log entry 4). And the ON_TARGET evaluation of a FIXED target with no correction at work, at an event that does
not end it (R31, R32, R145, R147): asserted exactly when the event is computed in TRACKING or HOLDING, every lag is within
LAG_TOL, the alignment allows it and the guide state does; a change is noticed and given to the event lines; the largest lag
of the entry takes the event's lags. -/
def Obligations.ReportAgeExpires : Prop :=
  (∀ (levels : Inputs Bool) (order : List Turn) (s : State), s.counting →
    s.enclosure.report = none →
    ∃ t, exec (.demandEvent levels order) s = .next t ∧ t.enclosure.report = none ∧
      t.enclosure.alignment = .unknown) ∧
  (∀ (levels : Inputs Bool) (order : List Turn) (s : State) (r : EncReport), s.counting →
    s.enclosure.report = some r →
    let age := min 600001 (r.age + 1)
    (∃ t, exec (.demandEvent levels order) s = .next t ∧
      t.enclosure.report = some ⟨r.slit, r.flag, age⟩ ∧
      let apart (x y : Int) := (x - y) % 16777216
      let near :=
        min (apart r.slit t.axes.az.demand) (apart t.axes.az.demand r.slit) ≤ s.latest .encTol
      (s.latest .encTimeout < age → t.enclosure.alignment = .unknown) ∧
      (age ≤ s.latest .encTimeout → near → t.enclosure.alignment = .aligned) ∧
      (age ≤ s.latest .encTimeout → ¬ near → t.enclosure.alignment = .misaligned)) ∧
    (s.latest .encTimeout < age → s.enclosure.alignment ≠ .unknown →
      ∃ t, exec (.encReportExpiry levels order) s = .next t ∧
        exec (.demandEvent levels order) s = .next t ∧ t.enclosure.alignment = .unknown ∧
        t.enclosure.report = some ⟨r.slit, r.flag, age⟩) ∧
    ∀ (timeout tol : Int) (slit a demand : Int),
      0 ≤ slit → slit < 16777216 → 0 ≤ a → a ≤ timeout →
        let apart (x y : Int) := (x - y) % 16777216
        let near := min (apart slit demand) (apart demand slit) ≤ tol
        (near → judge timeout tol ⟨slit.toNat, r.flag, a.toNat⟩ demand = .aligned) ∧
          (¬ near → judge timeout tol ⟨slit.toNat, r.flag, a.toNat⟩ demand = .misaligned)) ∧
  ∀ (levels : Inputs Bool) (order : List Turn) (s : State) (e : Entry) (p : Axes Int) (w : Int)
    (y : Tally) (n : Nat), s.calm levels → s.onFixed e p w → e.results.tally = some y →
    let hold := showsLevel levels .instHold = true
    let tracks := s.engine = .tracking n ∧ n + 1 < e.record.dwell
    let holds := s.engine = .holding n ∧ hold ∧ y.holdUsed + 1 < e.record.maxHold
    let settles := s.engine = .settling n ∧ (n + 1 : Nat) < s.inForce.settleTime
    tracks ∨ holds ∨ settles →
    ∃ t, exec (.demandEvent levels order) s = .next t ∧
      (t.onTarget = true ↔
        (tracks ∨ holds) ∧ (∀ ax : Axis, magnitude (t.axes.get ax).lag ≤ s.inForce.lagTol) ∧
          (s.inForce.followEnc = 0 ∨ t.enclosure.alignment = .aligned) ∧
          (e.record.guideRequired = true → ∃ m, t.guide.state = .guiding m)) ∧
      (∀ ax : Axis,
        let d := roundCounts ((fixedPositions p w).get ax)
        let m := s.inForce.stepMax.get ax
        let moved := max (-m) (min m (d - (s.axes.get ax).emitted))
        (0 ≤ m →
          (t.axes.get ax).emitted = (s.axes.get ax).emitted + moved ∧
            (t.axes.get ax).lag = d - (t.axes.get ax).emitted)) ∧
      (∃ x z, t.activeEntry = some x ∧ x.record = e.record ∧ x.results.tally = some z ∧
        z.onTargetMs =
          (if t.onTarget then min 4294967295 (y.onTargetMs + 1) else y.onTargetMs) ∧
        ∀ ax : Axis, z.largestLag.get ax =
          max (y.largestLag.get ax) (min 4294967295 (t.axes.get ax).lag.natAbs)) ∧
      (t.onTarget ≠ s.onTarget →
        ∀ l : Link, (t.notices.boxes.get l).latched.getLsbD 2 = true) ∧
      ∀ id : LineId, (s.lines.get id).mode = .toggle → (s.lines.get id).timer = none →
        let flips :=
          (s.lines.get id).source = .onTargetRise ∧ s.onTarget = false ∧ t.onTarget = true ∨
            (s.lines.get id).source = .onTargetFall ∧ s.onTarget = true ∧ t.onTarget = false
        (flips → (t.lines.get id).output = !(s.lines.get id).output) ∧
          ((s.lines.get id).source = .onTargetRise ∨ (s.lines.get id).source = .onTargetFall →
            ¬ flips → (t.lines.get id).output = (s.lines.get id).output)

/-! ### Event lines, step outputs (09_drive_lines_and_event_outputs.md) -/

/-- EVENT_CONFIG, EVENT_SET and EVENT_GET (R160, R164, R165, R189). The codes of lines, sources and modes are those of the
table of R189, written out. -/
def Obligations.EventLineRequests : Prop :=
  let lines : List (Byte × LineId) := [(0, .ev0), (1, .ev1), (2, .ev2), (3, .ev3)]
  let sources : List (Byte × Source) :=
    [(0, .second), (1, .targetStart), (2, .capture), (3, .trackStart), (4, .onTargetRise),
      (5, .onTargetFall), (6, .dwellEnd), (7, .targetEnd), (8, .guideTake), (9, .parked),
      (10, .fault)]
  let modes : List (Byte × LineMode) :=
    [(0, .off), (1, .manual), (2, .pulse), (3, .delayed), (4, .toggle)]
  ∀ (line source mode polarity level : Byte) (delay width : BitVec 16) (s : State),
    s.ready .schedule →
    (4 ≤ line.toNat →
      exec (.eventConfig line source mode polarity delay width) s =
          .next (s.answered .schedule 0xD0 .badValue .none) ∧
        exec (.eventSet line level) s = .next (s.answered .schedule 0xD1 .badValue .none) ∧
        exec (.eventGet line) s = .next (s.answered .schedule 0xD2 .badValue .none)) ∧
    ∀ id, (line, id) ∈ lines →
      let l := s.lines.get id
      (11 ≤ source.toNat ∨ 5 ≤ mode.toNat ∨ 2 ≤ polarity.toNat ∨ delay.toNat = 0 ∨
          width.toNat = 0 →
        exec (.eventConfig line source mode polarity delay width) s =
          .next (s.answered .schedule 0xD0 .badValue .none)) ∧
      (∀ src m, (source, src) ∈ sources → (mode, m) ∈ modes →
        polarity.toNat ≤ 1 → delay.toNat ≠ 0 → width.toNat ≠ 0 →
        exec (.eventConfig line source mode polarity delay width) s =
          .next ({ s with
            lines :=
              s.lines.set id
                ⟨src, m, decide (polarity.toNat = 0), delay.toNat, width.toNat, .quiet, none,
                  false, 0, false⟩ }.answered
            .schedule 0xD0 .ok .none)) ∧
      (2 ≤ level.toNat →
        exec (.eventSet line level) s = .next (s.answered .schedule 0xD1 .badValue .none)) ∧
      (level.toNat ≤ 1 → l.mode ≠ .manual →
        exec (.eventSet line level) s = .next (s.answered .schedule 0xD1 .wrongState .none)) ∧
      (level.toNat ≤ 1 → l.mode = .manual →
        exec (.eventSet line level) s =
          .next ({ s with
            lines := s.lines.set id { l with output := decide (level.toNat = 1) } }.answered
            .schedule 0xD1 .ok .none)) ∧
      exec (.eventGet line) s =
        .next (s.answered .schedule 0xD2 .ok (.eventLine l (l.output == l.activeHigh)))

/-- An event of a source and a timer that runs out, at an event line (R160 to R163). Each mode acts on an event of its own
source, ignored ones counted, and on no other; an event that reaches a line at the moment of a demand event sets a timer which
that demand event does not count, in either order. A delay that runs out makes the line active for its width, in whatever
order the turns are taken; a width that runs out makes it quiet unless an event of its source starts it again at the same
demand event. The rows are those of log entries 3 and 4. -/
def Obligations.LineTimersExpire : Prop :=
  (∀ (src : Source) (s : State) (id : LineId),
    let l := s.lines.get id
    let l' := (State.give src s).lines.get id
    let now := s.time.eventDue
    (l.source ≠ src → l' = l) ∧
    (l.source = src →
      (l.mode = .off ∨ l.mode = .manual → l' = l) ∧
      (l.mode = .toggle → l' = { l with output := !l.output }) ∧
      (l.mode = .pulse →
        l' = { l with phase := .active, output := true, timer := some l.width, fresh := now }) ∧
      (l.mode = .delayed → l.phase = .quiet →
        l' = { l with phase := .delay, timer := some l.delay, fresh := now }) ∧
      (l.mode = .delayed → l.phase ≠ .quiet →
        l' = { l with ignored := min 65535 (l.ignored + 1) }))) ∧
  (∀ (id : LineId) (levels : Inputs Bool) (order : List Turn) (s : State), s.counting →
    let l := s.lines.get id
    let event := s.nextEventTime % 1000000 = 0
    ∃ t, exec (.demandEvent levels order) s = .next t ∧
      let l' := t.lines.get id
      l'.source = l.source ∧ l'.mode = l.mode ∧ l'.delay = l.delay ∧ l'.width = l.width ∧
      l'.activeHigh = l.activeHigh ∧ l'.fresh = false ∧
      (l.mode = .off ∨ l.mode = .manual → l.timer = none →
        l'.output = l.output ∧ l'.phase = l.phase ∧ l'.timer = none) ∧
      (∀ n, l.mode = .delayed → l.phase = .delay → l.timer = some n → l.fresh = false → 1 < n →
        l'.phase = .delay ∧ l'.timer = some (n - 1) ∧ l'.output = l.output) ∧
      (∀ n, l.mode = .delayed → l.phase ≠ .quiet → l.timer = some n → l.fresh = true →
        l'.phase = l.phase ∧ l'.timer = some n ∧ l'.output = l.output) ∧
      (l.source = .second →
        (¬ event → l.timer = none → l'.output = l.output ∧ l'.phase = l.phase ∧ l'.timer = none) ∧
        (event → l.mode = .toggle → l.timer = none → l'.output = !l.output) ∧
        (event → l.mode = .pulse → l.phase = .quiet → l.timer = none →
          l'.phase = .active ∧ l'.output = true ∧ l'.timer = some l.width) ∧
        (event → l.mode = .delayed → l.phase = .quiet → l.timer = none →
          l'.phase = .delay ∧ l'.output = l.output ∧ l'.timer = some l.delay) ∧
        (∀ n, event → l.mode = .delayed → l.phase ≠ .quiet → l.timer = some n → 1 < n →
          l'.phase = l.phase ∧ l'.ignored = min 65535 (l.ignored + 1)))) ∧
  ∀ (id : LineId) (levels : Inputs Bool) (order rest : List Turn) (s : State), s.counting →
    (s.lines.get id).timer = some 1 → (s.lines.get id).fresh = false →
    let l := s.lines.get id
    let first := order = .line id :: rest
    (l.mode = .delayed → l.phase = .delay →
      ∃ t, exec (.eventDelayExpiry id levels order) s = .next t ∧
        exec (.demandEvent levels order) s = .next t ∧
        (t.lines.get id).phase = .active ∧ (t.lines.get id).output = true ∧
        (t.lines.get id).timer = some l.width) ∧
    (l.mode = .pulse ∨ l.mode = .delayed → l.phase = .active →
      ∃ t, exec (.demandEvent levels order) s = .next t ∧
        (l.mode = .delayed ∨ first → exec (.eventWidthExpiry id levels order) s = .next t) ∧
        let l' := t.lines.get id
        (l'.phase = .quiet ∧ l'.timer = none ∧ l'.output = false ∨
          l.mode = .pulse ∧ l'.phase = .active ∧ l'.timer = some l.width ∧ l'.output = true ∨
          l.mode = .delayed ∧ l'.phase = .delay ∧ l'.timer = some l.delay ∧ l'.output = false) ∧
        (l.source = .second → s.nextEventTime % 1000000 ≠ 0 → l'.phase = .quiet) ∧
        (l.source = .second → s.nextEventTime % 1000000 = 0 → l.mode = .pulse →
          l'.phase = .active ∧ l'.timer = some l.width ∧ l'.output = true))

/-- The pulses of a count (R156): pulse i rises 2 + floor(i·996/n) µs after the start moment, successive pulses at least 3 µs
apart and the last one falling within 995; a count handed to an output with no schedule sets DIR and is issued in full
within the millisecond. -/
def Obligations.CountIsIssuedInFull : Prop :=
  ∀ (n : Int) (o : StepOut), n ≠ 0 → magnitude n ≤ 250 → o.schedule = none → o.waiting = [] →
    let started : StepOut :=
      { o with schedule := some ⟨⟨decide (0 < n), n.natAbs⟩, 0⟩, dirIncreasing := decide (0 < n) }
    let sign : Int := if 0 < n then 1 else -1
    o.hand n = started ∧ o.hand 0 = o ∧
    (∀ us i, us ≤ 1000 → 1 ≤ us → i < n.natAbs →
      2 + i * 996 / n.natAbs ≤ us → (i + 1 = n.natAbs ∨ us < 2 + (i + 1) * 996 / n.natAbs) →
      (started.pass us).issued = o.issued + sign * (i + 1) ∧
        (started.pass us).stepHigh = decide (us = 2 + i * 996 / n.natAbs) ∧
        (started.pass us).dirIncreasing = decide (0 < n)) ∧
    started.pass 1000 =
      ⟨none, [], decide (0 < n), false, o.issued + n⟩ ∧
    (∀ i, i + 1 < n.natAbs → 2 + i * 996 / n.natAbs + 3 ≤ 2 + (i + 1) * 996 / n.natAbs) ∧
    2 + (n.natAbs - 1) * 996 / n.natAbs + 1 ≤ 995

/-- STEP_PULSE and WAITING_SCHEDULE_START (R156, R157; log entry 2): the next pulse of the schedule rises and falls, moving
the drive by one count, or a pulse that is high falls; the count that waits becomes the schedule in progress at the last fall
of the one before, which is then issued in full. Where the moment is not in the period in progress, or there is none, nothing
happens. That counts may wait behind the one that waits is the model's choice (log entry 12). -/
def Obligations.StepRowsAdvance : Prop :=
  ∀ (ax : Axis) (s : State), s.resetLow = false →
    let o := s.steps.get ax
    let passes (n : Nat) (t : State) :=
      { t with time := s.time, notices := s.notices, steps := s.steps, ports := s.ports } = s ∧
        t.ports = s.ports.map (Port.pass n) ∧
        ∀ k, k ≠ ax → t.steps.get k = (s.steps.get k).pass n
    (o.schedule = none →
      exec (.stepPulse ax) s = .next s ∧ exec (.waitingScheduleStart ax) s = .next s) ∧
    (o.waiting = [] → exec (.waitingScheduleStart ax) s = .next s) ∧
    ∀ sch, o.schedule = some sch → 1 ≤ sch.what.count → sch.what.count ≤ 250 →
      let c := sch.what.count
      let i := risen c sch.elapsed
      let sign : Int := if sch.what.increasing then 1 else -1
      let falls := 3 + i * 996 / c - sch.elapsed
      let ends := 3 + (c - 1) * 996 / c - sch.elapsed
      (o.stepHigh = false → i < c → s.withinPeriod falls = false →
        exec (.stepPulse ax) s = .next s) ∧
      (o.stepHigh = false → c ≤ i → exec (.stepPulse ax) s = .next s) ∧
      (o.stepHigh = true → s.withinPeriod 1 = false → exec (.stepPulse ax) s = .next s) ∧
      (s.withinPeriod ends = false → exec (.waitingScheduleStart ax) s = .next s) ∧
      (o.stepHigh = false → i < c → s.withinPeriod falls = true →
        ∃ t, exec (.stepPulse ax) s = .next t ∧ passes falls t ∧
          (t.steps.get ax).issued = o.issued + sign ∧ (t.steps.get ax).stepHigh = false) ∧
      (∀ j, j < c → sch.elapsed = 2 + j * 996 / c → o.stepHigh = true → s.withinPeriod 1 = true →
        ∃ t, exec (.stepPulse ax) s = .next t ∧ passes 1 t ∧
          (t.steps.get ax).issued = o.issued ∧ (t.steps.get ax).stepHigh = false ∧
          (j + 1 < c →
            (t.steps.get ax).schedule = some { sch with elapsed := sch.elapsed + 1 } ∧
              (t.steps.get ax).waiting = o.waiting) ∧
          (j + 1 = c → o.waiting = [] → (t.steps.get ax).schedule = none)) ∧
      (∀ w rest, o.waiting = w :: rest → sch.elapsed < 3 + (c - 1) * 996 / c →
        1 ≤ w.count → w.count ≤ 250 → s.withinPeriod ends = true →
        ∃ t, exec (.waitingScheduleStart ax) s = .next t ∧ passes ends t ∧
          t.steps.get ax =
            ⟨some ⟨w, 0⟩, rest, w.increasing, false, o.issued + sign * ((c : Int) - i)⟩)

/-! ### Demand event -/

/-- The demand event (R3, R72, R154, R190): it stands at the next multiple of 1,000 of mount time, every filter takes one
sample, pending configuration values take force, the gaps within frames grow by the time passed (R180), and the model table's entries
and pointers, the queue, time valid, the spurious count, the records of the list and the notice masks stay. With none to come (mount time held, or RESET_N
low) the command has no effect (log entries 2 and 13). In IDLE, WAITING and PARKED the base is held with velocity 0, and the
last correction is that of this base from the page in use the event leaves, the new one where it selects a target of another
station (R60, R61, R73; log entry 20). -/
def Obligations.DemandEventSamplesAndCommits : Prop :=
  ∀ (levels : Inputs Bool) (order : List Turn) (s : State),
    (¬ s.counting → exec (.demandEvent levels order) s = .next s) ∧
    (s.counting →
      ∃ t, exec (.demandEvent levels order) s = .next t ∧
        t.time.mountTime = s.nextEventTime ∧ t.time.eventDue = false ∧ t.pins = levels ∧
        (∀ i : Item, t.inForce.get i = s.latest i ∧ t.pendingItems.get i = none) ∧
        (∀ i : Input,
          let x := showsLevel levels i
          let f := s.inputs.get i
          (t.inputs.get i).previous = x ∧
            (t.inputs.get i).level = if x ≠ f.level ∧ f.previous = x then x else f.level) ∧
        t.model.cells = s.model.cells ∧ t.model.writePtr = s.model.writePtr ∧
        t.model.readPtr = s.model.readPtr ∧ t.pending = s.pending ∧
        (∀ n, s.time.untilEvent = some n → t.ports = s.ports.map (Port.pass n)) ∧
        t.resetLow = s.resetLow ∧ t.time.timeValid = s.time.timeValid ∧
        t.time.spurious = s.time.spurious ∧
        (t.night.entries.map fun e => e.record) = (s.night.entries.map fun e => e.record) ∧
        (∀ l : Link, (t.notices.boxes.get l).mask = (s.notices.boxes.get l).mask) ∧
        (s.calm levels → s.engine = .idle ∨ s.engine = .waiting ∨ s.engine = .parked →
          (∀ ax : Axis, (t.axes.get ax).base = (s.axes.get ax).base ∧ (t.axes.get ax).vel = 0) ∧
            t.model.last =
              modelCorrection s.model.cells t.model.pageInUse ((s.axes.az.base + 32768) / 65536)
                ((s.axes.el.base + 32768) / 65536)))

/-- SLEW_TIMEOUT, SETTLE_END and capture for a FIXED target with no correction at work (R111, R112, R114, R126): capture comes
before the timeout, the timeout ends the entry, and the settle's end enters TRACKING; CAPTURE, TARGET_END and TRACK_START are
given to the event lines at these events and not at the others (R124). That a timer's row is the demand event at which it runs
out is the model's choice (log entry 4). -/
def Obligations.SlewAndSettleEnd : Prop :=
  ∀ (levels : Inputs Bool) (order : List Turn) (s : State) (e : Entry) (p : Axes Int) (w : Int),
    s.calm levels → s.onFixed e p w →
    let g := fixedPositions p w
    let captures := s.captureTest g (.const 0) (s.followTo g (.const 0)) = true
    let active (t : State) (ph : Phase) :=
      ∃ x, t.activeEntry = some x ∧ x.record = e.record ∧ x.status = .active ph ∧
        (ph = .settling → x.results.capturedAt = some s.nextEventTime) ∧
        (ph = .tracking → x.results.trackingFrom = some s.nextEventTime)
    (∀ n az, s.engine = .slewing n az → captures →
      ∃ t, exec (.demandEvent levels order) s = .next t ∧ t.engine = .settling 0 ∧
        active t .settling ∧ t.enable = true ∧ s.Flips .capture t ∧ s.Rests .targetEnd t ∧
        t.guide.state = if e.record.guided then .seeking else s.guide.state) ∧
    (∀ n az, s.engine = .slewing n az → ¬ captures → s.inForce.slewTimeout ≤ (n + 1 : Nat) →
      ∃ t, exec (.slewTimeout levels order) s = .next t ∧
        exec (.demandEvent levels order) s = .next t ∧ t.onTarget = false ∧
        t.Noticed .targetEnd ∧ s.Flips .targetEnd t ∧ s.Rests .capture t ∧
        ∃ x ∈ t.night.entries, x.record = e.record ∧ x.status = .ended .slewTimeout ∧
          x.results.endedAt = some s.nextEventTime ∧ x.chain = []) ∧
    (∀ n, s.engine = .settling n → s.inForce.settleTime ≤ (n + 1 : Nat) →
      ∃ t, exec (.settleEnd levels order) s = .next t ∧
        exec (.demandEvent levels order) s = .next t ∧ t.engine = .tracking 0 ∧
        active t .tracking ∧ t.enable = true ∧ t.onTarget = false ∧ s.Flips .trackStart t) ∧
    (∀ n, s.engine = .settling n → (n + 1 : Nat) < s.inForce.settleTime →
      ∃ t, exec (.demandEvent levels order) s = .next t ∧ t.engine = .settling (n + 1) ∧
        s.Rests .trackStart t ∧
        ∀ ax, (t.axes.get ax).demand = roundCounts (g.get ax) ∧ (t.axes.get ax).vel = 0)

/-- DWELL_END and HOLD_EXPIRED for a FIXED target with no correction at work (R115, R116, R148): the dwell's end leads to
HOLDING when the filtered hold line is asserted and max hold is above 0, else the entry is COMPLETE; a hold ends when its
counter reaches max hold, or RELEASED when the line is not asserted. DWELL_END is given to the event lines at the dwell's end,
whatever it leads to, and TARGET_END is noticed and given at each end (R28, R124). That a timer's row is the demand event at
which it runs out is the model's choice (log entry 4). -/
def Obligations.DwellAndHoldEnd : Prop :=
  ∀ (levels : Inputs Bool) (order : List Turn) (s : State) (e : Entry) (p : Axes Int) (w : Int),
    s.calm levels → s.onFixed e p w →
    let hold := showsLevel levels .instHold = true
    let ended (t : State) (o : EndOutcome) :=
      t.onTarget = false ∧ t.Noticed .targetEnd ∧ s.Flips .targetEnd t ∧
        ∃ x ∈ t.night.entries, x.record = e.record ∧ x.status = .ended o ∧
          x.results.endedAt = some s.nextEventTime ∧ x.chain = []
    (∀ n, s.engine = .tracking n → e.record.dwell ≤ n + 1 →
      ∃ t, exec (.dwellEnd levels order) s = .next t ∧
        exec (.demandEvent levels order) s = .next t ∧ s.Flips .dwellEnd t ∧
        (hold → 0 < e.record.maxHold →
          t.engine = .holding (n + 1) ∧ t.enable = true ∧ s.Rests .targetEnd t ∧
            ∃ x, t.activeEntry = some x ∧ x.record = e.record ∧ x.status = .active .holding) ∧
        (¬ (hold ∧ 0 < e.record.maxHold) → ended t .complete)) ∧
    (∀ n, s.engine = .tracking n → n + 1 < e.record.dwell →
      ∃ t, exec (.demandEvent levels order) s = .next t ∧ t.engine = .tracking (n + 1) ∧
        s.Rests .dwellEnd t) ∧
    (∀ n y, s.engine = .holding n → e.results.tally = some y →
      (¬ hold →
        ∃ t, exec (.demandEvent levels order) s = .next t ∧ ended t .released ∧
          s.Rests .dwellEnd t) ∧
      (hold → y.holdUsed + 1 < e.record.maxHold →
        ∃ t, exec (.demandEvent levels order) s = .next t ∧ t.engine = .holding n) ∧
      (hold → e.record.maxHold ≤ y.holdUsed + 1 → y.holdUsed < 4294967295 →
        ∃ t, exec (.holdExpired levels order) s = .next t ∧
          exec (.demandEvent levels order) s = .next t ∧ ended t .holdExpired ∧
          ∃ x ∈ t.night.entries, x.record = e.record ∧
            x.results.tally.map Tally.holdUsed = some (y.holdUsed + 1)))

/-- GUIDE_LOST for a FIXED target with no correction at work, past capture and not ending at this event (R126, R132): the guide
timer counts, and at GUIDE_TIMEOUT the state is LOST and the GUIDE notice latched on every link. That GUIDE_LOST is the
demand event at which the timer runs out is the model's choice (log entry 4). And the take of a full mailbox at an event
which ends nothing (R79, R81, R130): G takes it up to GUIDE_RANGE, the entry counts it with its merges and a saturation where
the clamp acted, GUIDE_TAKE is given to the event lines, and the new G enters the wanted offset and the demand. -/
def Obligations.GuideTimerRunsOut : Prop :=
  (∀ (levels : Inputs Bool) (order : List Turn) (s : State) (e : Entry) (p : Axes Int) (w : Int)
    (n m : Nat), s.calm levels → s.onFixed e p w → s.guide.state = .guiding n →
    s.engine = .settling m ∨ (s.engine = .tracking m ∧ m + 1 < e.record.dwell) →
    ((n + 1 : Nat) < s.inForce.guideTimeout →
      ∃ t, exec (.demandEvent levels order) s = .next t ∧ t.guide.state = .guiding (n + 1)) ∧
    (s.inForce.guideTimeout ≤ (n + 1 : Nat) →
      ∃ t, exec (.guideLost levels order) s = .next t ∧
        exec (.demandEvent levels order) s = .next t ∧ t.guide.state = .lost ∧
        t.guide.offset = ⟨0, 0⟩ ∧
        ∀ l : Link, (t.notices.boxes.get l).latched.getLsbD 5 = true)) ∧
  ∀ (levels : Inputs Bool) (order : List Turn) (s : State) (e : Entry) (p : Axes Int) (w : Int)
    (y : Tally) (box : Mailbox) (m : Nat), s.calm levels → s.GuideLaw →
    s.activeEntry = some e → e.record.kind = .fixed p → e.results.wrapOffset = some w →
    e.results.tally = some y → s.guide.mailbox = some box →
    s.engine = .settling m ∨ (s.engine = .tracking m ∧ m + 1 < e.record.dwell) →
    let base := fixedPositions p w
    let range := s.inForce.guideRange
    let cut (x : Int) := max (-range) (min range x)
    let sum : AzEl Int :=
      ⟨s.guide.offset.az + box.correction.az, s.guide.offset.el + box.correction.el⟩
    let g : AzEl Int := ⟨cut sum.az, cut sum.el⟩
    let c := modelCorrection s.model.cells s.model.pageInUse (roundCounts base.az)
      (roundCounts base.el)
    let wanted : Axes Int :=
      ⟨c.az + g.az + s.axes.az.host, c.el + g.el + s.axes.el.host, s.axes.rot.host⟩
    let applied (ax : Axis) := blend s.inForce.cstep (wanted.get ax) (s.axes.get ax).applied
    let demand (ax : Axis) := roundCounts (base.get ax) + applied ax
    (∀ ax : Axis, s.within ax (demand ax) = true) →
    ∃ t, exec (.demandEvent levels order) s = .next t ∧ t.guide.mailbox = none ∧
      t.guide.offset = g ∧ t.model.last = c ∧
      (∀ ax : Axis, (t.axes.get ax).wanted = wanted.get ax ∧
        (t.axes.get ax).applied = applied ax ∧ (t.axes.get ax).demand = demand ax) ∧
      (∃ x z, t.activeEntry = some x ∧ x.record = e.record ∧ x.results.tally = some z ∧
        z.guideTaken = min 4294967295 (y.guideTaken + 1) ∧
        z.guideMerged = min 4294967295 (y.guideMerged + box.merges) ∧
        z.guideSaturations =
          (if g = sum then min 4294967295 y.guideSaturations
            else min 4294967295 (y.guideSaturations + 1)) ∧
        z.guideDiscarded = y.guideDiscarded) ∧
      ∀ id : LineId, (s.lines.get id).source = .guideTake → (s.lines.get id).mode = .toggle →
        (s.lines.get id).timer = none →
        (t.lines.get id).output = !(s.lines.get id).output

/-! ### Faults and notices (10_faults_and_notices.md) -/

/-- FAULT_READ and FAULT_CLEAR (R173, R174). -/
def Obligations.FaultRequests : Prop :=
  ∀ s : State, s.ready .schedule →
    let asserted := fun i : Input => (s.inputs.get i).level = true
    let any := asserted .driveFaultAz ∨ asserted .driveFaultEl ∨ asserted .driveFaultRot ∨
      asserted .limitSwitch
    exec .faultRead s =
      .next (s.answered .schedule 0xD8 .ok
        (.faults s.faults
          ⟨s.inputs.driveFaultAz.level, s.inputs.driveFaultEl.level, s.inputs.driveFaultRot.level⟩
          s.inputs.limitSwitch.level s.engine.state)) ∧
    (s.engine ≠ .stopped →
      exec .faultClear s = .next (s.answered .schedule 0xD9 .wrongState .none)) ∧
    (s.engine = .stopped → any →
      exec .faultClear s = .next (s.answered .schedule 0xD9 .stillActive .none)) ∧
    (s.engine = .stopped → ¬ any →
      exec .faultClear s =
        .next ({ s with faults := ⟨none, none, 0⟩, engine := .unset, enable := false }.answered
          .schedule 0xD9 .ok .none))

/-- A fault event from a filter at a demand event with the enables on (R91, R151, R154, R155, R158, R168 to R172). Taken before
the computation, it finds the state before the event: the first slot records it, the ACTIVE entry ends as FAULT with the
demand of the previous event folded, the engine is STOPPED with the enables off and no pulse left to issue, E stays where it
was, and park is owed where the shelter condition is active. Taken after it, the fault finds and records the state that the
computation left, and ends the entry that is then ACTIVE. In STOPPED a further fault fills the second slot or is counted, and
the engine stays as it is. -/
def Obligations.FaultStopsTheMount : Prop :=
  (∀ (i : Input) (k : FaultKind) (levels : Inputs Bool) (rest : List Turn) (s : State),
    faultKindOf i = some k → s.counting → s.enable = true → s.engine ≠ .stopped →
    (s.inputs.get i).level = false → (s.inputs.get i).previous = true →
    showsLevel levels i = true →
    let here : State := { s with time := { s.time with mountTime := s.nextEventTime } }
    ∃ t, exec (.demandEvent levels (.filter i :: rest)) s = .next t ∧ t.engine = .stopped ∧
      t.enable = false ∧ t.faults.first = some ⟨k, s.nextEventTime, s.engine.state, s.activeId⟩ ∧
      t.night.flag = false ∧ t.waitReason = none ∧ t.guide.offset = ⟨0, 0⟩ ∧
      (s.activeEntry ≠ none → t.onTarget = false) ∧
      (∀ ax, (t.steps.get ax).schedule = none ∧ (t.steps.get ax).waiting = [] ∧
        (t.axes.get ax).emitted = (s.axes.get ax).emitted) ∧
      (∀ l : Link, (t.notices.boxes.get l).latched.getLsbD 7 = true) ∧
      (s.activeEntry = none → t.axes = s.axes ∧ t.night.entries = s.night.entries) ∧
      (∀ e, s.activeEntry = some e → here.EndLeaves .fault e t ∧
        ∀ l : Link, (t.notices.boxes.get l).latched.getLsbD 1 = true) ∧
      (s.ShelterLaw → t.enclosure.parkOwed = t.enclosure.shelter) ∧
      ∀ id : LineId, (s.lines.get id).source = .fault → (s.lines.get id).mode = .toggle →
        (s.lines.get id).timer = none →
        (t.lines.get id).output = !(s.lines.get id).output) ∧
  (∀ (i : Input) (k : FaultKind) (levels : Inputs Bool) (rest : List Turn) (s : State) (n : Nat),
    faultKindOf i = some k → s.resetLow = false → s.time.untilEvent = some n →
    (s.inputs.get i).level = false → (s.inputs.get i).previous = true →
    showsLevel levels i = true →
    let computed := ((s.elapse n).openEvent levels).engineTurn
    computed.enable = true → computed.engine ≠ .stopped →
    ∃ t, exec (.demandEvent levels (.engine :: .filter i :: rest)) s = .next t ∧
      t.engine = .stopped ∧ t.enable = false ∧
      t.faults.first =
        some ⟨k, s.nextEventTime, computed.engine.state, computed.activeId⟩ ∧
      (∀ ax, (t.steps.get ax).schedule = none ∧ (t.steps.get ax).waiting = [] ∧
        (t.axes.get ax).emitted = (computed.axes.get ax).emitted) ∧
      (computed.activeEntry = none →
        t.axes = computed.axes ∧ t.night.entries = computed.night.entries) ∧
      ∀ e, computed.activeEntry = some e → computed.EndLeaves .fault e t) ∧
  ∀ (i : Input) (k : FaultKind) (levels : Inputs Bool) (order : List Turn) (s : State),
    faultKindOf i = some k → s.counting → s.engine = .stopped →
    (s.inputs.get i).level = false → (s.inputs.get i).previous = true →
    (∀ j : Input, showsLevel levels j = if j = i then true else (s.inputs.get j).level) →
    ∃ t, exec (.demandEvent levels order) s = .next t ∧ t.engine = .stopped ∧
      t.faults.first = s.faults.first ∧ t.axes = s.axes ∧ t.night = s.night ∧
      t.steps = (s.elapse (s.time.untilEvent.getD 0)).steps ∧
      (s.faults.second = none →
        t.faults.second = some ⟨k, s.nextEventTime, .stopped, none⟩ ∧
          t.faults.overflow = s.faults.overflow) ∧
      (∀ f, s.faults.second = some f →
        t.faults.second = some f ∧ t.faults.overflow = min 255 (s.faults.overflow + 1)) ∧
      (∀ l : Link, (t.notices.boxes.get l).latched.getLsbD 7 = true) ∧
      ∀ id : LineId, (s.lines.get id).source = .fault → (s.lines.get id).timer = none →
        (t.lines.get id).output = (s.lines.get id).output

/-- NOTICE_READ, NOTICE_ACK, NOTICE_MASK and IDENTIFY on any link (R175 to R178, R191): an acknowledgement takes kinds from
this link's set, a mask replaces this link's mask, and ATTN is formed again at once. -/
def Obligations.NoticeRequests : Prop :=
  ∀ (l : Link) (kinds : BitVec 16) (s : State), s.ready l →
    let box := s.notices.boxes.get l
    let withBox (b : NoticeBox) : State :=
      { s with notices := { s.notices with boxes := s.notices.boxes.set l b } }
    let formed (latched mask : NoticeSet) : NoticeBox :=
      ⟨latched, mask, decide (latched &&& mask ≠ 0)⟩
    let named : NoticeSet := kinds.setWidth 10
    exec (.noticeRead l) s =
      .next (s.answered l 0x82 .ok
        (.notices box.latched box.mask s.notices.recentEnd s.notices.recentStart)) ∧
    (1024 ≤ kinds.toNat →
      exec (.noticeAck l kinds) s = .next (s.answered l 0x83 .badValue .none) ∧
        exec (.noticeMask l kinds) s = .next (s.answered l 0x84 .badValue .none)) ∧
    (kinds.toNat < 1024 →
      exec (.noticeAck l kinds) s =
          .next ((withBox (formed (box.latched &&& ~~~named) box.mask)).answered l 0x83 .ok
            (.latched (box.latched &&& ~~~named))) ∧
        exec (.noticeMask l kinds) s =
          .next ((withBox (formed box.latched named)).answered l 0x84 .ok
            (.masks named box.latched))) ∧
    exec (.identify l) s =
      .next (s.answered l 0x81 .ok (.identity
        { vendor := 0x4859, part := 212, revision := 1, listEntries := 64, segmentSlots := 512
          modelPages := 2, pageEntries := 128, eventLines := 4
          badChecks := (s.ports.get l).badChecks, overruns := (s.ports.get l).overruns
          timeouts := (s.ports.get l).timeouts }))

/-- STATUS, GUIDE_STATUS and ENC_STATUS report the state and change nothing but their port (R96, R137, R144, R192; log entry 18
for the last three fields of STATUS). -/
def Obligations.StatusReports : Prop :=
  ∀ s : State,
    let axis (a : AxisState) : AxisReport :=
      ⟨(a.base + 32768) / 65536, a.vel, a.wanted, a.applied, a.host, a.demand, a.emitted, a.lag⟩
    let destination : Int :=
      match s.engine with
      | .slewing _ az => az
      | .parking => s.inForce.park.az
      | _ => s.axes.az.demand
    (s.ready .schedule →
      exec .status s =
        .next (s.answered .schedule 0x90 .ok (.status
          { engine := s.engine, waitReason := s.waitReason, holdCounter := s.holdCounter
            activeId := s.activeEntry.map fun e => e.record.id
            axes := ⟨axis s.axes.az, axis s.axes.el, axis s.axes.rot⟩
            nightFlag := s.night.flag, free := s.free, inputs := s.inputs.map Filter.level
            enable := s.enable, onTarget := s.onTarget, shelter := s.enclosure.shelter
            parkOwed := s.enclosure.parkOwed, discipline := s.time.discipline
            timeValid := s.time.timeValid, mountTime := s.time.mountTime
            pageInUse := s.model.pageInUse, lastCorrection := s.model.last
            guideOffset := s.guide.offset }))) ∧
    (s.ready .guide →
      exec .guideStatus s =
        .next (s.answered .guide 0xE1 .ok (.guide
          { state := s.guide.state, offset := s.guide.offset, mailbox := s.guide.mailbox
            activeId := s.activeEntry.map fun e => e.record.id
            guided := s.activeEntry.map fun e => e.record.guided
            onTarget := s.onTarget, engine := s.engine.state
            mountTime := s.time.mountTime }))) ∧
    (s.ready .enclosure →
      exec .encStatus s =
        .next (s.answered .enclosure 0xF1 .ok (.enclosure
          { mountAz := s.axes.az.demand % 16777216, velAz := s.axes.az.vel
            destinationAz := destination % 16777216, engine := s.engine.state
            shelter := s.enclosure.shelter, shelterLine := s.inputs.shelter.level
            shelterFlag := s.enclosure.report.any EncReport.flag
            parkOwed := s.enclosure.parkOwed, alignment := s.enclosure.alignment
            report := s.enclosure.report.map fun r => (r.slit, r.age)
            mountTime := s.time.mountTime })))

/-! ### Links (11_link_frames_and_request_reference.md) -/

/-- FRAME_TIMEOUT, LINE_BREAK and REPLY_END (R180, R184). As oscillator time passes with no byte, the gap within a frame in
assembly grows, and at the moment it passes 20,000 µs the frame is abandoned and counted; FRAME_TIMEOUT, for a gap longer than
that, brings time to that moment, where it lies in the period in progress (log entry 2). A break abandons a frame too, in HUNT nothing is counted, and
a reply's end makes the transmitter idle. That a byte is one moment, so that the gap runs from byte to byte, is the model's
choice (log entry 11). -/
def Obligations.SerialLineEvents : Prop :=
  (∀ (p : Port) (n : Nat),
    (p.receiver = .hunt → p.pass n = p) ∧
    (p.receiver ≠ .hunt → p.gap + n ≤ 20000 → p.pass n = { p with gap := p.gap + n }) ∧
    (p.receiver ≠ .hunt → 0 < n → 20000 < p.gap + n →
      p.pass n =
        { p with receiver := .hunt, gap := 0, timeouts := min 65535 (p.timeouts + 1) })) ∧
  ∀ (l : Link) (gap : Nat) (cause : BreakCause) (s : State), s.resetLow = false →
    let p := s.ports.get l
    let withPort (q : Port) : State := { s with ports := s.ports.set l q }
    let abandoned : Port :=
      { p with receiver := .hunt, gap := 0, timeouts := min 65535 (p.timeouts + 1) }
    let breaks := ∀ n, cause = .spaceFor n → 20 ≤ n
    let n := 20001 - p.gap
    (p.receiver = .hunt →
      exec (.frameTimeout l gap) s = .next s ∧ exec (.lineBreak l cause) s = .next s) ∧
    (gap ≤ 20000 ∨ s.withinPeriod n = false → exec (.frameTimeout l gap) s = .next s) ∧
    (p.receiver ≠ .hunt → p.gap ≤ 20000 → 20000 < gap → s.withinPeriod n = true →
      ∃ t, exec (.frameTimeout l gap) s = .next t ∧ t.ports.get l = abandoned ∧
        (∀ k, k ≠ l → t.ports.get k = (s.ports.get k).pass n) ∧
        t.steps = s.steps.map (StepOut.pass n) ∧
        { t with time := s.time, notices := s.notices, steps := s.steps, ports := s.ports } = s ∧
        (s.time.slew = none → s.time.mountTime ≤ 281474976710655 →
          t.time.mountTime = min 281474976710655 (s.time.mountTime + n))) ∧
    (¬ breaks → exec (.lineBreak l cause) s = .next s) ∧
    (p.receiver ≠ .hunt → breaks →
      exec (.lineBreak l cause) s = .next (withPort abandoned)) ∧
    exec (.replyEnd l) s = .next (withPort { p with sending := none })

/-- BYTE_RECEIVED (R180, R182 to R184): the receiver's phases, and what a complete frame does: an overrun while the
transmitter sends, else a wrong CHECK, an unknown kind or a bad length answered by the port, else the request's row. -/
def Obligations.ByteMovesReceiver : Prop :=
  ∀ (l : Link) (b : Byte) (s : State), s.resetLow = false →
    let p := s.ports.get l
    let withPort (q : Port) : State := { s with ports := s.ports.set l q }
    let phase (r : Receiver) :=
      exec (.byteReceived l b) s = .next (withPort { p with receiver := r, gap := 0 })
    let own (q : Port) (kind : Byte) (st : Status) :=
      exec (.byteReceived l b) s = .next ((withPort q).answered l kind st .none)
    (p.receiver = .hunt → b = 0xC3 → phase .length) ∧
    (p.receiver = .hunt → b ≠ 0xC3 → exec (.byteReceived l b) s = .next s) ∧
    (p.receiver = .length → phase (.kind b)) ∧
    (p.receiver = .kind 0 → phase (.check 0 b [])) ∧
    (∀ len, p.receiver = .kind len → len ≠ 0 → phase (.payload len b [])) ∧
    (∀ len kind got, p.receiver = .payload len kind got →
      (got.length + 1 < len.toNat → phase (.payload len kind (got ++ [b]))) ∧
        (len.toNat ≤ got.length + 1 → phase (.check len kind (got ++ [b])))) ∧
    ∀ len kind got, p.receiver = .check len kind got →
      (p.sending ≠ none →
        exec (.byteReceived l b) s =
          .next (withPort
            { p with receiver := .hunt, gap := 0, overruns := min 65535 (p.overruns + 1) })) ∧
      (p.sending = none → b ≠ crc (len :: kind :: got) →
        own { p with badChecks := min 65535 (p.badChecks + 1) } 0xFF .badCheck) ∧
      (p.sending = none → b = crc (len :: kind :: got) →
        (judgeFrame l kind got = .unknownKind →
          own p (if kind.toNat < 128 then kind + 0x80 else 0xFF) .unknownKind) ∧
        (judgeFrame l kind got = .badLength → own p (kind + 0x80) .badLength) ∧
        ∀ i, judgeFrame l kind got = .request i → exec (.byteReceived l b) s = exec i s)

/-- A request row completes on a port that is not held in reset (R183, R184, R187): while a reply is being sent it is an overrun
with no effect, else a reply of the request's kind plus 0x80 begins, and one whose status code is 16 or above leaves
everything else as it was. The reply's CHECK is formed over its LEN, its KIND and its payload, the status code first, and its
payload has at most 250 bytes (R181, R183). A row stands for its whole frame (log entry 8), and the widths of a reply's
fields are the model's reading (log entry 10). -/
def Obligations.RequestRowsReplyOrOverrun : Prop :=
  ∀ (i : Instr) (l : Link) (kind : Byte) (s : State), requestRow i = some (l, kind) →
    s.resetLow = false →
    let p := s.ports.get l
    let len (a : Answer) : Byte := BitVec.ofNat 8 a.payload.length
    let check (a : Answer) : Byte := crc (len a :: (kind + 0x80) :: a.payload)
    (p.sending ≠ none →
      exec i s =
        .next { s with
          ports :=
            s.ports.set l
              { p with receiver := .hunt, gap := 0, overruns := min 65535 (p.overruns + 1) } }) ∧
    (p.sending = none →
      ∃ t a, exec i s = .next t ∧ (t.ports.get l).sending = some ⟨kind + 0x80, len a, check a, a⟩ ∧
        (t.ports.get l).receiver = .hunt ∧ t.pending = s.pending ∧ t.resetLow = false ∧
        (∀ k, k ≠ l → t.ports.get k = s.ports.get k) ∧
        (∃ fields, a.payload = a.status.code :: fields) ∧
        (s.night.entries.length ≤ 64 → a.payload.length ≤ 250) ∧
        (16 ≤ a.status.code.toNat → t = s.answered l (kind + 0x80) a.status a.fields))

/-- The frame of a request and its row agree (R180 to R183, R186, R188, R189): the payload of a well-formed request is judged as
that request, and the bytes of its frame, received from HUNT, do exactly what the row does. The order of a request's fields
where no layout gives it, and a row standing for its whole frame, are the model's reading (log entries 8 and 9). -/
def Obligations.FramesActAsTheirRows : Prop :=
  ∀ (i : Instr) (l : Link) (kind : Byte), requestRow i = some (l, kind) → i.wf = true →
    judgeFrame l kind (payloadOf i) = .request i ∧
    ∀ s : State, (s.ports.get l).receiver = .hunt →
      exec i s = .next (s.receive l (frameBytes kind (payloadOf i)))

/-- The CHECK (R181): the value of an IDENTIFY request is 0x07, appending the CHECK to its bytes gives 0, and any change of one
byte changes it. A reply's frame carries the CHECK formed over its LEN, its KIND and its payload by the same rule; the reply
to a NOTICE_ACK, for one, is its status and the set's two bytes. -/
def Obligations.CheckDetectsOneByte : Prop :=
  crc [0x00, 0x01] = 0x07 ∧
  (∀ bytes, crc (bytes ++ [crc bytes]) = 0) ∧
  (∀ (before after : List Byte) (a b : Byte), a ≠ b →
    crc (before ++ a :: after) ≠ crc (before ++ b :: after)) ∧
  ∀ (l : Link) (kind : Byte) (a : Answer) (s : State),
    (∃ r len check,
      ((s.answered l kind a.status a.fields).ports.get l).sending = some r ∧
        r.frame = 0xC3 :: len :: kind :: a.payload ++ [check] ∧
        len = BitVec.ofNat 8 a.payload.length ∧ check = crc (len :: kind :: a.payload) ∧
        crc (r.frame.drop 1) = 0) ∧
    ∀ set : NoticeSet,
      (⟨.ok, .latched set⟩ : Answer).payload =
        [0x00, BitVec.ofNat 8 (set.toNat / 256), BitVec.ofNat 8 set.toNat]

/-! ### Laws that every step keeps -/

/-- STOPPED is left only to UNSET, by FAULT_CLEAR or a reset, and UNSET only by SET_POSITION (R95, R123, R169); the commands
may come as the last byte of their frame. -/
def Obligations.StoppedAndUnsetLeftByRequest : Prop :=
  ∀ s t : State, s.EnableLaw → step s = .next t →
    let front (c : Instr) := s.pending.head? = some c
    let byte := ∃ b, front (.byteReceived .schedule b)
    let resets :=
      (∃ x, front (.powerOn x)) ∨ front .resetPin ∨ ∃ x, front (.resetPinRelease x)
    (s.engine = .stopped → t.engine = .stopped ∨
      t.engine = .unset ∧ (front .faultClear ∨ byte ∨ resets)) ∧
    (s.engine = .unset → t.engine = .unset ∨
      (t.engine = .idle ∨ t.engine = .parking ∨ t.engine = .stopped) ∧
        ((∃ p, front (.setPosition p)) ∨ byte))

/-- The laws of the time base, the model table, the ports, the notice sets and the event lines (R2, R6, R9, R59, R65, R162,
R163, R175, R180, R185) are kept by every step. -/
def Obligations.InterfaceLawsKept : Prop :=
  ∀ s t : State, step s = .next t →
    (s.TimeLaw → t.TimeLaw) ∧ (s.ModelLaw → t.ModelLaw) ∧ (s.PortLaw → t.PortLaw) ∧
      (s.AttentionLaw → t.AttentionLaw) ∧ (s.LineLaw → t.LineLaw)

/-- The laws that tie the engine to the list, the on-target line, the enables, the fault record and the shelter (R25, R26, R145,
R149, R151, R158, R169) are kept by every step. -/
def Obligations.EngineLawsKept : Prop :=
  ∀ s t : State, step s = .next t →
    (s.CycleLaw → t.CycleLaw) ∧ (s.EnableLaw → t.EnableLaw) ∧ (s.FaultLaw → t.FaultLaw) ∧
      (s.ShelterLaw → t.ShelterLaw)

/-- The configuration values stay lawful, E stays within the limits, the guide quantities within their ranges, and every offset
is 0 outside the target states (R79, R80, R83, R86, R88 to R90, R113, R122, R130, R135, R190): every step keeps them. -/
def Obligations.DemandLawsKept : Prop :=
  ∀ s t : State, s.ConfigLaw → s.CycleLaw → s.EnableLaw → step s = .next t →
    t.ConfigLaw ∧ (s.EmittedLaw → t.EmittedLaw) ∧ (s.GuideLaw → t.GuideLaw) ∧
      (s.OffsetLaw → t.OffsetLaw)
end

