-- ==== Sys2Proof/Laws/State.lean ====
section
/-! SUPPORT. What each named update of State leaves of each field: one lemma for each field, true by unfolding. -/

namespace Sys2Proof.Machine

variable (s : State)

/-! ### withPending -/

@[simp] theorem State.withPending_pending (q : List Instr) : (s.withPending q).pending = q := rfl
@[simp] theorem State.withPending_resetLow (q : List Instr) : (s.withPending q).resetLow = s.resetLow := rfl
@[simp] theorem State.withPending_pins (q : List Instr) : (s.withPending q).pins = s.pins := rfl
@[simp] theorem State.withPending_time (q : List Instr) : (s.withPending q).time = s.time := rfl
@[simp] theorem State.withPending_night (q : List Instr) : (s.withPending q).night = s.night := rfl
@[simp] theorem State.withPending_free (q : List Instr) : (s.withPending q).free = s.free := rfl
@[simp] theorem State.withPending_model (q : List Instr) : (s.withPending q).model = s.model := rfl
@[simp] theorem State.withPending_engine (q : List Instr) : (s.withPending q).engine = s.engine := rfl
@[simp] theorem State.withPending_waitReason (q : List Instr) :
    (s.withPending q).waitReason = s.waitReason := rfl
@[simp] theorem State.withPending_axes (q : List Instr) : (s.withPending q).axes = s.axes := rfl
@[simp] theorem State.withPending_onTarget (q : List Instr) : (s.withPending q).onTarget = s.onTarget := rfl
@[simp] theorem State.withPending_guide (q : List Instr) : (s.withPending q).guide = s.guide := rfl
@[simp] theorem State.withPending_enclosure (q : List Instr) :
    (s.withPending q).enclosure = s.enclosure := rfl
@[simp] theorem State.withPending_inputs (q : List Instr) : (s.withPending q).inputs = s.inputs := rfl
@[simp] theorem State.withPending_steps (q : List Instr) : (s.withPending q).steps = s.steps := rfl
@[simp] theorem State.withPending_enable (q : List Instr) : (s.withPending q).enable = s.enable := rfl
@[simp] theorem State.withPending_lines (q : List Instr) : (s.withPending q).lines = s.lines := rfl
@[simp] theorem State.withPending_faults (q : List Instr) : (s.withPending q).faults = s.faults := rfl
@[simp] theorem State.withPending_notices (q : List Instr) : (s.withPending q).notices = s.notices := rfl
@[simp] theorem State.withPending_ports (q : List Instr) : (s.withPending q).ports = s.ports := rfl
@[simp] theorem State.withPending_inForce (q : List Instr) : (s.withPending q).inForce = s.inForce := rfl
@[simp] theorem State.withPending_pendingItems (q : List Instr) :
    (s.withPending q).pendingItems = s.pendingItems := rfl
@[simp] theorem State.withPending_expiries (q : List Instr) : (s.withPending q).expiries = s.expiries := rfl
@[simp] theorem State.withPending_orderDraws (q : List Instr) :
    (s.withPending q).orderDraws = s.orderDraws := rfl

/-! ### withEntries -/

@[simp] theorem State.withEntries_pending (es : List Entry) : (s.withEntries es).pending = s.pending := rfl
@[simp] theorem State.withEntries_resetLow (es : List Entry) :
    (s.withEntries es).resetLow = s.resetLow := rfl
@[simp] theorem State.withEntries_pins (es : List Entry) : (s.withEntries es).pins = s.pins := rfl
@[simp] theorem State.withEntries_time (es : List Entry) : (s.withEntries es).time = s.time := rfl
@[simp] theorem State.withEntries_night (es : List Entry) :
    (s.withEntries es).night = { s.night with entries := es } := rfl
@[simp] theorem State.withEntries_free (es : List Entry) : (s.withEntries es).free = s.free := rfl
@[simp] theorem State.withEntries_model (es : List Entry) : (s.withEntries es).model = s.model := rfl
@[simp] theorem State.withEntries_engine (es : List Entry) : (s.withEntries es).engine = s.engine := rfl
@[simp] theorem State.withEntries_waitReason (es : List Entry) :
    (s.withEntries es).waitReason = s.waitReason := rfl
@[simp] theorem State.withEntries_axes (es : List Entry) : (s.withEntries es).axes = s.axes := rfl
@[simp] theorem State.withEntries_onTarget (es : List Entry) :
    (s.withEntries es).onTarget = s.onTarget := rfl
@[simp] theorem State.withEntries_guide (es : List Entry) : (s.withEntries es).guide = s.guide := rfl
@[simp] theorem State.withEntries_enclosure (es : List Entry) :
    (s.withEntries es).enclosure = s.enclosure := rfl
@[simp] theorem State.withEntries_inputs (es : List Entry) : (s.withEntries es).inputs = s.inputs := rfl
@[simp] theorem State.withEntries_steps (es : List Entry) : (s.withEntries es).steps = s.steps := rfl
@[simp] theorem State.withEntries_enable (es : List Entry) : (s.withEntries es).enable = s.enable := rfl
@[simp] theorem State.withEntries_lines (es : List Entry) : (s.withEntries es).lines = s.lines := rfl
@[simp] theorem State.withEntries_faults (es : List Entry) : (s.withEntries es).faults = s.faults := rfl
@[simp] theorem State.withEntries_notices (es : List Entry) : (s.withEntries es).notices = s.notices := rfl
@[simp] theorem State.withEntries_ports (es : List Entry) : (s.withEntries es).ports = s.ports := rfl
@[simp] theorem State.withEntries_inForce (es : List Entry) : (s.withEntries es).inForce = s.inForce := rfl
@[simp] theorem State.withEntries_pendingItems (es : List Entry) :
    (s.withEntries es).pendingItems = s.pendingItems := rfl
@[simp] theorem State.withEntries_expiries (es : List Entry) :
    (s.withEntries es).expiries = s.expiries := rfl
@[simp] theorem State.withEntries_orderDraws (es : List Entry) :
    (s.withEntries es).orderDraws = s.orderDraws := rfl

/-! ### withNightFlag -/

@[simp] theorem State.withNightFlag_pending (b : Bool) : (s.withNightFlag b).pending = s.pending := rfl
@[simp] theorem State.withNightFlag_resetLow (b : Bool) : (s.withNightFlag b).resetLow = s.resetLow := rfl
@[simp] theorem State.withNightFlag_pins (b : Bool) : (s.withNightFlag b).pins = s.pins := rfl
@[simp] theorem State.withNightFlag_time (b : Bool) : (s.withNightFlag b).time = s.time := rfl
@[simp] theorem State.withNightFlag_night (b : Bool) :
    (s.withNightFlag b).night = { s.night with flag := b } := rfl
@[simp] theorem State.withNightFlag_free (b : Bool) : (s.withNightFlag b).free = s.free := rfl
@[simp] theorem State.withNightFlag_model (b : Bool) : (s.withNightFlag b).model = s.model := rfl
@[simp] theorem State.withNightFlag_engine (b : Bool) : (s.withNightFlag b).engine = s.engine := rfl
@[simp] theorem State.withNightFlag_waitReason (b : Bool) :
    (s.withNightFlag b).waitReason = s.waitReason := rfl
@[simp] theorem State.withNightFlag_axes (b : Bool) : (s.withNightFlag b).axes = s.axes := rfl
@[simp] theorem State.withNightFlag_onTarget (b : Bool) : (s.withNightFlag b).onTarget = s.onTarget := rfl
@[simp] theorem State.withNightFlag_guide (b : Bool) : (s.withNightFlag b).guide = s.guide := rfl
@[simp] theorem State.withNightFlag_enclosure (b : Bool) : (s.withNightFlag b).enclosure = s.enclosure := rfl
@[simp] theorem State.withNightFlag_inputs (b : Bool) : (s.withNightFlag b).inputs = s.inputs := rfl
@[simp] theorem State.withNightFlag_steps (b : Bool) : (s.withNightFlag b).steps = s.steps := rfl
@[simp] theorem State.withNightFlag_enable (b : Bool) : (s.withNightFlag b).enable = s.enable := rfl
@[simp] theorem State.withNightFlag_lines (b : Bool) : (s.withNightFlag b).lines = s.lines := rfl
@[simp] theorem State.withNightFlag_faults (b : Bool) : (s.withNightFlag b).faults = s.faults := rfl
@[simp] theorem State.withNightFlag_notices (b : Bool) : (s.withNightFlag b).notices = s.notices := rfl
@[simp] theorem State.withNightFlag_ports (b : Bool) : (s.withNightFlag b).ports = s.ports := rfl
@[simp] theorem State.withNightFlag_inForce (b : Bool) : (s.withNightFlag b).inForce = s.inForce := rfl
@[simp] theorem State.withNightFlag_pendingItems (b : Bool) :
    (s.withNightFlag b).pendingItems = s.pendingItems := rfl
@[simp] theorem State.withNightFlag_expiries (b : Bool) : (s.withNightFlag b).expiries = s.expiries := rfl
@[simp] theorem State.withNightFlag_orderDraws (b : Bool) :
    (s.withNightFlag b).orderDraws = s.orderDraws := rfl

/-! ### enter -/

@[simp] theorem State.enter_pending (e : Engine) : (s.enter e).pending = s.pending := rfl
@[simp] theorem State.enter_resetLow (e : Engine) : (s.enter e).resetLow = s.resetLow := rfl
@[simp] theorem State.enter_pins (e : Engine) : (s.enter e).pins = s.pins := rfl
@[simp] theorem State.enter_time (e : Engine) : (s.enter e).time = s.time := rfl
@[simp] theorem State.enter_night (e : Engine) : (s.enter e).night = s.night := rfl
@[simp] theorem State.enter_free (e : Engine) : (s.enter e).free = s.free := rfl
@[simp] theorem State.enter_model (e : Engine) : (s.enter e).model = s.model := rfl
@[simp] theorem State.enter_engine (e : Engine) : (s.enter e).engine = e := rfl
@[simp] theorem State.enter_waitReason (e : Engine) : (s.enter e).waitReason = s.waitReason := rfl
@[simp] theorem State.enter_axes (e : Engine) : (s.enter e).axes = s.axes := rfl
@[simp] theorem State.enter_onTarget (e : Engine) : (s.enter e).onTarget = s.onTarget := rfl
@[simp] theorem State.enter_guide (e : Engine) : (s.enter e).guide = s.guide := rfl
@[simp] theorem State.enter_enclosure (e : Engine) : (s.enter e).enclosure = s.enclosure := rfl
@[simp] theorem State.enter_inputs (e : Engine) : (s.enter e).inputs = s.inputs := rfl
@[simp] theorem State.enter_steps (e : Engine) : (s.enter e).steps = s.steps := rfl
@[simp] theorem State.enter_enable (e : Engine) : (s.enter e).enable = e.drivesOn := rfl
@[simp] theorem State.enter_lines (e : Engine) : (s.enter e).lines = s.lines := rfl
@[simp] theorem State.enter_faults (e : Engine) : (s.enter e).faults = s.faults := rfl
@[simp] theorem State.enter_notices (e : Engine) : (s.enter e).notices = s.notices := rfl
@[simp] theorem State.enter_ports (e : Engine) : (s.enter e).ports = s.ports := rfl
@[simp] theorem State.enter_inForce (e : Engine) : (s.enter e).inForce = s.inForce := rfl
@[simp] theorem State.enter_pendingItems (e : Engine) : (s.enter e).pendingItems = s.pendingItems := rfl
@[simp] theorem State.enter_expiries (e : Engine) : (s.enter e).expiries = s.expiries := rfl
@[simp] theorem State.enter_orderDraws (e : Engine) : (s.enter e).orderDraws = s.orderDraws := rfl

/-! ### withReason -/

@[simp] theorem State.withReason_pending (r : Option WaitReason) :
    (s.withReason r).pending = s.pending := rfl
@[simp] theorem State.withReason_resetLow (r : Option WaitReason) :
    (s.withReason r).resetLow = s.resetLow := rfl
@[simp] theorem State.withReason_pins (r : Option WaitReason) : (s.withReason r).pins = s.pins := rfl
@[simp] theorem State.withReason_time (r : Option WaitReason) : (s.withReason r).time = s.time := rfl
@[simp] theorem State.withReason_night (r : Option WaitReason) : (s.withReason r).night = s.night := rfl
@[simp] theorem State.withReason_free (r : Option WaitReason) : (s.withReason r).free = s.free := rfl
@[simp] theorem State.withReason_model (r : Option WaitReason) : (s.withReason r).model = s.model := rfl
@[simp] theorem State.withReason_engine (r : Option WaitReason) : (s.withReason r).engine = s.engine := rfl
@[simp] theorem State.withReason_waitReason (r : Option WaitReason) : (s.withReason r).waitReason = r := rfl
@[simp] theorem State.withReason_axes (r : Option WaitReason) : (s.withReason r).axes = s.axes := rfl
@[simp] theorem State.withReason_onTarget (r : Option WaitReason) :
    (s.withReason r).onTarget = s.onTarget := rfl
@[simp] theorem State.withReason_guide (r : Option WaitReason) : (s.withReason r).guide = s.guide := rfl
@[simp] theorem State.withReason_enclosure (r : Option WaitReason) :
    (s.withReason r).enclosure = s.enclosure := rfl
@[simp] theorem State.withReason_inputs (r : Option WaitReason) : (s.withReason r).inputs = s.inputs := rfl
@[simp] theorem State.withReason_steps (r : Option WaitReason) : (s.withReason r).steps = s.steps := rfl
@[simp] theorem State.withReason_enable (r : Option WaitReason) : (s.withReason r).enable = s.enable := rfl
@[simp] theorem State.withReason_lines (r : Option WaitReason) : (s.withReason r).lines = s.lines := rfl
@[simp] theorem State.withReason_faults (r : Option WaitReason) : (s.withReason r).faults = s.faults := rfl
@[simp] theorem State.withReason_notices (r : Option WaitReason) :
    (s.withReason r).notices = s.notices := rfl
@[simp] theorem State.withReason_ports (r : Option WaitReason) : (s.withReason r).ports = s.ports := rfl
@[simp] theorem State.withReason_inForce (r : Option WaitReason) :
    (s.withReason r).inForce = s.inForce := rfl
@[simp] theorem State.withReason_pendingItems (r : Option WaitReason) :
    (s.withReason r).pendingItems = s.pendingItems := rfl
@[simp] theorem State.withReason_expiries (r : Option WaitReason) :
    (s.withReason r).expiries = s.expiries := rfl
@[simp] theorem State.withReason_orderDraws (r : Option WaitReason) :
    (s.withReason r).orderDraws = s.orderDraws := rfl

/-! ### withGuide -/

@[simp] theorem State.withGuide_pending (g : Guide) : (s.withGuide g).pending = s.pending := rfl
@[simp] theorem State.withGuide_resetLow (g : Guide) : (s.withGuide g).resetLow = s.resetLow := rfl
@[simp] theorem State.withGuide_pins (g : Guide) : (s.withGuide g).pins = s.pins := rfl
@[simp] theorem State.withGuide_time (g : Guide) : (s.withGuide g).time = s.time := rfl
@[simp] theorem State.withGuide_night (g : Guide) : (s.withGuide g).night = s.night := rfl
@[simp] theorem State.withGuide_free (g : Guide) : (s.withGuide g).free = s.free := rfl
@[simp] theorem State.withGuide_model (g : Guide) : (s.withGuide g).model = s.model := rfl
@[simp] theorem State.withGuide_engine (g : Guide) : (s.withGuide g).engine = s.engine := rfl
@[simp] theorem State.withGuide_waitReason (g : Guide) : (s.withGuide g).waitReason = s.waitReason := rfl
@[simp] theorem State.withGuide_axes (g : Guide) : (s.withGuide g).axes = s.axes := rfl
@[simp] theorem State.withGuide_onTarget (g : Guide) : (s.withGuide g).onTarget = s.onTarget := rfl
@[simp] theorem State.withGuide_guide (g : Guide) : (s.withGuide g).guide = g := rfl
@[simp] theorem State.withGuide_enclosure (g : Guide) : (s.withGuide g).enclosure = s.enclosure := rfl
@[simp] theorem State.withGuide_inputs (g : Guide) : (s.withGuide g).inputs = s.inputs := rfl
@[simp] theorem State.withGuide_steps (g : Guide) : (s.withGuide g).steps = s.steps := rfl
@[simp] theorem State.withGuide_enable (g : Guide) : (s.withGuide g).enable = s.enable := rfl
@[simp] theorem State.withGuide_lines (g : Guide) : (s.withGuide g).lines = s.lines := rfl
@[simp] theorem State.withGuide_faults (g : Guide) : (s.withGuide g).faults = s.faults := rfl
@[simp] theorem State.withGuide_notices (g : Guide) : (s.withGuide g).notices = s.notices := rfl
@[simp] theorem State.withGuide_ports (g : Guide) : (s.withGuide g).ports = s.ports := rfl
@[simp] theorem State.withGuide_inForce (g : Guide) : (s.withGuide g).inForce = s.inForce := rfl
@[simp] theorem State.withGuide_pendingItems (g : Guide) :
    (s.withGuide g).pendingItems = s.pendingItems := rfl
@[simp] theorem State.withGuide_expiries (g : Guide) : (s.withGuide g).expiries = s.expiries := rfl
@[simp] theorem State.withGuide_orderDraws (g : Guide) : (s.withGuide g).orderDraws = s.orderDraws := rfl

/-! ### withGuideState -/

@[simp] theorem State.withGuideState_pending (g : GuideState) :
    (s.withGuideState g).pending = s.pending := rfl
@[simp] theorem State.withGuideState_resetLow (g : GuideState) :
    (s.withGuideState g).resetLow = s.resetLow := rfl
@[simp] theorem State.withGuideState_pins (g : GuideState) : (s.withGuideState g).pins = s.pins := rfl
@[simp] theorem State.withGuideState_time (g : GuideState) : (s.withGuideState g).time = s.time := rfl
@[simp] theorem State.withGuideState_night (g : GuideState) : (s.withGuideState g).night = s.night := rfl
@[simp] theorem State.withGuideState_free (g : GuideState) : (s.withGuideState g).free = s.free := rfl
@[simp] theorem State.withGuideState_model (g : GuideState) : (s.withGuideState g).model = s.model := rfl
@[simp] theorem State.withGuideState_engine (g : GuideState) : (s.withGuideState g).engine = s.engine := rfl
@[simp] theorem State.withGuideState_waitReason (g : GuideState) :
    (s.withGuideState g).waitReason = s.waitReason := rfl
@[simp] theorem State.withGuideState_axes (g : GuideState) : (s.withGuideState g).axes = s.axes := rfl
@[simp] theorem State.withGuideState_onTarget (g : GuideState) :
    (s.withGuideState g).onTarget = s.onTarget := rfl
@[simp] theorem State.withGuideState_guide (g : GuideState) :
    (s.withGuideState g).guide = { s.guide with state := g } := rfl
@[simp] theorem State.withGuideState_enclosure (g : GuideState) :
    (s.withGuideState g).enclosure = s.enclosure := rfl
@[simp] theorem State.withGuideState_inputs (g : GuideState) : (s.withGuideState g).inputs = s.inputs := rfl
@[simp] theorem State.withGuideState_steps (g : GuideState) : (s.withGuideState g).steps = s.steps := rfl
@[simp] theorem State.withGuideState_enable (g : GuideState) : (s.withGuideState g).enable = s.enable := rfl
@[simp] theorem State.withGuideState_lines (g : GuideState) : (s.withGuideState g).lines = s.lines := rfl
@[simp] theorem State.withGuideState_faults (g : GuideState) : (s.withGuideState g).faults = s.faults := rfl
@[simp] theorem State.withGuideState_notices (g : GuideState) :
    (s.withGuideState g).notices = s.notices := rfl
@[simp] theorem State.withGuideState_ports (g : GuideState) : (s.withGuideState g).ports = s.ports := rfl
@[simp] theorem State.withGuideState_inForce (g : GuideState) :
    (s.withGuideState g).inForce = s.inForce := rfl
@[simp] theorem State.withGuideState_pendingItems (g : GuideState) :
    (s.withGuideState g).pendingItems = s.pendingItems := rfl
@[simp] theorem State.withGuideState_expiries (g : GuideState) :
    (s.withGuideState g).expiries = s.expiries := rfl
@[simp] theorem State.withGuideState_orderDraws (g : GuideState) :
    (s.withGuideState g).orderDraws = s.orderDraws := rfl

/-! ### withTime -/

@[simp] theorem State.withTime_pending (t : TimeBase) : (s.withTime t).pending = s.pending := rfl
@[simp] theorem State.withTime_resetLow (t : TimeBase) : (s.withTime t).resetLow = s.resetLow := rfl
@[simp] theorem State.withTime_pins (t : TimeBase) : (s.withTime t).pins = s.pins := rfl
@[simp] theorem State.withTime_time (t : TimeBase) : (s.withTime t).time = t := rfl
@[simp] theorem State.withTime_night (t : TimeBase) : (s.withTime t).night = s.night := rfl
@[simp] theorem State.withTime_free (t : TimeBase) : (s.withTime t).free = s.free := rfl
@[simp] theorem State.withTime_model (t : TimeBase) : (s.withTime t).model = s.model := rfl
@[simp] theorem State.withTime_engine (t : TimeBase) : (s.withTime t).engine = s.engine := rfl
@[simp] theorem State.withTime_waitReason (t : TimeBase) : (s.withTime t).waitReason = s.waitReason := rfl
@[simp] theorem State.withTime_axes (t : TimeBase) : (s.withTime t).axes = s.axes := rfl
@[simp] theorem State.withTime_onTarget (t : TimeBase) : (s.withTime t).onTarget = s.onTarget := rfl
@[simp] theorem State.withTime_guide (t : TimeBase) : (s.withTime t).guide = s.guide := rfl
@[simp] theorem State.withTime_enclosure (t : TimeBase) : (s.withTime t).enclosure = s.enclosure := rfl
@[simp] theorem State.withTime_inputs (t : TimeBase) : (s.withTime t).inputs = s.inputs := rfl
@[simp] theorem State.withTime_steps (t : TimeBase) : (s.withTime t).steps = s.steps := rfl
@[simp] theorem State.withTime_enable (t : TimeBase) : (s.withTime t).enable = s.enable := rfl
@[simp] theorem State.withTime_lines (t : TimeBase) : (s.withTime t).lines = s.lines := rfl
@[simp] theorem State.withTime_faults (t : TimeBase) : (s.withTime t).faults = s.faults := rfl
@[simp] theorem State.withTime_notices (t : TimeBase) : (s.withTime t).notices = s.notices := rfl
@[simp] theorem State.withTime_ports (t : TimeBase) : (s.withTime t).ports = s.ports := rfl
@[simp] theorem State.withTime_inForce (t : TimeBase) : (s.withTime t).inForce = s.inForce := rfl
@[simp] theorem State.withTime_pendingItems (t : TimeBase) :
    (s.withTime t).pendingItems = s.pendingItems := rfl
@[simp] theorem State.withTime_expiries (t : TimeBase) : (s.withTime t).expiries = s.expiries := rfl
@[simp] theorem State.withTime_orderDraws (t : TimeBase) : (s.withTime t).orderDraws = s.orderDraws := rfl

/-! ### withModel -/

@[simp] theorem State.withModel_pending (m : ModelTable) : (s.withModel m).pending = s.pending := rfl
@[simp] theorem State.withModel_resetLow (m : ModelTable) : (s.withModel m).resetLow = s.resetLow := rfl
@[simp] theorem State.withModel_pins (m : ModelTable) : (s.withModel m).pins = s.pins := rfl
@[simp] theorem State.withModel_time (m : ModelTable) : (s.withModel m).time = s.time := rfl
@[simp] theorem State.withModel_night (m : ModelTable) : (s.withModel m).night = s.night := rfl
@[simp] theorem State.withModel_free (m : ModelTable) : (s.withModel m).free = s.free := rfl
@[simp] theorem State.withModel_model (m : ModelTable) : (s.withModel m).model = m := rfl
@[simp] theorem State.withModel_engine (m : ModelTable) : (s.withModel m).engine = s.engine := rfl
@[simp] theorem State.withModel_waitReason (m : ModelTable) :
    (s.withModel m).waitReason = s.waitReason := rfl
@[simp] theorem State.withModel_axes (m : ModelTable) : (s.withModel m).axes = s.axes := rfl
@[simp] theorem State.withModel_onTarget (m : ModelTable) : (s.withModel m).onTarget = s.onTarget := rfl
@[simp] theorem State.withModel_guide (m : ModelTable) : (s.withModel m).guide = s.guide := rfl
@[simp] theorem State.withModel_enclosure (m : ModelTable) : (s.withModel m).enclosure = s.enclosure := rfl
@[simp] theorem State.withModel_inputs (m : ModelTable) : (s.withModel m).inputs = s.inputs := rfl
@[simp] theorem State.withModel_steps (m : ModelTable) : (s.withModel m).steps = s.steps := rfl
@[simp] theorem State.withModel_enable (m : ModelTable) : (s.withModel m).enable = s.enable := rfl
@[simp] theorem State.withModel_lines (m : ModelTable) : (s.withModel m).lines = s.lines := rfl
@[simp] theorem State.withModel_faults (m : ModelTable) : (s.withModel m).faults = s.faults := rfl
@[simp] theorem State.withModel_notices (m : ModelTable) : (s.withModel m).notices = s.notices := rfl
@[simp] theorem State.withModel_ports (m : ModelTable) : (s.withModel m).ports = s.ports := rfl
@[simp] theorem State.withModel_inForce (m : ModelTable) : (s.withModel m).inForce = s.inForce := rfl
@[simp] theorem State.withModel_pendingItems (m : ModelTable) :
    (s.withModel m).pendingItems = s.pendingItems := rfl
@[simp] theorem State.withModel_expiries (m : ModelTable) : (s.withModel m).expiries = s.expiries := rfl
@[simp] theorem State.withModel_orderDraws (m : ModelTable) :
    (s.withModel m).orderDraws = s.orderDraws := rfl

/-! ### withParkOwed -/

@[simp] theorem State.withParkOwed_pending (b : Bool) : (s.withParkOwed b).pending = s.pending := rfl
@[simp] theorem State.withParkOwed_resetLow (b : Bool) : (s.withParkOwed b).resetLow = s.resetLow := rfl
@[simp] theorem State.withParkOwed_pins (b : Bool) : (s.withParkOwed b).pins = s.pins := rfl
@[simp] theorem State.withParkOwed_time (b : Bool) : (s.withParkOwed b).time = s.time := rfl
@[simp] theorem State.withParkOwed_night (b : Bool) : (s.withParkOwed b).night = s.night := rfl
@[simp] theorem State.withParkOwed_free (b : Bool) : (s.withParkOwed b).free = s.free := rfl
@[simp] theorem State.withParkOwed_model (b : Bool) : (s.withParkOwed b).model = s.model := rfl
@[simp] theorem State.withParkOwed_engine (b : Bool) : (s.withParkOwed b).engine = s.engine := rfl
@[simp] theorem State.withParkOwed_waitReason (b : Bool) :
    (s.withParkOwed b).waitReason = s.waitReason := rfl
@[simp] theorem State.withParkOwed_axes (b : Bool) : (s.withParkOwed b).axes = s.axes := rfl
@[simp] theorem State.withParkOwed_onTarget (b : Bool) : (s.withParkOwed b).onTarget = s.onTarget := rfl
@[simp] theorem State.withParkOwed_guide (b : Bool) : (s.withParkOwed b).guide = s.guide := rfl
@[simp] theorem State.withParkOwed_enclosure (b : Bool) :
    (s.withParkOwed b).enclosure = { s.enclosure with parkOwed := b } := rfl
@[simp] theorem State.withParkOwed_inputs (b : Bool) : (s.withParkOwed b).inputs = s.inputs := rfl
@[simp] theorem State.withParkOwed_steps (b : Bool) : (s.withParkOwed b).steps = s.steps := rfl
@[simp] theorem State.withParkOwed_enable (b : Bool) : (s.withParkOwed b).enable = s.enable := rfl
@[simp] theorem State.withParkOwed_lines (b : Bool) : (s.withParkOwed b).lines = s.lines := rfl
@[simp] theorem State.withParkOwed_faults (b : Bool) : (s.withParkOwed b).faults = s.faults := rfl
@[simp] theorem State.withParkOwed_notices (b : Bool) : (s.withParkOwed b).notices = s.notices := rfl
@[simp] theorem State.withParkOwed_ports (b : Bool) : (s.withParkOwed b).ports = s.ports := rfl
@[simp] theorem State.withParkOwed_inForce (b : Bool) : (s.withParkOwed b).inForce = s.inForce := rfl
@[simp] theorem State.withParkOwed_pendingItems (b : Bool) :
    (s.withParkOwed b).pendingItems = s.pendingItems := rfl
@[simp] theorem State.withParkOwed_expiries (b : Bool) : (s.withParkOwed b).expiries = s.expiries := rfl
@[simp] theorem State.withParkOwed_orderDraws (b : Bool) :
    (s.withParkOwed b).orderDraws = s.orderDraws := rfl

/-! ### withLine -/

@[simp] theorem State.withLine_pending (id : LineId) (l : EventLine) :
    (s.withLine id l).pending = s.pending := rfl
@[simp] theorem State.withLine_resetLow (id : LineId) (l : EventLine) :
    (s.withLine id l).resetLow = s.resetLow := rfl
@[simp] theorem State.withLine_pins (id : LineId) (l : EventLine) : (s.withLine id l).pins = s.pins := rfl
@[simp] theorem State.withLine_time (id : LineId) (l : EventLine) : (s.withLine id l).time = s.time := rfl
@[simp] theorem State.withLine_night (id : LineId) (l : EventLine) : (s.withLine id l).night = s.night := rfl
@[simp] theorem State.withLine_free (id : LineId) (l : EventLine) : (s.withLine id l).free = s.free := rfl
@[simp] theorem State.withLine_model (id : LineId) (l : EventLine) : (s.withLine id l).model = s.model := rfl
@[simp] theorem State.withLine_engine (id : LineId) (l : EventLine) :
    (s.withLine id l).engine = s.engine := rfl
@[simp] theorem State.withLine_waitReason (id : LineId) (l : EventLine) :
    (s.withLine id l).waitReason = s.waitReason := rfl
@[simp] theorem State.withLine_axes (id : LineId) (l : EventLine) : (s.withLine id l).axes = s.axes := rfl
@[simp] theorem State.withLine_onTarget (id : LineId) (l : EventLine) :
    (s.withLine id l).onTarget = s.onTarget := rfl
@[simp] theorem State.withLine_guide (id : LineId) (l : EventLine) : (s.withLine id l).guide = s.guide := rfl
@[simp] theorem State.withLine_enclosure (id : LineId) (l : EventLine) :
    (s.withLine id l).enclosure = s.enclosure := rfl
@[simp] theorem State.withLine_inputs (id : LineId) (l : EventLine) :
    (s.withLine id l).inputs = s.inputs := rfl
@[simp] theorem State.withLine_steps (id : LineId) (l : EventLine) : (s.withLine id l).steps = s.steps := rfl
@[simp] theorem State.withLine_enable (id : LineId) (l : EventLine) :
    (s.withLine id l).enable = s.enable := rfl
@[simp] theorem State.withLine_lines (id : LineId) (l : EventLine) :
    (s.withLine id l).lines = s.lines.set id l := rfl
@[simp] theorem State.withLine_faults (id : LineId) (l : EventLine) :
    (s.withLine id l).faults = s.faults := rfl
@[simp] theorem State.withLine_notices (id : LineId) (l : EventLine) :
    (s.withLine id l).notices = s.notices := rfl
@[simp] theorem State.withLine_ports (id : LineId) (l : EventLine) : (s.withLine id l).ports = s.ports := rfl
@[simp] theorem State.withLine_inForce (id : LineId) (l : EventLine) :
    (s.withLine id l).inForce = s.inForce := rfl
@[simp] theorem State.withLine_pendingItems (id : LineId) (l : EventLine) :
    (s.withLine id l).pendingItems = s.pendingItems := rfl
@[simp] theorem State.withLine_expiries (id : LineId) (l : EventLine) :
    (s.withLine id l).expiries = s.expiries := rfl
@[simp] theorem State.withLine_orderDraws (id : LineId) (l : EventLine) :
    (s.withLine id l).orderDraws = s.orderDraws := rfl

/-! ### withHost -/

@[simp] theorem State.withHost_pending (h : Axes Int) : (s.withHost h).pending = s.pending := rfl
@[simp] theorem State.withHost_resetLow (h : Axes Int) : (s.withHost h).resetLow = s.resetLow := rfl
@[simp] theorem State.withHost_pins (h : Axes Int) : (s.withHost h).pins = s.pins := rfl
@[simp] theorem State.withHost_time (h : Axes Int) : (s.withHost h).time = s.time := rfl
@[simp] theorem State.withHost_night (h : Axes Int) : (s.withHost h).night = s.night := rfl
@[simp] theorem State.withHost_free (h : Axes Int) : (s.withHost h).free = s.free := rfl
@[simp] theorem State.withHost_model (h : Axes Int) : (s.withHost h).model = s.model := rfl
@[simp] theorem State.withHost_engine (h : Axes Int) : (s.withHost h).engine = s.engine := rfl
@[simp] theorem State.withHost_waitReason (h : Axes Int) : (s.withHost h).waitReason = s.waitReason := rfl
@[simp] theorem State.withHost_axes (h : Axes Int) :
    (s.withHost h).axes = h.map₂ (fun v a => { a with host := v }) s.axes := rfl
@[simp] theorem State.withHost_onTarget (h : Axes Int) : (s.withHost h).onTarget = s.onTarget := rfl
@[simp] theorem State.withHost_guide (h : Axes Int) : (s.withHost h).guide = s.guide := rfl
@[simp] theorem State.withHost_enclosure (h : Axes Int) : (s.withHost h).enclosure = s.enclosure := rfl
@[simp] theorem State.withHost_inputs (h : Axes Int) : (s.withHost h).inputs = s.inputs := rfl
@[simp] theorem State.withHost_steps (h : Axes Int) : (s.withHost h).steps = s.steps := rfl
@[simp] theorem State.withHost_enable (h : Axes Int) : (s.withHost h).enable = s.enable := rfl
@[simp] theorem State.withHost_lines (h : Axes Int) : (s.withHost h).lines = s.lines := rfl
@[simp] theorem State.withHost_faults (h : Axes Int) : (s.withHost h).faults = s.faults := rfl
@[simp] theorem State.withHost_notices (h : Axes Int) : (s.withHost h).notices = s.notices := rfl
@[simp] theorem State.withHost_ports (h : Axes Int) : (s.withHost h).ports = s.ports := rfl
@[simp] theorem State.withHost_inForce (h : Axes Int) : (s.withHost h).inForce = s.inForce := rfl
@[simp] theorem State.withHost_pendingItems (h : Axes Int) :
    (s.withHost h).pendingItems = s.pendingItems := rfl
@[simp] theorem State.withHost_expiries (h : Axes Int) : (s.withHost h).expiries = s.expiries := rfl
@[simp] theorem State.withHost_orderDraws (h : Axes Int) : (s.withHost h).orderDraws = s.orderDraws := rfl

/-! ### withMotions -/

@[simp] theorem State.withMotions_pending (m : Axes Motion) : (s.withMotions m).pending = s.pending := rfl
@[simp] theorem State.withMotions_resetLow (m : Axes Motion) : (s.withMotions m).resetLow = s.resetLow := rfl
@[simp] theorem State.withMotions_pins (m : Axes Motion) : (s.withMotions m).pins = s.pins := rfl
@[simp] theorem State.withMotions_time (m : Axes Motion) : (s.withMotions m).time = s.time := rfl
@[simp] theorem State.withMotions_night (m : Axes Motion) : (s.withMotions m).night = s.night := rfl
@[simp] theorem State.withMotions_free (m : Axes Motion) : (s.withMotions m).free = s.free := rfl
@[simp] theorem State.withMotions_model (m : Axes Motion) : (s.withMotions m).model = s.model := rfl
@[simp] theorem State.withMotions_engine (m : Axes Motion) : (s.withMotions m).engine = s.engine := rfl
@[simp] theorem State.withMotions_waitReason (m : Axes Motion) :
    (s.withMotions m).waitReason = s.waitReason := rfl
@[simp] theorem State.withMotions_axes (m : Axes Motion) :
    (s.withMotions m).axes = s.axes.map₂ AxisState.withMotion m := rfl
@[simp] theorem State.withMotions_onTarget (m : Axes Motion) : (s.withMotions m).onTarget = s.onTarget := rfl
@[simp] theorem State.withMotions_guide (m : Axes Motion) : (s.withMotions m).guide = s.guide := rfl
@[simp] theorem State.withMotions_enclosure (m : Axes Motion) :
    (s.withMotions m).enclosure = s.enclosure := rfl
@[simp] theorem State.withMotions_inputs (m : Axes Motion) : (s.withMotions m).inputs = s.inputs := rfl
@[simp] theorem State.withMotions_steps (m : Axes Motion) : (s.withMotions m).steps = s.steps := rfl
@[simp] theorem State.withMotions_enable (m : Axes Motion) : (s.withMotions m).enable = s.enable := rfl
@[simp] theorem State.withMotions_lines (m : Axes Motion) : (s.withMotions m).lines = s.lines := rfl
@[simp] theorem State.withMotions_faults (m : Axes Motion) : (s.withMotions m).faults = s.faults := rfl
@[simp] theorem State.withMotions_notices (m : Axes Motion) : (s.withMotions m).notices = s.notices := rfl
@[simp] theorem State.withMotions_ports (m : Axes Motion) : (s.withMotions m).ports = s.ports := rfl
@[simp] theorem State.withMotions_inForce (m : Axes Motion) : (s.withMotions m).inForce = s.inForce := rfl
@[simp] theorem State.withMotions_pendingItems (m : Axes Motion) :
    (s.withMotions m).pendingItems = s.pendingItems := rfl
@[simp] theorem State.withMotions_expiries (m : Axes Motion) : (s.withMotions m).expiries = s.expiries := rfl
@[simp] theorem State.withMotions_orderDraws (m : Axes Motion) :
    (s.withMotions m).orderDraws = s.orderDraws := rfl

/-! ### onPort -/

@[simp] theorem State.onPort_pending (l : Link) (f : Port → Port) : (s.onPort l f).pending = s.pending := rfl
@[simp] theorem State.onPort_resetLow (l : Link) (f : Port → Port) :
    (s.onPort l f).resetLow = s.resetLow := rfl
@[simp] theorem State.onPort_pins (l : Link) (f : Port → Port) : (s.onPort l f).pins = s.pins := rfl
@[simp] theorem State.onPort_time (l : Link) (f : Port → Port) : (s.onPort l f).time = s.time := rfl
@[simp] theorem State.onPort_night (l : Link) (f : Port → Port) : (s.onPort l f).night = s.night := rfl
@[simp] theorem State.onPort_free (l : Link) (f : Port → Port) : (s.onPort l f).free = s.free := rfl
@[simp] theorem State.onPort_model (l : Link) (f : Port → Port) : (s.onPort l f).model = s.model := rfl
@[simp] theorem State.onPort_engine (l : Link) (f : Port → Port) : (s.onPort l f).engine = s.engine := rfl
@[simp] theorem State.onPort_waitReason (l : Link) (f : Port → Port) :
    (s.onPort l f).waitReason = s.waitReason := rfl
@[simp] theorem State.onPort_axes (l : Link) (f : Port → Port) : (s.onPort l f).axes = s.axes := rfl
@[simp] theorem State.onPort_onTarget (l : Link) (f : Port → Port) :
    (s.onPort l f).onTarget = s.onTarget := rfl
@[simp] theorem State.onPort_guide (l : Link) (f : Port → Port) : (s.onPort l f).guide = s.guide := rfl
@[simp] theorem State.onPort_enclosure (l : Link) (f : Port → Port) :
    (s.onPort l f).enclosure = s.enclosure := rfl
@[simp] theorem State.onPort_inputs (l : Link) (f : Port → Port) : (s.onPort l f).inputs = s.inputs := rfl
@[simp] theorem State.onPort_steps (l : Link) (f : Port → Port) : (s.onPort l f).steps = s.steps := rfl
@[simp] theorem State.onPort_enable (l : Link) (f : Port → Port) : (s.onPort l f).enable = s.enable := rfl
@[simp] theorem State.onPort_lines (l : Link) (f : Port → Port) : (s.onPort l f).lines = s.lines := rfl
@[simp] theorem State.onPort_faults (l : Link) (f : Port → Port) : (s.onPort l f).faults = s.faults := rfl
@[simp] theorem State.onPort_notices (l : Link) (f : Port → Port) : (s.onPort l f).notices = s.notices := rfl
@[simp] theorem State.onPort_ports (l : Link) (f : Port → Port) :
    (s.onPort l f).ports = s.ports.set l (f (s.ports.get l)) := rfl
@[simp] theorem State.onPort_inForce (l : Link) (f : Port → Port) : (s.onPort l f).inForce = s.inForce := rfl
@[simp] theorem State.onPort_pendingItems (l : Link) (f : Port → Port) :
    (s.onPort l f).pendingItems = s.pendingItems := rfl
@[simp] theorem State.onPort_expiries (l : Link) (f : Port → Port) :
    (s.onPort l f).expiries = s.expiries := rfl
@[simp] theorem State.onPort_orderDraws (l : Link) (f : Port → Port) :
    (s.onPort l f).orderDraws = s.orderDraws := rfl

/-! ### onBox -/

@[simp] theorem State.onBox_pending (l : Link) (f : NoticeBox → NoticeBox) :
    (s.onBox l f).pending = s.pending := rfl
@[simp] theorem State.onBox_resetLow (l : Link) (f : NoticeBox → NoticeBox) :
    (s.onBox l f).resetLow = s.resetLow := rfl
@[simp] theorem State.onBox_pins (l : Link) (f : NoticeBox → NoticeBox) : (s.onBox l f).pins = s.pins := rfl
@[simp] theorem State.onBox_time (l : Link) (f : NoticeBox → NoticeBox) : (s.onBox l f).time = s.time := rfl
@[simp] theorem State.onBox_night (l : Link) (f : NoticeBox → NoticeBox) :
    (s.onBox l f).night = s.night := rfl
@[simp] theorem State.onBox_free (l : Link) (f : NoticeBox → NoticeBox) : (s.onBox l f).free = s.free := rfl
@[simp] theorem State.onBox_model (l : Link) (f : NoticeBox → NoticeBox) :
    (s.onBox l f).model = s.model := rfl
@[simp] theorem State.onBox_engine (l : Link) (f : NoticeBox → NoticeBox) :
    (s.onBox l f).engine = s.engine := rfl
@[simp] theorem State.onBox_waitReason (l : Link) (f : NoticeBox → NoticeBox) :
    (s.onBox l f).waitReason = s.waitReason := rfl
@[simp] theorem State.onBox_axes (l : Link) (f : NoticeBox → NoticeBox) : (s.onBox l f).axes = s.axes := rfl
@[simp] theorem State.onBox_onTarget (l : Link) (f : NoticeBox → NoticeBox) :
    (s.onBox l f).onTarget = s.onTarget := rfl
@[simp] theorem State.onBox_guide (l : Link) (f : NoticeBox → NoticeBox) :
    (s.onBox l f).guide = s.guide := rfl
@[simp] theorem State.onBox_enclosure (l : Link) (f : NoticeBox → NoticeBox) :
    (s.onBox l f).enclosure = s.enclosure := rfl
@[simp] theorem State.onBox_inputs (l : Link) (f : NoticeBox → NoticeBox) :
    (s.onBox l f).inputs = s.inputs := rfl
@[simp] theorem State.onBox_steps (l : Link) (f : NoticeBox → NoticeBox) :
    (s.onBox l f).steps = s.steps := rfl
@[simp] theorem State.onBox_enable (l : Link) (f : NoticeBox → NoticeBox) :
    (s.onBox l f).enable = s.enable := rfl
@[simp] theorem State.onBox_lines (l : Link) (f : NoticeBox → NoticeBox) :
    (s.onBox l f).lines = s.lines := rfl
@[simp] theorem State.onBox_faults (l : Link) (f : NoticeBox → NoticeBox) :
    (s.onBox l f).faults = s.faults := rfl
@[simp] theorem State.onBox_notices (l : Link) (f : NoticeBox → NoticeBox) :
    (s.onBox l f).notices = { s.notices with boxes := s.notices.boxes.set l (f (s.notices.boxes.get l)) } := rfl
@[simp] theorem State.onBox_ports (l : Link) (f : NoticeBox → NoticeBox) :
    (s.onBox l f).ports = s.ports := rfl
@[simp] theorem State.onBox_inForce (l : Link) (f : NoticeBox → NoticeBox) :
    (s.onBox l f).inForce = s.inForce := rfl
@[simp] theorem State.onBox_pendingItems (l : Link) (f : NoticeBox → NoticeBox) :
    (s.onBox l f).pendingItems = s.pendingItems := rfl
@[simp] theorem State.onBox_expiries (l : Link) (f : NoticeBox → NoticeBox) :
    (s.onBox l f).expiries = s.expiries := rfl
@[simp] theorem State.onBox_orderDraws (l : Link) (f : NoticeBox → NoticeBox) :
    (s.onBox l f).orderDraws = s.orderDraws := rfl

/-! ### foldAxes -/

@[simp] theorem State.foldAxes_pending : s.foldAxes.pending = s.pending := rfl
@[simp] theorem State.foldAxes_resetLow : s.foldAxes.resetLow = s.resetLow := rfl
@[simp] theorem State.foldAxes_pins : s.foldAxes.pins = s.pins := rfl
@[simp] theorem State.foldAxes_time : s.foldAxes.time = s.time := rfl
@[simp] theorem State.foldAxes_night : s.foldAxes.night = s.night := rfl
@[simp] theorem State.foldAxes_free : s.foldAxes.free = s.free := rfl
@[simp] theorem State.foldAxes_model : s.foldAxes.model = s.model := rfl
@[simp] theorem State.foldAxes_engine : s.foldAxes.engine = s.engine := rfl
@[simp] theorem State.foldAxes_waitReason : s.foldAxes.waitReason = s.waitReason := rfl
@[simp] theorem State.foldAxes_axes : s.foldAxes.axes = s.axes.map AxisState.fold := rfl
@[simp] theorem State.foldAxes_onTarget : s.foldAxes.onTarget = s.onTarget := rfl
@[simp] theorem State.foldAxes_guide : s.foldAxes.guide = s.guide := rfl
@[simp] theorem State.foldAxes_enclosure : s.foldAxes.enclosure = s.enclosure := rfl
@[simp] theorem State.foldAxes_inputs : s.foldAxes.inputs = s.inputs := rfl
@[simp] theorem State.foldAxes_steps : s.foldAxes.steps = s.steps := rfl
@[simp] theorem State.foldAxes_enable : s.foldAxes.enable = s.enable := rfl
@[simp] theorem State.foldAxes_lines : s.foldAxes.lines = s.lines := rfl
@[simp] theorem State.foldAxes_faults : s.foldAxes.faults = s.faults := rfl
@[simp] theorem State.foldAxes_notices : s.foldAxes.notices = s.notices := rfl
@[simp] theorem State.foldAxes_ports : s.foldAxes.ports = s.ports := rfl
@[simp] theorem State.foldAxes_inForce : s.foldAxes.inForce = s.inForce := rfl
@[simp] theorem State.foldAxes_pendingItems : s.foldAxes.pendingItems = s.pendingItems := rfl
@[simp] theorem State.foldAxes_expiries : s.foldAxes.expiries = s.expiries := rfl
@[simp] theorem State.foldAxes_orderDraws : s.foldAxes.orderDraws = s.orderDraws := rfl

/-! ### zeroGuide -/

@[simp] theorem State.zeroGuide_pending : s.zeroGuide.pending = s.pending := rfl
@[simp] theorem State.zeroGuide_resetLow : s.zeroGuide.resetLow = s.resetLow := rfl
@[simp] theorem State.zeroGuide_pins : s.zeroGuide.pins = s.pins := rfl
@[simp] theorem State.zeroGuide_time : s.zeroGuide.time = s.time := rfl
@[simp] theorem State.zeroGuide_night : s.zeroGuide.night = s.night := rfl
@[simp] theorem State.zeroGuide_free : s.zeroGuide.free = s.free := rfl
@[simp] theorem State.zeroGuide_model : s.zeroGuide.model = s.model := rfl
@[simp] theorem State.zeroGuide_engine : s.zeroGuide.engine = s.engine := rfl
@[simp] theorem State.zeroGuide_waitReason : s.zeroGuide.waitReason = s.waitReason := rfl
@[simp] theorem State.zeroGuide_axes : s.zeroGuide.axes = s.axes := rfl
@[simp] theorem State.zeroGuide_onTarget : s.zeroGuide.onTarget = s.onTarget := rfl
@[simp] theorem State.zeroGuide_guide : s.zeroGuide.guide = { s.guide with offset := ⟨0, 0⟩ } := rfl
@[simp] theorem State.zeroGuide_enclosure : s.zeroGuide.enclosure = s.enclosure := rfl
@[simp] theorem State.zeroGuide_inputs : s.zeroGuide.inputs = s.inputs := rfl
@[simp] theorem State.zeroGuide_steps : s.zeroGuide.steps = s.steps := rfl
@[simp] theorem State.zeroGuide_enable : s.zeroGuide.enable = s.enable := rfl
@[simp] theorem State.zeroGuide_lines : s.zeroGuide.lines = s.lines := rfl
@[simp] theorem State.zeroGuide_faults : s.zeroGuide.faults = s.faults := rfl
@[simp] theorem State.zeroGuide_notices : s.zeroGuide.notices = s.notices := rfl
@[simp] theorem State.zeroGuide_ports : s.zeroGuide.ports = s.ports := rfl
@[simp] theorem State.zeroGuide_inForce : s.zeroGuide.inForce = s.inForce := rfl
@[simp] theorem State.zeroGuide_pendingItems : s.zeroGuide.pendingItems = s.pendingItems := rfl
@[simp] theorem State.zeroGuide_expiries : s.zeroGuide.expiries = s.expiries := rfl
@[simp] theorem State.zeroGuide_orderDraws : s.zeroGuide.orderDraws = s.orderDraws := rfl

/-! ### dropPulses -/

@[simp] theorem State.dropPulses_pending : s.dropPulses.pending = s.pending := rfl
@[simp] theorem State.dropPulses_resetLow : s.dropPulses.resetLow = s.resetLow := rfl
@[simp] theorem State.dropPulses_pins : s.dropPulses.pins = s.pins := rfl
@[simp] theorem State.dropPulses_time : s.dropPulses.time = s.time := rfl
@[simp] theorem State.dropPulses_night : s.dropPulses.night = s.night := rfl
@[simp] theorem State.dropPulses_free : s.dropPulses.free = s.free := rfl
@[simp] theorem State.dropPulses_model : s.dropPulses.model = s.model := rfl
@[simp] theorem State.dropPulses_engine : s.dropPulses.engine = s.engine := rfl
@[simp] theorem State.dropPulses_waitReason : s.dropPulses.waitReason = s.waitReason := rfl
@[simp] theorem State.dropPulses_axes : s.dropPulses.axes = s.axes := rfl
@[simp] theorem State.dropPulses_onTarget : s.dropPulses.onTarget = s.onTarget := rfl
@[simp] theorem State.dropPulses_guide : s.dropPulses.guide = s.guide := rfl
@[simp] theorem State.dropPulses_enclosure : s.dropPulses.enclosure = s.enclosure := rfl
@[simp] theorem State.dropPulses_inputs : s.dropPulses.inputs = s.inputs := rfl
@[simp] theorem State.dropPulses_steps : s.dropPulses.steps = s.steps.map StepOut.drop := rfl
@[simp] theorem State.dropPulses_enable : s.dropPulses.enable = s.enable := rfl
@[simp] theorem State.dropPulses_lines : s.dropPulses.lines = s.lines := rfl
@[simp] theorem State.dropPulses_faults : s.dropPulses.faults = s.faults := rfl
@[simp] theorem State.dropPulses_notices : s.dropPulses.notices = s.notices := rfl
@[simp] theorem State.dropPulses_ports : s.dropPulses.ports = s.ports := rfl
@[simp] theorem State.dropPulses_inForce : s.dropPulses.inForce = s.inForce := rfl
@[simp] theorem State.dropPulses_pendingItems : s.dropPulses.pendingItems = s.pendingItems := rfl
@[simp] theorem State.dropPulses_expiries : s.dropPulses.expiries = s.expiries := rfl
@[simp] theorem State.dropPulses_orderDraws : s.dropPulses.orderDraws = s.orderDraws := rfl

/-! ### raise -/

@[simp] theorem State.raise_pending (k : Notice) : (State.raise k s).pending = s.pending := rfl
@[simp] theorem State.raise_resetLow (k : Notice) : (State.raise k s).resetLow = s.resetLow := rfl
@[simp] theorem State.raise_pins (k : Notice) : (State.raise k s).pins = s.pins := rfl
@[simp] theorem State.raise_time (k : Notice) : (State.raise k s).time = s.time := rfl
@[simp] theorem State.raise_night (k : Notice) : (State.raise k s).night = s.night := rfl
@[simp] theorem State.raise_free (k : Notice) : (State.raise k s).free = s.free := rfl
@[simp] theorem State.raise_model (k : Notice) : (State.raise k s).model = s.model := rfl
@[simp] theorem State.raise_engine (k : Notice) : (State.raise k s).engine = s.engine := rfl
@[simp] theorem State.raise_waitReason (k : Notice) : (State.raise k s).waitReason = s.waitReason := rfl
@[simp] theorem State.raise_axes (k : Notice) : (State.raise k s).axes = s.axes := rfl
@[simp] theorem State.raise_onTarget (k : Notice) : (State.raise k s).onTarget = s.onTarget := rfl
@[simp] theorem State.raise_guide (k : Notice) : (State.raise k s).guide = s.guide := rfl
@[simp] theorem State.raise_enclosure (k : Notice) : (State.raise k s).enclosure = s.enclosure := rfl
@[simp] theorem State.raise_inputs (k : Notice) : (State.raise k s).inputs = s.inputs := rfl
@[simp] theorem State.raise_steps (k : Notice) : (State.raise k s).steps = s.steps := rfl
@[simp] theorem State.raise_enable (k : Notice) : (State.raise k s).enable = s.enable := rfl
@[simp] theorem State.raise_lines (k : Notice) : (State.raise k s).lines = s.lines := rfl
@[simp] theorem State.raise_faults (k : Notice) : (State.raise k s).faults = s.faults := rfl
@[simp] theorem State.raise_notices (k : Notice) :
    (State.raise k s).notices = { s.notices with boxes := s.notices.boxes.map (NoticeBox.raise k) } := rfl
@[simp] theorem State.raise_ports (k : Notice) : (State.raise k s).ports = s.ports := rfl
@[simp] theorem State.raise_inForce (k : Notice) : (State.raise k s).inForce = s.inForce := rfl
@[simp] theorem State.raise_pendingItems (k : Notice) :
    (State.raise k s).pendingItems = s.pendingItems := rfl
@[simp] theorem State.raise_expiries (k : Notice) : (State.raise k s).expiries = s.expiries := rfl
@[simp] theorem State.raise_orderDraws (k : Notice) : (State.raise k s).orderDraws = s.orderDraws := rfl

/-! ### give -/

@[simp] theorem State.give_pending (x : Source) : (State.give x s).pending = s.pending := rfl
@[simp] theorem State.give_resetLow (x : Source) : (State.give x s).resetLow = s.resetLow := rfl
@[simp] theorem State.give_pins (x : Source) : (State.give x s).pins = s.pins := rfl
@[simp] theorem State.give_time (x : Source) : (State.give x s).time = s.time := rfl
@[simp] theorem State.give_night (x : Source) : (State.give x s).night = s.night := rfl
@[simp] theorem State.give_free (x : Source) : (State.give x s).free = s.free := rfl
@[simp] theorem State.give_model (x : Source) : (State.give x s).model = s.model := rfl
@[simp] theorem State.give_engine (x : Source) : (State.give x s).engine = s.engine := rfl
@[simp] theorem State.give_waitReason (x : Source) : (State.give x s).waitReason = s.waitReason := rfl
@[simp] theorem State.give_axes (x : Source) : (State.give x s).axes = s.axes := rfl
@[simp] theorem State.give_onTarget (x : Source) : (State.give x s).onTarget = s.onTarget := rfl
@[simp] theorem State.give_guide (x : Source) : (State.give x s).guide = s.guide := rfl
@[simp] theorem State.give_enclosure (x : Source) : (State.give x s).enclosure = s.enclosure := rfl
@[simp] theorem State.give_inputs (x : Source) : (State.give x s).inputs = s.inputs := rfl
@[simp] theorem State.give_steps (x : Source) : (State.give x s).steps = s.steps := rfl
@[simp] theorem State.give_enable (x : Source) : (State.give x s).enable = s.enable := rfl
@[simp] theorem State.give_lines (x : Source) :
    (State.give x s).lines = s.lines.map (EventLine.receive s.time.eventDue x) := rfl
@[simp] theorem State.give_faults (x : Source) : (State.give x s).faults = s.faults := rfl
@[simp] theorem State.give_notices (x : Source) : (State.give x s).notices = s.notices := rfl
@[simp] theorem State.give_ports (x : Source) : (State.give x s).ports = s.ports := rfl
@[simp] theorem State.give_inForce (x : Source) : (State.give x s).inForce = s.inForce := rfl
@[simp] theorem State.give_pendingItems (x : Source) : (State.give x s).pendingItems = s.pendingItems := rfl
@[simp] theorem State.give_expiries (x : Source) : (State.give x s).expiries = s.expiries := rfl
@[simp] theorem State.give_orderDraws (x : Source) : (State.give x s).orderDraws = s.orderDraws := rfl

/-! ### ranOut -/

@[simp] theorem State.ranOut_pending (x : Expiry) : (s.ranOut x).pending = s.pending := rfl
@[simp] theorem State.ranOut_resetLow (x : Expiry) : (s.ranOut x).resetLow = s.resetLow := rfl
@[simp] theorem State.ranOut_pins (x : Expiry) : (s.ranOut x).pins = s.pins := rfl
@[simp] theorem State.ranOut_time (x : Expiry) : (s.ranOut x).time = s.time := rfl
@[simp] theorem State.ranOut_night (x : Expiry) : (s.ranOut x).night = s.night := rfl
@[simp] theorem State.ranOut_free (x : Expiry) : (s.ranOut x).free = s.free := rfl
@[simp] theorem State.ranOut_model (x : Expiry) : (s.ranOut x).model = s.model := rfl
@[simp] theorem State.ranOut_engine (x : Expiry) : (s.ranOut x).engine = s.engine := rfl
@[simp] theorem State.ranOut_waitReason (x : Expiry) : (s.ranOut x).waitReason = s.waitReason := rfl
@[simp] theorem State.ranOut_axes (x : Expiry) : (s.ranOut x).axes = s.axes := rfl
@[simp] theorem State.ranOut_onTarget (x : Expiry) : (s.ranOut x).onTarget = s.onTarget := rfl
@[simp] theorem State.ranOut_guide (x : Expiry) : (s.ranOut x).guide = s.guide := rfl
@[simp] theorem State.ranOut_enclosure (x : Expiry) : (s.ranOut x).enclosure = s.enclosure := rfl
@[simp] theorem State.ranOut_inputs (x : Expiry) : (s.ranOut x).inputs = s.inputs := rfl
@[simp] theorem State.ranOut_steps (x : Expiry) : (s.ranOut x).steps = s.steps := rfl
@[simp] theorem State.ranOut_enable (x : Expiry) : (s.ranOut x).enable = s.enable := rfl
@[simp] theorem State.ranOut_lines (x : Expiry) : (s.ranOut x).lines = s.lines := rfl
@[simp] theorem State.ranOut_faults (x : Expiry) : (s.ranOut x).faults = s.faults := rfl
@[simp] theorem State.ranOut_notices (x : Expiry) : (s.ranOut x).notices = s.notices := rfl
@[simp] theorem State.ranOut_ports (x : Expiry) : (s.ranOut x).ports = s.ports := rfl
@[simp] theorem State.ranOut_inForce (x : Expiry) : (s.ranOut x).inForce = s.inForce := rfl
@[simp] theorem State.ranOut_pendingItems (x : Expiry) : (s.ranOut x).pendingItems = s.pendingItems := rfl
@[simp] theorem State.ranOut_expiries (x : Expiry) : (s.ranOut x).expiries = s.expiries ++ [x] := rfl
@[simp] theorem State.ranOut_orderDraws (x : Expiry) : (s.ranOut x).orderDraws = s.orderDraws := rfl

/-! ### unmarkLines -/

@[simp] theorem State.unmarkLines_pending : (s.unmarkLines).pending = s.pending := rfl
@[simp] theorem State.unmarkLines_resetLow : (s.unmarkLines).resetLow = s.resetLow := rfl
@[simp] theorem State.unmarkLines_pins : (s.unmarkLines).pins = s.pins := rfl
@[simp] theorem State.unmarkLines_time : (s.unmarkLines).time = s.time := rfl
@[simp] theorem State.unmarkLines_night : (s.unmarkLines).night = s.night := rfl
@[simp] theorem State.unmarkLines_free : (s.unmarkLines).free = s.free := rfl
@[simp] theorem State.unmarkLines_model : (s.unmarkLines).model = s.model := rfl
@[simp] theorem State.unmarkLines_engine : (s.unmarkLines).engine = s.engine := rfl
@[simp] theorem State.unmarkLines_waitReason : (s.unmarkLines).waitReason = s.waitReason := rfl
@[simp] theorem State.unmarkLines_axes : (s.unmarkLines).axes = s.axes := rfl
@[simp] theorem State.unmarkLines_onTarget : (s.unmarkLines).onTarget = s.onTarget := rfl
@[simp] theorem State.unmarkLines_guide : (s.unmarkLines).guide = s.guide := rfl
@[simp] theorem State.unmarkLines_enclosure : (s.unmarkLines).enclosure = s.enclosure := rfl
@[simp] theorem State.unmarkLines_inputs : (s.unmarkLines).inputs = s.inputs := rfl
@[simp] theorem State.unmarkLines_steps : (s.unmarkLines).steps = s.steps := rfl
@[simp] theorem State.unmarkLines_enable : (s.unmarkLines).enable = s.enable := rfl
@[simp] theorem State.unmarkLines_lines : (s.unmarkLines).lines = s.lines.map EventLine.unmark := rfl
@[simp] theorem State.unmarkLines_faults : (s.unmarkLines).faults = s.faults := rfl
@[simp] theorem State.unmarkLines_notices : (s.unmarkLines).notices = s.notices := rfl
@[simp] theorem State.unmarkLines_ports : (s.unmarkLines).ports = s.ports := rfl
@[simp] theorem State.unmarkLines_inForce : (s.unmarkLines).inForce = s.inForce := rfl
@[simp] theorem State.unmarkLines_pendingItems : (s.unmarkLines).pendingItems = s.pendingItems := rfl
@[simp] theorem State.unmarkLines_expiries : (s.unmarkLines).expiries = s.expiries := rfl
@[simp] theorem State.unmarkLines_orderDraws : (s.unmarkLines).orderDraws = s.orderDraws := rfl

/-! ### retime -/

@[simp] theorem State.retime_pending (t : TimeBase) : (s.retime t).pending = s.pending := by
  unfold State.retime; split <;> rfl
@[simp] theorem State.retime_resetLow (t : TimeBase) : (s.retime t).resetLow = s.resetLow := by
  unfold State.retime; split <;> rfl
@[simp] theorem State.retime_pins (t : TimeBase) : (s.retime t).pins = s.pins := by
  unfold State.retime; split <;> rfl
@[simp] theorem State.retime_time (t : TimeBase) : (s.retime t).time = t := by
  unfold State.retime; split <;> rfl
@[simp] theorem State.retime_night (t : TimeBase) : (s.retime t).night = s.night := by
  unfold State.retime; split <;> rfl
@[simp] theorem State.retime_free (t : TimeBase) : (s.retime t).free = s.free := by
  unfold State.retime; split <;> rfl
@[simp] theorem State.retime_model (t : TimeBase) : (s.retime t).model = s.model := by
  unfold State.retime; split <;> rfl
@[simp] theorem State.retime_engine (t : TimeBase) : (s.retime t).engine = s.engine := by
  unfold State.retime; split <;> rfl
@[simp] theorem State.retime_waitReason (t : TimeBase) : (s.retime t).waitReason = s.waitReason := by
  unfold State.retime; split <;> rfl
@[simp] theorem State.retime_axes (t : TimeBase) : (s.retime t).axes = s.axes := by
  unfold State.retime; split <;> rfl
@[simp] theorem State.retime_onTarget (t : TimeBase) : (s.retime t).onTarget = s.onTarget := by
  unfold State.retime; split <;> rfl
@[simp] theorem State.retime_guide (t : TimeBase) : (s.retime t).guide = s.guide := by
  unfold State.retime; split <;> rfl
@[simp] theorem State.retime_enclosure (t : TimeBase) : (s.retime t).enclosure = s.enclosure := by
  unfold State.retime; split <;> rfl
@[simp] theorem State.retime_inputs (t : TimeBase) : (s.retime t).inputs = s.inputs := by
  unfold State.retime; split <;> rfl
@[simp] theorem State.retime_steps (t : TimeBase) : (s.retime t).steps = s.steps := by
  unfold State.retime; split <;> rfl
@[simp] theorem State.retime_enable (t : TimeBase) : (s.retime t).enable = s.enable := by
  unfold State.retime; split <;> rfl
@[simp] theorem State.retime_lines (t : TimeBase) :
    (s.retime t).lines = if t.eventDue then s.lines else s.lines.map EventLine.unmark := by
  unfold State.retime; split <;> rfl
@[simp] theorem State.retime_faults (t : TimeBase) : (s.retime t).faults = s.faults := by
  unfold State.retime; split <;> rfl
@[simp] theorem State.retime_notices (t : TimeBase) : (s.retime t).notices = s.notices := by
  unfold State.retime; split <;> rfl
@[simp] theorem State.retime_ports (t : TimeBase) : (s.retime t).ports = s.ports := by
  unfold State.retime; split <;> rfl
@[simp] theorem State.retime_inForce (t : TimeBase) : (s.retime t).inForce = s.inForce := by
  unfold State.retime; split <;> rfl
@[simp] theorem State.retime_pendingItems (t : TimeBase) : (s.retime t).pendingItems = s.pendingItems := by
  unfold State.retime; split <;> rfl
@[simp] theorem State.retime_expiries (t : TimeBase) : (s.retime t).expiries = s.expiries := by
  unfold State.retime; split <;> rfl
@[simp] theorem State.retime_orderDraws (t : TimeBase) : (s.retime t).orderDraws = s.orderDraws := by
  unfold State.retime; split <;> rfl

end Sys2Proof.Machine
end

