-- ==== Sys2Proof/Laws/Clock.lean ====
section
/-! SUPPORT. The passing of oscillator time, and a request on a port: what each leaves unchanged and the cases each has. -/

namespace Sys2Proof.Machine

variable (s : State)

/-! ### The gap within a frame -/

/-- What a time with no byte does to a port (R180): nothing in HUNT; within a frame the gap grows, and past 20,000 the
frame is abandoned and counted. -/
theorem Port.pass_cases (n : Nat) (p : Port) :
    (n = 0 ∨ p.receiver = .hunt) ∧ p.pass n = p ∨
      p.receiver ≠ .hunt ∧ p.gap + n ≤ 20000 ∧ p.pass n = { p with gap := p.gap + n } ∨
      p.receiver ≠ .hunt ∧ 20000 < p.gap + n ∧
        p.pass n = { p with receiver := .hunt, gap := 0, timeouts := min 65535 (p.timeouts + 1) } := by
  obtain ⟨r, g, _, _, _, _, _⟩ := p
  by_cases h0 : n = 0
  · exact .inl ⟨.inl h0, by rw [Port.pass, if_pos h0]⟩
  by_cases h : 20000 < g + n
  · cases r <;> simp [Port.pass, Port.abandon, Receiver.assembling, gapLimit, count16, saturate, h0, h]
  · cases r <;> simp [Port.pass, Receiver.assembling, gapLimit, h0, h, Nat.le_of_not_lt h]

@[simp] theorem Port.pass_sending (n : Nat) (p : Port) : (p.pass n).sending = p.sending := by
  rcases p.pass_cases n with ⟨_, h⟩ | ⟨_, _, h⟩ | ⟨_, _, h⟩ <;> rw [h]
@[simp] theorem Port.pass_badChecks (n : Nat) (p : Port) : (p.pass n).badChecks = p.badChecks := by
  rcases p.pass_cases n with ⟨_, h⟩ | ⟨_, _, h⟩ | ⟨_, _, h⟩ <;> rw [h]
@[simp] theorem Port.pass_overruns (n : Nat) (p : Port) : (p.pass n).overruns = p.overruns := by
  rcases p.pass_cases n with ⟨_, h⟩ | ⟨_, _, h⟩ | ⟨_, _, h⟩ <;> rw [h]
@[simp] theorem Port.pass_straps (n : Nat) (p : Port) : (p.pass n).straps = p.straps := by
  rcases p.pass_cases n with ⟨_, h⟩ | ⟨_, _, h⟩ | ⟨_, _, h⟩ <;> rw [h]

/-! ### expirePulseAge -/

@[simp] theorem State.expirePulseAge_pending : (s.expirePulseAge).pending = s.pending := by
  unfold State.expirePulseAge; split <;> rfl
@[simp] theorem State.expirePulseAge_resetLow : (s.expirePulseAge).resetLow = s.resetLow := by
  unfold State.expirePulseAge; split <;> rfl
@[simp] theorem State.expirePulseAge_pins : (s.expirePulseAge).pins = s.pins := by
  unfold State.expirePulseAge; split <;> rfl
@[simp] theorem State.expirePulseAge_night : (s.expirePulseAge).night = s.night := by
  unfold State.expirePulseAge; split <;> rfl
@[simp] theorem State.expirePulseAge_free : (s.expirePulseAge).free = s.free := by
  unfold State.expirePulseAge; split <;> rfl
@[simp] theorem State.expirePulseAge_model : (s.expirePulseAge).model = s.model := by
  unfold State.expirePulseAge; split <;> rfl
@[simp] theorem State.expirePulseAge_engine : (s.expirePulseAge).engine = s.engine := by
  unfold State.expirePulseAge; split <;> rfl
@[simp] theorem State.expirePulseAge_waitReason : (s.expirePulseAge).waitReason = s.waitReason := by
  unfold State.expirePulseAge; split <;> rfl
@[simp] theorem State.expirePulseAge_axes : (s.expirePulseAge).axes = s.axes := by
  unfold State.expirePulseAge; split <;> rfl
@[simp] theorem State.expirePulseAge_onTarget : (s.expirePulseAge).onTarget = s.onTarget := by
  unfold State.expirePulseAge; split <;> rfl
@[simp] theorem State.expirePulseAge_guide : (s.expirePulseAge).guide = s.guide := by
  unfold State.expirePulseAge; split <;> rfl
@[simp] theorem State.expirePulseAge_enclosure : (s.expirePulseAge).enclosure = s.enclosure := by
  unfold State.expirePulseAge; split <;> rfl
@[simp] theorem State.expirePulseAge_inputs : (s.expirePulseAge).inputs = s.inputs := by
  unfold State.expirePulseAge; split <;> rfl
@[simp] theorem State.expirePulseAge_steps : (s.expirePulseAge).steps = s.steps := by
  unfold State.expirePulseAge; split <;> rfl
@[simp] theorem State.expirePulseAge_enable : (s.expirePulseAge).enable = s.enable := by
  unfold State.expirePulseAge; split <;> rfl
@[simp] theorem State.expirePulseAge_lines : (s.expirePulseAge).lines = s.lines := by
  unfold State.expirePulseAge; split <;> rfl
@[simp] theorem State.expirePulseAge_faults : (s.expirePulseAge).faults = s.faults := by
  unfold State.expirePulseAge; split <;> rfl
@[simp] theorem State.expirePulseAge_ports : (s.expirePulseAge).ports = s.ports := by
  unfold State.expirePulseAge; split <;> rfl
@[simp] theorem State.expirePulseAge_inForce : (s.expirePulseAge).inForce = s.inForce := by
  unfold State.expirePulseAge; split <;> rfl
@[simp] theorem State.expirePulseAge_pendingItems : (s.expirePulseAge).pendingItems = s.pendingItems := by
  unfold State.expirePulseAge; split <;> rfl
@[simp] theorem State.expirePulseAge_expiries : (s.expirePulseAge).expiries = s.expiries := by
  unfold State.expirePulseAge; split <;> rfl
@[simp] theorem State.expirePulseAge_orderDraws : (s.expirePulseAge).orderDraws = s.orderDraws := by
  unfold State.expirePulseAge; split <;> rfl

/-! ### takeExpiry -/

@[simp] theorem State.takeExpiry_pending : (s.takeExpiry).pending = s.pending := by
  unfold State.takeExpiry; split <;> simp
@[simp] theorem State.takeExpiry_resetLow : (s.takeExpiry).resetLow = s.resetLow := by
  unfold State.takeExpiry; split <;> simp
@[simp] theorem State.takeExpiry_pins : (s.takeExpiry).pins = s.pins := by
  unfold State.takeExpiry; split <;> simp
@[simp] theorem State.takeExpiry_night : (s.takeExpiry).night = s.night := by
  unfold State.takeExpiry; split <;> simp
@[simp] theorem State.takeExpiry_free : (s.takeExpiry).free = s.free := by
  unfold State.takeExpiry; split <;> simp
@[simp] theorem State.takeExpiry_model : (s.takeExpiry).model = s.model := by
  unfold State.takeExpiry; split <;> simp
@[simp] theorem State.takeExpiry_engine : (s.takeExpiry).engine = s.engine := by
  unfold State.takeExpiry; split <;> simp
@[simp] theorem State.takeExpiry_waitReason : (s.takeExpiry).waitReason = s.waitReason := by
  unfold State.takeExpiry; split <;> simp
@[simp] theorem State.takeExpiry_axes : (s.takeExpiry).axes = s.axes := by
  unfold State.takeExpiry; split <;> simp
@[simp] theorem State.takeExpiry_onTarget : (s.takeExpiry).onTarget = s.onTarget := by
  unfold State.takeExpiry; split <;> simp
@[simp] theorem State.takeExpiry_guide : (s.takeExpiry).guide = s.guide := by
  unfold State.takeExpiry; split <;> simp
@[simp] theorem State.takeExpiry_enclosure : (s.takeExpiry).enclosure = s.enclosure := by
  unfold State.takeExpiry; split <;> simp
@[simp] theorem State.takeExpiry_inputs : (s.takeExpiry).inputs = s.inputs := by
  unfold State.takeExpiry; split <;> simp
@[simp] theorem State.takeExpiry_steps : (s.takeExpiry).steps = s.steps := by
  unfold State.takeExpiry; split <;> simp
@[simp] theorem State.takeExpiry_enable : (s.takeExpiry).enable = s.enable := by
  unfold State.takeExpiry; split <;> simp
@[simp] theorem State.takeExpiry_lines : (s.takeExpiry).lines = s.lines := by
  unfold State.takeExpiry; split <;> simp
@[simp] theorem State.takeExpiry_faults : (s.takeExpiry).faults = s.faults := by
  unfold State.takeExpiry; split <;> simp
@[simp] theorem State.takeExpiry_ports : (s.takeExpiry).ports = s.ports := by
  unfold State.takeExpiry; split <;> simp
@[simp] theorem State.takeExpiry_inForce : (s.takeExpiry).inForce = s.inForce := by
  unfold State.takeExpiry; split <;> simp
@[simp] theorem State.takeExpiry_pendingItems : (s.takeExpiry).pendingItems = s.pendingItems := by
  unfold State.takeExpiry; split <;> simp
@[simp] theorem State.takeExpiry_expiries : (s.takeExpiry).expiries = s.expiries := by
  unfold State.takeExpiry; split <;> simp
@[simp] theorem State.takeExpiry_orderDraws : (s.takeExpiry).orderDraws = s.orderDraws := by
  unfold State.takeExpiry; split <;> simp

/-! ### agePulse -/

@[simp] theorem State.agePulse_pending (n : Nat) : (s.agePulse n).pending = s.pending := by
  unfold State.agePulse; repeat' split
  all_goals simp
@[simp] theorem State.agePulse_resetLow (n : Nat) : (s.agePulse n).resetLow = s.resetLow := by
  unfold State.agePulse; repeat' split
  all_goals simp
@[simp] theorem State.agePulse_pins (n : Nat) : (s.agePulse n).pins = s.pins := by
  unfold State.agePulse; repeat' split
  all_goals simp
@[simp] theorem State.agePulse_night (n : Nat) : (s.agePulse n).night = s.night := by
  unfold State.agePulse; repeat' split
  all_goals simp
@[simp] theorem State.agePulse_free (n : Nat) : (s.agePulse n).free = s.free := by
  unfold State.agePulse; repeat' split
  all_goals simp
@[simp] theorem State.agePulse_model (n : Nat) : (s.agePulse n).model = s.model := by
  unfold State.agePulse; repeat' split
  all_goals simp
@[simp] theorem State.agePulse_engine (n : Nat) : (s.agePulse n).engine = s.engine := by
  unfold State.agePulse; repeat' split
  all_goals simp
@[simp] theorem State.agePulse_waitReason (n : Nat) : (s.agePulse n).waitReason = s.waitReason := by
  unfold State.agePulse; repeat' split
  all_goals simp
@[simp] theorem State.agePulse_axes (n : Nat) : (s.agePulse n).axes = s.axes := by
  unfold State.agePulse; repeat' split
  all_goals simp
@[simp] theorem State.agePulse_onTarget (n : Nat) : (s.agePulse n).onTarget = s.onTarget := by
  unfold State.agePulse; repeat' split
  all_goals simp
@[simp] theorem State.agePulse_guide (n : Nat) : (s.agePulse n).guide = s.guide := by
  unfold State.agePulse; repeat' split
  all_goals simp
@[simp] theorem State.agePulse_enclosure (n : Nat) : (s.agePulse n).enclosure = s.enclosure := by
  unfold State.agePulse; repeat' split
  all_goals simp
@[simp] theorem State.agePulse_inputs (n : Nat) : (s.agePulse n).inputs = s.inputs := by
  unfold State.agePulse; repeat' split
  all_goals simp
@[simp] theorem State.agePulse_steps (n : Nat) : (s.agePulse n).steps = s.steps := by
  unfold State.agePulse; repeat' split
  all_goals simp
@[simp] theorem State.agePulse_enable (n : Nat) : (s.agePulse n).enable = s.enable := by
  unfold State.agePulse; repeat' split
  all_goals simp
@[simp] theorem State.agePulse_lines (n : Nat) : (s.agePulse n).lines = s.lines := by
  unfold State.agePulse; repeat' split
  all_goals simp
@[simp] theorem State.agePulse_faults (n : Nat) : (s.agePulse n).faults = s.faults := by
  unfold State.agePulse; repeat' split
  all_goals simp
@[simp] theorem State.agePulse_ports (n : Nat) : (s.agePulse n).ports = s.ports := by
  unfold State.agePulse; repeat' split
  all_goals simp
@[simp] theorem State.agePulse_inForce (n : Nat) : (s.agePulse n).inForce = s.inForce := by
  unfold State.agePulse; repeat' split
  all_goals simp
@[simp] theorem State.agePulse_pendingItems (n : Nat) : (s.agePulse n).pendingItems = s.pendingItems := by
  unfold State.agePulse; repeat' split
  all_goals simp
@[simp] theorem State.agePulse_expiries (n : Nat) : (s.agePulse n).expiries = s.expiries := by
  unfold State.agePulse; repeat' split
  all_goals simp
@[simp] theorem State.agePulse_orderDraws (n : Nat) : (s.agePulse n).orderDraws = s.orderDraws := by
  unfold State.agePulse; repeat' split
  all_goals simp

/-! ### elapse -/

@[simp] theorem State.elapse_pending (n : Nat) : (s.elapse n).pending = s.pending := by
  unfold State.elapse; split <;> simp
@[simp] theorem State.elapse_resetLow (n : Nat) : (s.elapse n).resetLow = s.resetLow := by
  unfold State.elapse; split <;> simp
@[simp] theorem State.elapse_pins (n : Nat) : (s.elapse n).pins = s.pins := by
  unfold State.elapse; split <;> simp
@[simp] theorem State.elapse_night (n : Nat) : (s.elapse n).night = s.night := by
  unfold State.elapse; split <;> simp
@[simp] theorem State.elapse_free (n : Nat) : (s.elapse n).free = s.free := by
  unfold State.elapse; split <;> simp
@[simp] theorem State.elapse_model (n : Nat) : (s.elapse n).model = s.model := by
  unfold State.elapse; split <;> simp
@[simp] theorem State.elapse_engine (n : Nat) : (s.elapse n).engine = s.engine := by
  unfold State.elapse; split <;> simp
@[simp] theorem State.elapse_waitReason (n : Nat) : (s.elapse n).waitReason = s.waitReason := by
  unfold State.elapse; split <;> simp
@[simp] theorem State.elapse_axes (n : Nat) : (s.elapse n).axes = s.axes := by
  unfold State.elapse; split <;> simp
@[simp] theorem State.elapse_onTarget (n : Nat) : (s.elapse n).onTarget = s.onTarget := by
  unfold State.elapse; split <;> simp
@[simp] theorem State.elapse_guide (n : Nat) : (s.elapse n).guide = s.guide := by
  unfold State.elapse; split <;> simp
@[simp] theorem State.elapse_enclosure (n : Nat) : (s.elapse n).enclosure = s.enclosure := by
  unfold State.elapse; split <;> simp
@[simp] theorem State.elapse_inputs (n : Nat) : (s.elapse n).inputs = s.inputs := by
  unfold State.elapse; split <;> simp
@[simp] theorem State.elapse_enable (n : Nat) : (s.elapse n).enable = s.enable := by
  unfold State.elapse; split <;> simp
@[simp] theorem State.elapse_lines (n : Nat) : (s.elapse n).lines = s.lines := by
  unfold State.elapse; split <;> simp
@[simp] theorem State.elapse_faults (n : Nat) : (s.elapse n).faults = s.faults := by
  unfold State.elapse; split <;> simp
theorem State.elapse_ports (n : Nat) : (s.elapse n).ports = s.ports.map (Port.pass n) := by
  unfold State.elapse; split
  · rename_i h; subst h; rfl
  · simp
@[simp] theorem State.elapse_sending (n : Nat) (l : Link) :
    ((s.elapse n).ports.get l).sending = (s.ports.get l).sending := by
  rw [State.elapse_ports]; cases l <;> exact Port.pass_sending n _
@[simp] theorem State.elapse_inForce (n : Nat) : (s.elapse n).inForce = s.inForce := by
  unfold State.elapse; split <;> simp
@[simp] theorem State.elapse_pendingItems (n : Nat) : (s.elapse n).pendingItems = s.pendingItems := by
  unfold State.elapse; split <;> simp
@[simp] theorem State.elapse_expiries (n : Nat) : (s.elapse n).expiries = s.expiries := by
  unfold State.elapse; split <;> simp
@[simp] theorem State.elapse_orderDraws (n : Nat) : (s.elapse n).orderDraws = s.orderDraws := by
  unfold State.elapse; split <;> simp

/-! ### waitFor -/

@[simp] theorem State.waitFor_pending (n : Option Nat) : (s.waitFor n).pending = s.pending := by
  unfold State.waitFor; repeat' split
  all_goals simp
@[simp] theorem State.waitFor_resetLow (n : Option Nat) : (s.waitFor n).resetLow = s.resetLow := by
  unfold State.waitFor; repeat' split
  all_goals simp
@[simp] theorem State.waitFor_pins (n : Option Nat) : (s.waitFor n).pins = s.pins := by
  unfold State.waitFor; repeat' split
  all_goals simp
@[simp] theorem State.waitFor_night (n : Option Nat) : (s.waitFor n).night = s.night := by
  unfold State.waitFor; repeat' split
  all_goals simp
@[simp] theorem State.waitFor_free (n : Option Nat) : (s.waitFor n).free = s.free := by
  unfold State.waitFor; repeat' split
  all_goals simp
@[simp] theorem State.waitFor_model (n : Option Nat) : (s.waitFor n).model = s.model := by
  unfold State.waitFor; repeat' split
  all_goals simp
@[simp] theorem State.waitFor_engine (n : Option Nat) : (s.waitFor n).engine = s.engine := by
  unfold State.waitFor; repeat' split
  all_goals simp
@[simp] theorem State.waitFor_waitReason (n : Option Nat) : (s.waitFor n).waitReason = s.waitReason := by
  unfold State.waitFor; repeat' split
  all_goals simp
@[simp] theorem State.waitFor_axes (n : Option Nat) : (s.waitFor n).axes = s.axes := by
  unfold State.waitFor; repeat' split
  all_goals simp
@[simp] theorem State.waitFor_onTarget (n : Option Nat) : (s.waitFor n).onTarget = s.onTarget := by
  unfold State.waitFor; repeat' split
  all_goals simp
@[simp] theorem State.waitFor_guide (n : Option Nat) : (s.waitFor n).guide = s.guide := by
  unfold State.waitFor; repeat' split
  all_goals simp
@[simp] theorem State.waitFor_enclosure (n : Option Nat) : (s.waitFor n).enclosure = s.enclosure := by
  unfold State.waitFor; repeat' split
  all_goals simp
@[simp] theorem State.waitFor_inputs (n : Option Nat) : (s.waitFor n).inputs = s.inputs := by
  unfold State.waitFor; repeat' split
  all_goals simp
@[simp] theorem State.waitFor_enable (n : Option Nat) : (s.waitFor n).enable = s.enable := by
  unfold State.waitFor; repeat' split
  all_goals simp
@[simp] theorem State.waitFor_lines (n : Option Nat) : (s.waitFor n).lines = s.lines := by
  unfold State.waitFor; repeat' split
  all_goals simp
@[simp] theorem State.waitFor_faults (n : Option Nat) : (s.waitFor n).faults = s.faults := by
  unfold State.waitFor; repeat' split
  all_goals simp
/-- Waiting for a moment does nothing, or lets the time to it pass (log entry 2). -/
theorem State.waitFor_cases (n : Option Nat) :
    s.waitFor n = s ∨
      ∃ m, n = some m ∧ s.resetLow = false ∧ s.withinPeriod m = true ∧ s.waitFor n = s.elapse m := by
  unfold State.waitFor
  split
  · exact .inl rfl
  · split
    · rename_i m h; exact .inr ⟨m, rfl, h.1, h.2, rfl⟩
    · exact .inl rfl
@[simp] theorem State.waitFor_inForce (n : Option Nat) : (s.waitFor n).inForce = s.inForce := by
  unfold State.waitFor; repeat' split
  all_goals simp
@[simp] theorem State.waitFor_pendingItems (n : Option Nat) :
    (s.waitFor n).pendingItems = s.pendingItems := by
  unfold State.waitFor; repeat' split
  all_goals simp
@[simp] theorem State.waitFor_expiries (n : Option Nat) : (s.waitFor n).expiries = s.expiries := by
  unfold State.waitFor; repeat' split
  all_goals simp
@[simp] theorem State.waitFor_orderDraws (n : Option Nat) : (s.waitFor n).orderDraws = s.orderDraws := by
  unfold State.waitFor; repeat' split
  all_goals simp

/-! ### Requests -/

/-- A request on an idle port is taken, and its answer begins to be sent (R183). -/
theorem State.request_idle {l : Link} (kind : Byte) (effect : State → State × Answer)
    (hr : s.resetLow = false) (hp : (s.ports.get l).sending = none) :
    s.request l kind effect = (effect s).1.onPort l (Port.send (replyKind kind) (effect s).2) := by
  unfold State.request
  rw [hr, hp]
  rfl

/-- A request that completes while the port is sending has no effect and is counted (R184). -/
theorem State.request_sending {l : Link} (kind : Byte) (effect : State → State × Answer) {r : Reply}
    (hr : s.resetLow = false) (hp : (s.ports.get l).sending = some r) :
    s.request l kind effect = s.onPort l Port.overrun := by
  unfold State.request
  rw [hr, hp]
  rfl

/-- While RESET_N is low a port receives nothing (R185). -/
theorem State.request_low (l : Link) (kind : Byte) (effect : State → State × Answer)
    (hr : s.resetLow = true) : s.request l kind effect = s := by
  unfold State.request
  rw [hr]
  rfl

/-- What a request can do: nothing, an overrun, or its block's effect with the reply (R183 to R185). -/
theorem State.request_cases (l : Link) (kind : Byte) (effect : State → State × Answer) :
    s.request l kind effect = s ∨ s.request l kind effect = s.onPort l Port.overrun ∨
      s.request l kind effect = (effect s).1.onPort l (Port.send (replyKind kind) (effect s).2) := by
  unfold State.request
  split
  · exact .inl rfl
  · split
    · exact .inr (.inl rfl)
    · exact .inr (.inr rfl)

end Sys2Proof.Machine
end

