-- ==== Sys2Proof/Laws/Ends.lean ====
section
/-! SUPPORT. What the operations that end, start and stop a target leave unchanged, field by field, and what each
of them does. -/

namespace Sys2Proof.Machine

variable (s : State)

/-! ### onActive -/

@[simp] theorem State.onActive_pending (f : Entry → Entry) : (s.onActive f).pending = s.pending := rfl
@[simp] theorem State.onActive_resetLow (f : Entry → Entry) : (s.onActive f).resetLow = s.resetLow := rfl
@[simp] theorem State.onActive_pins (f : Entry → Entry) : (s.onActive f).pins = s.pins := rfl
@[simp] theorem State.onActive_time (f : Entry → Entry) : (s.onActive f).time = s.time := rfl
@[simp] theorem State.onActive_free (f : Entry → Entry) : (s.onActive f).free = s.free := rfl
@[simp] theorem State.onActive_model (f : Entry → Entry) : (s.onActive f).model = s.model := rfl
@[simp] theorem State.onActive_engine (f : Entry → Entry) : (s.onActive f).engine = s.engine := rfl
@[simp] theorem State.onActive_waitReason (f : Entry → Entry) :
    (s.onActive f).waitReason = s.waitReason := rfl
@[simp] theorem State.onActive_axes (f : Entry → Entry) : (s.onActive f).axes = s.axes := rfl
@[simp] theorem State.onActive_onTarget (f : Entry → Entry) : (s.onActive f).onTarget = s.onTarget := rfl
@[simp] theorem State.onActive_guide (f : Entry → Entry) : (s.onActive f).guide = s.guide := rfl
@[simp] theorem State.onActive_enclosure (f : Entry → Entry) : (s.onActive f).enclosure = s.enclosure := rfl
@[simp] theorem State.onActive_inputs (f : Entry → Entry) : (s.onActive f).inputs = s.inputs := rfl
@[simp] theorem State.onActive_steps (f : Entry → Entry) : (s.onActive f).steps = s.steps := rfl
@[simp] theorem State.onActive_enable (f : Entry → Entry) : (s.onActive f).enable = s.enable := rfl
@[simp] theorem State.onActive_lines (f : Entry → Entry) : (s.onActive f).lines = s.lines := rfl
@[simp] theorem State.onActive_faults (f : Entry → Entry) : (s.onActive f).faults = s.faults := rfl
@[simp] theorem State.onActive_notices (f : Entry → Entry) : (s.onActive f).notices = s.notices := rfl
@[simp] theorem State.onActive_ports (f : Entry → Entry) : (s.onActive f).ports = s.ports := rfl
@[simp] theorem State.onActive_inForce (f : Entry → Entry) : (s.onActive f).inForce = s.inForce := rfl
@[simp] theorem State.onActive_pendingItems (f : Entry → Entry) :
    (s.onActive f).pendingItems = s.pendingItems := rfl
@[simp] theorem State.onActive_expiries (f : Entry → Entry) : (s.onActive f).expiries = s.expiries := rfl
@[simp] theorem State.onActive_orderDraws (f : Entry → Entry) :
    (s.onActive f).orderDraws = s.orderDraws := rfl

/-! ### discardMailbox -/

@[simp] theorem State.discardMailbox_pending : (s.discardMailbox).pending = s.pending := rfl
@[simp] theorem State.discardMailbox_resetLow : (s.discardMailbox).resetLow = s.resetLow := rfl
@[simp] theorem State.discardMailbox_pins : (s.discardMailbox).pins = s.pins := rfl
@[simp] theorem State.discardMailbox_time : (s.discardMailbox).time = s.time := rfl
@[simp] theorem State.discardMailbox_free : (s.discardMailbox).free = s.free := rfl
@[simp] theorem State.discardMailbox_model : (s.discardMailbox).model = s.model := rfl
@[simp] theorem State.discardMailbox_engine : (s.discardMailbox).engine = s.engine := rfl
@[simp] theorem State.discardMailbox_waitReason : (s.discardMailbox).waitReason = s.waitReason := rfl
@[simp] theorem State.discardMailbox_axes : (s.discardMailbox).axes = s.axes := rfl
@[simp] theorem State.discardMailbox_onTarget : (s.discardMailbox).onTarget = s.onTarget := rfl
@[simp] theorem State.discardMailbox_enclosure : (s.discardMailbox).enclosure = s.enclosure := rfl
@[simp] theorem State.discardMailbox_inputs : (s.discardMailbox).inputs = s.inputs := rfl
@[simp] theorem State.discardMailbox_steps : (s.discardMailbox).steps = s.steps := rfl
@[simp] theorem State.discardMailbox_enable : (s.discardMailbox).enable = s.enable := rfl
@[simp] theorem State.discardMailbox_lines : (s.discardMailbox).lines = s.lines := rfl
@[simp] theorem State.discardMailbox_faults : (s.discardMailbox).faults = s.faults := rfl
@[simp] theorem State.discardMailbox_notices : (s.discardMailbox).notices = s.notices := rfl
@[simp] theorem State.discardMailbox_ports : (s.discardMailbox).ports = s.ports := rfl
@[simp] theorem State.discardMailbox_inForce : (s.discardMailbox).inForce = s.inForce := rfl
@[simp] theorem State.discardMailbox_pendingItems : (s.discardMailbox).pendingItems = s.pendingItems := rfl
@[simp] theorem State.discardMailbox_expiries : (s.discardMailbox).expiries = s.expiries := rfl
@[simp] theorem State.discardMailbox_orderDraws : (s.discardMailbox).orderDraws = s.orderDraws := rfl

/-! ### reportEnd -/

@[simp] theorem State.reportEnd_pending (id : Nat) (o : EndOutcome) :
    (State.reportEnd id o s).pending = s.pending := rfl
@[simp] theorem State.reportEnd_resetLow (id : Nat) (o : EndOutcome) :
    (State.reportEnd id o s).resetLow = s.resetLow := rfl
@[simp] theorem State.reportEnd_pins (id : Nat) (o : EndOutcome) :
    (State.reportEnd id o s).pins = s.pins := rfl
@[simp] theorem State.reportEnd_time (id : Nat) (o : EndOutcome) :
    (State.reportEnd id o s).time = s.time := rfl
@[simp] theorem State.reportEnd_night (id : Nat) (o : EndOutcome) :
    (State.reportEnd id o s).night = s.night := rfl
@[simp] theorem State.reportEnd_free (id : Nat) (o : EndOutcome) :
    (State.reportEnd id o s).free = s.free := rfl
@[simp] theorem State.reportEnd_model (id : Nat) (o : EndOutcome) :
    (State.reportEnd id o s).model = s.model := rfl
@[simp] theorem State.reportEnd_engine (id : Nat) (o : EndOutcome) :
    (State.reportEnd id o s).engine = s.engine := rfl
@[simp] theorem State.reportEnd_waitReason (id : Nat) (o : EndOutcome) :
    (State.reportEnd id o s).waitReason = s.waitReason := rfl
@[simp] theorem State.reportEnd_axes (id : Nat) (o : EndOutcome) :
    (State.reportEnd id o s).axes = s.axes := rfl
@[simp] theorem State.reportEnd_onTarget (id : Nat) (o : EndOutcome) :
    (State.reportEnd id o s).onTarget = s.onTarget := rfl
@[simp] theorem State.reportEnd_guide (id : Nat) (o : EndOutcome) :
    (State.reportEnd id o s).guide = s.guide := rfl
@[simp] theorem State.reportEnd_enclosure (id : Nat) (o : EndOutcome) :
    (State.reportEnd id o s).enclosure = s.enclosure := rfl
@[simp] theorem State.reportEnd_inputs (id : Nat) (o : EndOutcome) :
    (State.reportEnd id o s).inputs = s.inputs := rfl
@[simp] theorem State.reportEnd_steps (id : Nat) (o : EndOutcome) :
    (State.reportEnd id o s).steps = s.steps := rfl
@[simp] theorem State.reportEnd_enable (id : Nat) (o : EndOutcome) :
    (State.reportEnd id o s).enable = s.enable := rfl
@[simp] theorem State.reportEnd_lines (id : Nat) (o : EndOutcome) :
    (State.reportEnd id o s).lines = s.lines := rfl
@[simp] theorem State.reportEnd_faults (id : Nat) (o : EndOutcome) :
    (State.reportEnd id o s).faults = s.faults := rfl
@[simp] theorem State.reportEnd_ports (id : Nat) (o : EndOutcome) :
    (State.reportEnd id o s).ports = s.ports := rfl
@[simp] theorem State.reportEnd_inForce (id : Nat) (o : EndOutcome) :
    (State.reportEnd id o s).inForce = s.inForce := rfl
@[simp] theorem State.reportEnd_pendingItems (id : Nat) (o : EndOutcome) :
    (State.reportEnd id o s).pendingItems = s.pendingItems := rfl
@[simp] theorem State.reportEnd_expiries (id : Nat) (o : EndOutcome) :
    (State.reportEnd id o s).expiries = s.expiries := rfl
@[simp] theorem State.reportEnd_orderDraws (id : Nat) (o : EndOutcome) :
    (State.reportEnd id o s).orderDraws = s.orderDraws := rfl

/-! ### setOnTarget -/

@[simp] theorem State.setOnTarget_pending (b : Bool) :
    (State.setOnTarget b s).pending = s.pending := by
  unfold State.setOnTarget; split <;> rfl
@[simp] theorem State.setOnTarget_resetLow (b : Bool) :
    (State.setOnTarget b s).resetLow = s.resetLow := by
  unfold State.setOnTarget; split <;> rfl
@[simp] theorem State.setOnTarget_pins (b : Bool) :
    (State.setOnTarget b s).pins = s.pins := by
  unfold State.setOnTarget; split <;> rfl
@[simp] theorem State.setOnTarget_time (b : Bool) :
    (State.setOnTarget b s).time = s.time := by
  unfold State.setOnTarget; split <;> rfl
@[simp] theorem State.setOnTarget_night (b : Bool) :
    (State.setOnTarget b s).night = s.night := by
  unfold State.setOnTarget; split <;> rfl
@[simp] theorem State.setOnTarget_free (b : Bool) :
    (State.setOnTarget b s).free = s.free := by
  unfold State.setOnTarget; split <;> rfl
@[simp] theorem State.setOnTarget_model (b : Bool) :
    (State.setOnTarget b s).model = s.model := by
  unfold State.setOnTarget; split <;> rfl
@[simp] theorem State.setOnTarget_engine (b : Bool) :
    (State.setOnTarget b s).engine = s.engine := by
  unfold State.setOnTarget; split <;> rfl
@[simp] theorem State.setOnTarget_waitReason (b : Bool) :
    (State.setOnTarget b s).waitReason = s.waitReason := by
  unfold State.setOnTarget; split <;> rfl
@[simp] theorem State.setOnTarget_axes (b : Bool) :
    (State.setOnTarget b s).axes = s.axes := by
  unfold State.setOnTarget; split <;> rfl
@[simp] theorem State.setOnTarget_guide (b : Bool) :
    (State.setOnTarget b s).guide = s.guide := by
  unfold State.setOnTarget; split <;> rfl
@[simp] theorem State.setOnTarget_enclosure (b : Bool) :
    (State.setOnTarget b s).enclosure = s.enclosure := by
  unfold State.setOnTarget; split <;> rfl
@[simp] theorem State.setOnTarget_inputs (b : Bool) :
    (State.setOnTarget b s).inputs = s.inputs := by
  unfold State.setOnTarget; split <;> rfl
@[simp] theorem State.setOnTarget_steps (b : Bool) :
    (State.setOnTarget b s).steps = s.steps := by
  unfold State.setOnTarget; split <;> rfl
@[simp] theorem State.setOnTarget_enable (b : Bool) :
    (State.setOnTarget b s).enable = s.enable := by
  unfold State.setOnTarget; split <;> rfl
@[simp] theorem State.setOnTarget_faults (b : Bool) :
    (State.setOnTarget b s).faults = s.faults := by
  unfold State.setOnTarget; split <;> rfl
@[simp] theorem State.setOnTarget_ports (b : Bool) :
    (State.setOnTarget b s).ports = s.ports := by
  unfold State.setOnTarget; split <;> rfl
@[simp] theorem State.setOnTarget_inForce (b : Bool) :
    (State.setOnTarget b s).inForce = s.inForce := by
  unfold State.setOnTarget; split <;> rfl
@[simp] theorem State.setOnTarget_pendingItems (b : Bool) :
    (State.setOnTarget b s).pendingItems = s.pendingItems := by
  unfold State.setOnTarget; split <;> rfl
@[simp] theorem State.setOnTarget_expiries (b : Bool) :
    (State.setOnTarget b s).expiries = s.expiries := by
  unfold State.setOnTarget; split <;> rfl
@[simp] theorem State.setOnTarget_orderDraws (b : Bool) :
    (State.setOnTarget b s).orderDraws = s.orderDraws := by
  unfold State.setOnTarget; split <;> rfl

/-- The ON_TARGET level after it takes a value (R147). -/
@[simp] theorem State.setOnTarget_onTarget (b : Bool) : (State.setOnTarget b s).onTarget = b := by
  unfold State.setOnTarget
  split
  · assumption
  · rfl

/-! ### endActive -/

@[simp] theorem State.endActive_pending (o : EndOutcome) :
    (s.endActive o).pending = s.pending := by
  unfold State.endActive; split <;> simp
@[simp] theorem State.endActive_resetLow (o : EndOutcome) :
    (s.endActive o).resetLow = s.resetLow := by
  unfold State.endActive; split <;> simp
@[simp] theorem State.endActive_pins (o : EndOutcome) :
    (s.endActive o).pins = s.pins := by
  unfold State.endActive; split <;> simp
@[simp] theorem State.endActive_time (o : EndOutcome) :
    (s.endActive o).time = s.time := by
  unfold State.endActive; split <;> simp
@[simp] theorem State.endActive_model (o : EndOutcome) :
    (s.endActive o).model = s.model := by
  unfold State.endActive; split <;> simp
@[simp] theorem State.endActive_engine (o : EndOutcome) :
    (s.endActive o).engine = s.engine := by
  unfold State.endActive; split <;> simp
@[simp] theorem State.endActive_waitReason (o : EndOutcome) :
    (s.endActive o).waitReason = s.waitReason := by
  unfold State.endActive; split <;> simp
@[simp] theorem State.endActive_enclosure (o : EndOutcome) :
    (s.endActive o).enclosure = s.enclosure := by
  unfold State.endActive; split <;> simp
@[simp] theorem State.endActive_inputs (o : EndOutcome) :
    (s.endActive o).inputs = s.inputs := by
  unfold State.endActive; split <;> simp
@[simp] theorem State.endActive_steps (o : EndOutcome) :
    (s.endActive o).steps = s.steps := by
  unfold State.endActive; split <;> simp
@[simp] theorem State.endActive_enable (o : EndOutcome) :
    (s.endActive o).enable = s.enable := by
  unfold State.endActive; split <;> simp
@[simp] theorem State.endActive_faults (o : EndOutcome) :
    (s.endActive o).faults = s.faults := by
  unfold State.endActive; split <;> simp
@[simp] theorem State.endActive_ports (o : EndOutcome) :
    (s.endActive o).ports = s.ports := by
  unfold State.endActive; split <;> simp
@[simp] theorem State.endActive_inForce (o : EndOutcome) :
    (s.endActive o).inForce = s.inForce := by
  unfold State.endActive; split <;> simp
@[simp] theorem State.endActive_pendingItems (o : EndOutcome) :
    (s.endActive o).pendingItems = s.pendingItems := by
  unfold State.endActive; split <;> simp
@[simp] theorem State.endActive_expiries (o : EndOutcome) :
    (s.endActive o).expiries = s.expiries := by
  unfold State.endActive; split <;> simp
@[simp] theorem State.endActive_orderDraws (o : EndOutcome) :
    (s.endActive o).orderDraws = s.orderDraws := by
  unfold State.endActive; split <;> simp

/-- With no ACTIVE entry nothing ends. -/
theorem State.endActive_none (o : EndOutcome) (h : s.activeEntry = none) : s.endActive o = s := by
  unfold State.endActive; rw [h]

/-- The end of the ACTIVE entry turns ON_TARGET off, the guide unit OFF with an empty mailbox, and folds every axis
(R91, R134, R146). -/
theorem State.endActive_some (o : EndOutcome) {e : Entry} (h : s.activeEntry = some e) :
    (s.endActive o).onTarget = false ∧ (s.endActive o).guide = ⟨.off, none, s.guide.offset⟩ ∧
      (s.endActive o).axes = s.axes.map AxisState.fold ∧
      (s.endActive o).free = s.free + e.chain.length := by
  unfold State.endActive
  rw [h]
  simp
  exact ⟨rfl, rfl⟩

/-! ### readyToPark -/

@[simp] theorem State.readyToPark_pending : (s.readyToPark).pending = s.pending := rfl
@[simp] theorem State.readyToPark_resetLow : (s.readyToPark).resetLow = s.resetLow := rfl
@[simp] theorem State.readyToPark_pins : (s.readyToPark).pins = s.pins := rfl
@[simp] theorem State.readyToPark_time : (s.readyToPark).time = s.time := rfl
@[simp] theorem State.readyToPark_free : (s.readyToPark).free = s.free := rfl
@[simp] theorem State.readyToPark_model : (s.readyToPark).model = s.model := rfl
@[simp] theorem State.readyToPark_engine : (s.readyToPark).engine = s.engine := rfl
@[simp] theorem State.readyToPark_onTarget : (s.readyToPark).onTarget = s.onTarget := rfl
@[simp] theorem State.readyToPark_enclosure : (s.readyToPark).enclosure = s.enclosure := rfl
@[simp] theorem State.readyToPark_inputs : (s.readyToPark).inputs = s.inputs := rfl
@[simp] theorem State.readyToPark_steps : (s.readyToPark).steps = s.steps := rfl
@[simp] theorem State.readyToPark_enable : (s.readyToPark).enable = s.enable := rfl
@[simp] theorem State.readyToPark_lines : (s.readyToPark).lines = s.lines := rfl
@[simp] theorem State.readyToPark_faults : (s.readyToPark).faults = s.faults := rfl
@[simp] theorem State.readyToPark_notices : (s.readyToPark).notices = s.notices := rfl
@[simp] theorem State.readyToPark_ports : (s.readyToPark).ports = s.ports := rfl
@[simp] theorem State.readyToPark_inForce : (s.readyToPark).inForce = s.inForce := rfl
@[simp] theorem State.readyToPark_pendingItems : (s.readyToPark).pendingItems = s.pendingItems := rfl
@[simp] theorem State.readyToPark_expiries : (s.readyToPark).expiries = s.expiries := rfl
@[simp] theorem State.readyToPark_orderDraws : (s.readyToPark).orderDraws = s.orderDraws := rfl

/-! ### enterParking -/

@[simp] theorem State.enterParking_pending : (s.enterParking).pending = s.pending := rfl
@[simp] theorem State.enterParking_resetLow : (s.enterParking).resetLow = s.resetLow := rfl
@[simp] theorem State.enterParking_pins : (s.enterParking).pins = s.pins := rfl
@[simp] theorem State.enterParking_time : (s.enterParking).time = s.time := rfl
@[simp] theorem State.enterParking_free : (s.enterParking).free = s.free := rfl
@[simp] theorem State.enterParking_model : (s.enterParking).model = s.model := rfl
@[simp] theorem State.enterParking_onTarget : (s.enterParking).onTarget = s.onTarget := rfl
@[simp] theorem State.enterParking_enclosure : (s.enterParking).enclosure = s.enclosure := rfl
@[simp] theorem State.enterParking_inputs : (s.enterParking).inputs = s.inputs := rfl
@[simp] theorem State.enterParking_steps : (s.enterParking).steps = s.steps := rfl
@[simp] theorem State.enterParking_lines : (s.enterParking).lines = s.lines := rfl
@[simp] theorem State.enterParking_faults : (s.enterParking).faults = s.faults := rfl
@[simp] theorem State.enterParking_notices : (s.enterParking).notices = s.notices := rfl
@[simp] theorem State.enterParking_ports : (s.enterParking).ports = s.ports := rfl
@[simp] theorem State.enterParking_inForce : (s.enterParking).inForce = s.inForce := rfl
@[simp] theorem State.enterParking_pendingItems : (s.enterParking).pendingItems = s.pendingItems := rfl
@[simp] theorem State.enterParking_expiries : (s.enterParking).expiries = s.expiries := rfl
@[simp] theorem State.enterParking_orderDraws : (s.enterParking).orderDraws = s.orderDraws := rfl

/-! ### faultEvent -/

@[simp] theorem State.faultEvent_pending (k : FaultKind) :
    (s.faultEvent k).pending = s.pending := by
  unfold State.faultEvent
  split
  · split <;> rfl
  · dsimp only; split <;> simp
@[simp] theorem State.faultEvent_resetLow (k : FaultKind) :
    (s.faultEvent k).resetLow = s.resetLow := by
  unfold State.faultEvent
  split
  · split <;> rfl
  · dsimp only; split <;> simp
@[simp] theorem State.faultEvent_pins (k : FaultKind) :
    (s.faultEvent k).pins = s.pins := by
  unfold State.faultEvent
  split
  · split <;> rfl
  · dsimp only; split <;> simp
@[simp] theorem State.faultEvent_time (k : FaultKind) :
    (s.faultEvent k).time = s.time := by
  unfold State.faultEvent
  split
  · split <;> rfl
  · dsimp only; split <;> simp
@[simp] theorem State.faultEvent_model (k : FaultKind) :
    (s.faultEvent k).model = s.model := by
  unfold State.faultEvent
  split
  · split <;> rfl
  · dsimp only; split <;> simp
@[simp] theorem State.faultEvent_inputs (k : FaultKind) :
    (s.faultEvent k).inputs = s.inputs := by
  unfold State.faultEvent
  split
  · split <;> rfl
  · dsimp only; split <;> simp
@[simp] theorem State.faultEvent_ports (k : FaultKind) :
    (s.faultEvent k).ports = s.ports := by
  unfold State.faultEvent
  split
  · split <;> rfl
  · dsimp only; split <;> simp
@[simp] theorem State.faultEvent_inForce (k : FaultKind) :
    (s.faultEvent k).inForce = s.inForce := by
  unfold State.faultEvent
  split
  · split <;> rfl
  · dsimp only; split <;> simp
@[simp] theorem State.faultEvent_pendingItems (k : FaultKind) :
    (s.faultEvent k).pendingItems = s.pendingItems := by
  unfold State.faultEvent
  split
  · split <;> rfl
  · dsimp only; split <;> simp
@[simp] theorem State.faultEvent_expiries (k : FaultKind) :
    (s.faultEvent k).expiries = s.expiries := by
  unfold State.faultEvent
  split
  · split <;> rfl
  · dsimp only; split <;> simp
@[simp] theorem State.faultEvent_orderDraws (k : FaultKind) :
    (s.faultEvent k).orderDraws = s.orderDraws := by
  unfold State.faultEvent
  split
  · split <;> rfl
  · dsimp only; split <;> simp

/-- Whatever the state a fault event finds, it leaves the engine STOPPED (R170, R172). -/
@[simp] theorem State.faultEvent_engine (k : FaultKind) : (s.faultEvent k).engine = .stopped := by
  unfold State.faultEvent
  split
  · rename_i h
    split <;> simpa using h
  · dsimp only
    split <;> simp

/-! ### faultIf -/

@[simp] theorem State.faultIf_pending (b : Bool) (k : FaultKind) :
    (s.faultIf b k).pending = s.pending := by
  unfold State.faultIf; split <;> simp
@[simp] theorem State.faultIf_resetLow (b : Bool) (k : FaultKind) :
    (s.faultIf b k).resetLow = s.resetLow := by
  unfold State.faultIf; split <;> simp
@[simp] theorem State.faultIf_pins (b : Bool) (k : FaultKind) :
    (s.faultIf b k).pins = s.pins := by
  unfold State.faultIf; split <;> simp
@[simp] theorem State.faultIf_time (b : Bool) (k : FaultKind) :
    (s.faultIf b k).time = s.time := by
  unfold State.faultIf; split <;> simp
@[simp] theorem State.faultIf_model (b : Bool) (k : FaultKind) :
    (s.faultIf b k).model = s.model := by
  unfold State.faultIf; split <;> simp
@[simp] theorem State.faultIf_inputs (b : Bool) (k : FaultKind) :
    (s.faultIf b k).inputs = s.inputs := by
  unfold State.faultIf; split <;> simp
@[simp] theorem State.faultIf_ports (b : Bool) (k : FaultKind) :
    (s.faultIf b k).ports = s.ports := by
  unfold State.faultIf; split <;> simp
@[simp] theorem State.faultIf_inForce (b : Bool) (k : FaultKind) :
    (s.faultIf b k).inForce = s.inForce := by
  unfold State.faultIf; split <;> simp
@[simp] theorem State.faultIf_pendingItems (b : Bool) (k : FaultKind) :
    (s.faultIf b k).pendingItems = s.pendingItems := by
  unfold State.faultIf; split <;> simp
@[simp] theorem State.faultIf_expiries (b : Bool) (k : FaultKind) :
    (s.faultIf b k).expiries = s.expiries := by
  unfold State.faultIf; split <;> simp
@[simp] theorem State.faultIf_orderDraws (b : Bool) (k : FaultKind) :
    (s.faultIf b k).orderDraws = s.orderDraws := by
  unfold State.faultIf; split <;> simp

/-! ### enterEnabling -/

@[simp] theorem State.enterEnabling_pending (e : Engine) :
    (s.enterEnabling e).pending = s.pending := by
  unfold State.enterEnabling; dsimp only; split <;> simp
@[simp] theorem State.enterEnabling_resetLow (e : Engine) :
    (s.enterEnabling e).resetLow = s.resetLow := by
  unfold State.enterEnabling; dsimp only; split <;> simp
@[simp] theorem State.enterEnabling_pins (e : Engine) :
    (s.enterEnabling e).pins = s.pins := by
  unfold State.enterEnabling; dsimp only; split <;> simp
@[simp] theorem State.enterEnabling_time (e : Engine) :
    (s.enterEnabling e).time = s.time := by
  unfold State.enterEnabling; dsimp only; split <;> simp
@[simp] theorem State.enterEnabling_model (e : Engine) :
    (s.enterEnabling e).model = s.model := by
  unfold State.enterEnabling; dsimp only; split <;> simp
@[simp] theorem State.enterEnabling_inputs (e : Engine) :
    (s.enterEnabling e).inputs = s.inputs := by
  unfold State.enterEnabling; dsimp only; split <;> simp
@[simp] theorem State.enterEnabling_ports (e : Engine) :
    (s.enterEnabling e).ports = s.ports := by
  unfold State.enterEnabling; dsimp only; split <;> simp
@[simp] theorem State.enterEnabling_inForce (e : Engine) :
    (s.enterEnabling e).inForce = s.inForce := by
  unfold State.enterEnabling; dsimp only; split <;> simp
@[simp] theorem State.enterEnabling_pendingItems (e : Engine) :
    (s.enterEnabling e).pendingItems = s.pendingItems := by
  unfold State.enterEnabling; dsimp only; split <;> simp
@[simp] theorem State.enterEnabling_expiries (e : Engine) :
    (s.enterEnabling e).expiries = s.expiries := by
  unfold State.enterEnabling; dsimp only; split <;> simp
@[simp] theorem State.enterEnabling_orderDraws (e : Engine) :
    (s.enterEnabling e).orderDraws = s.orderDraws := by
  unfold State.enterEnabling; dsimp only; split <;> simp

/-! ### shelterRise -/

@[simp] theorem State.shelterRise_pending :
    (s.shelterRise).pending = s.pending := by
  unfold State.shelterRise; split <;> simp
@[simp] theorem State.shelterRise_resetLow :
    (s.shelterRise).resetLow = s.resetLow := by
  unfold State.shelterRise; split <;> simp
@[simp] theorem State.shelterRise_pins :
    (s.shelterRise).pins = s.pins := by
  unfold State.shelterRise; split <;> simp
@[simp] theorem State.shelterRise_time :
    (s.shelterRise).time = s.time := by
  unfold State.shelterRise; split <;> simp
@[simp] theorem State.shelterRise_model :
    (s.shelterRise).model = s.model := by
  unfold State.shelterRise; split <;> simp
@[simp] theorem State.shelterRise_inputs :
    (s.shelterRise).inputs = s.inputs := by
  unfold State.shelterRise; split <;> simp
@[simp] theorem State.shelterRise_steps :
    (s.shelterRise).steps = s.steps := by
  unfold State.shelterRise; split <;> simp
@[simp] theorem State.shelterRise_faults :
    (s.shelterRise).faults = s.faults := by
  unfold State.shelterRise; split <;> simp
@[simp] theorem State.shelterRise_ports :
    (s.shelterRise).ports = s.ports := by
  unfold State.shelterRise; split <;> simp
@[simp] theorem State.shelterRise_inForce :
    (s.shelterRise).inForce = s.inForce := by
  unfold State.shelterRise; split <;> simp
@[simp] theorem State.shelterRise_pendingItems :
    (s.shelterRise).pendingItems = s.pendingItems := by
  unfold State.shelterRise; split <;> simp
@[simp] theorem State.shelterRise_expiries :
    (s.shelterRise).expiries = s.expiries := by
  unfold State.shelterRise; split <;> simp
@[simp] theorem State.shelterRise_orderDraws :
    (s.shelterRise).orderDraws = s.orderDraws := by
  unfold State.shelterRise; split <;> simp

/-- A rise moves no axis: the demand, the emitted position and the velocity stay (R91, R150). -/
theorem State.shelterRise_axis (ax : Axis) :
    ((s.shelterRise).axes.get ax).demand = (s.axes.get ax).demand ∧
      ((s.shelterRise).axes.get ax).emitted = (s.axes.get ax).emitted ∧
      ((s.shelterRise).axes.get ax).vel = (s.axes.get ax).vel := by
  have h (o : EndOutcome) :
      ((s.endActive o).axes.get ax).demand = (s.axes.get ax).demand ∧
        ((s.endActive o).axes.get ax).emitted = (s.axes.get ax).emitted ∧
        ((s.endActive o).axes.get ax).vel = (s.axes.get ax).vel := by
    cases ha : s.activeEntry with
    | none => rw [State.endActive_none s o ha]; exact ⟨rfl, rfl, rfl⟩
    | some e => rw [(State.endActive_some s o ha).2.2.1]; cases ax <;> exact ⟨rfl, rfl, rfl⟩
  have hp (u : State) :
      ((u.enterParking).axes.get ax).demand = (u.axes.get ax).demand ∧
        ((u.enterParking).axes.get ax).emitted = (u.axes.get ax).emitted ∧
        ((u.enterParking).axes.get ax).vel = (u.axes.get ax).vel := by
    cases ax <;> exact ⟨rfl, rfl, rfl⟩
  have ht := hp (s.endActive .shelter)
  rw [(h .shelter).1, (h .shelter).2.1, (h .shelter).2.2] at ht
  unfold State.shelterRise
  split
  · exact ht
  · exact ht
  · exact ht
  · exact ht
  · exact hp s
  · exact hp s
  · exact hp s
  · exact ⟨rfl, rfl, rfl⟩
  · exact ⟨rfl, rfl, rfl⟩
  · exact ⟨rfl, rfl, rfl⟩
  · exact ⟨rfl, rfl, rfl⟩

/-! ### formShelter -/

@[simp] theorem State.formShelter_pending :
    (s.formShelter).pending = s.pending := by
  unfold State.formShelter
  split
  · rfl
  · dsimp only; split <;> simp
@[simp] theorem State.formShelter_resetLow :
    (s.formShelter).resetLow = s.resetLow := by
  unfold State.formShelter
  split
  · rfl
  · dsimp only; split <;> simp
@[simp] theorem State.formShelter_pins :
    (s.formShelter).pins = s.pins := by
  unfold State.formShelter
  split
  · rfl
  · dsimp only; split <;> simp
@[simp] theorem State.formShelter_time :
    (s.formShelter).time = s.time := by
  unfold State.formShelter
  split
  · rfl
  · dsimp only; split <;> simp
@[simp] theorem State.formShelter_model :
    (s.formShelter).model = s.model := by
  unfold State.formShelter
  split
  · rfl
  · dsimp only; split <;> simp
@[simp] theorem State.formShelter_inputs :
    (s.formShelter).inputs = s.inputs := by
  unfold State.formShelter
  split
  · rfl
  · dsimp only; split <;> simp
@[simp] theorem State.formShelter_steps :
    (s.formShelter).steps = s.steps := by
  unfold State.formShelter
  split
  · rfl
  · dsimp only; split <;> simp
@[simp] theorem State.formShelter_faults :
    (s.formShelter).faults = s.faults := by
  unfold State.formShelter
  split
  · rfl
  · dsimp only; split <;> simp
@[simp] theorem State.formShelter_ports :
    (s.formShelter).ports = s.ports := by
  unfold State.formShelter
  split
  · rfl
  · dsimp only; split <;> simp
@[simp] theorem State.formShelter_inForce :
    (s.formShelter).inForce = s.inForce := by
  unfold State.formShelter
  split
  · rfl
  · dsimp only; split <;> simp
@[simp] theorem State.formShelter_pendingItems :
    (s.formShelter).pendingItems = s.pendingItems := by
  unfold State.formShelter
  split
  · rfl
  · dsimp only; split <;> simp
@[simp] theorem State.formShelter_expiries :
    (s.formShelter).expiries = s.expiries := by
  unfold State.formShelter
  split
  · rfl
  · dsimp only; split <;> simp
@[simp] theorem State.formShelter_orderDraws :
    (s.formShelter).orderDraws = s.orderDraws := by
  unfold State.formShelter
  split
  · rfl
  · dsimp only; split <;> simp

end Sys2Proof.Machine
end

