-- ==== Sys2Proof/Laws/Events.lean ====
section
/-! SUPPORT. What selection, the stages and the turns of a demand event leave unchanged, field by field; what a scan can
do, said once; and that every order of turns takes each turn once. -/

namespace Sys2Proof.Machine

variable (s : State)

/-! ### endPending -/

@[simp] theorem State.endPending_pending (o : EndOutcome) (e : Entry) :
    (s.endPending o e).pending = s.pending := rfl
@[simp] theorem State.endPending_resetLow (o : EndOutcome) (e : Entry) :
    (s.endPending o e).resetLow = s.resetLow := rfl
@[simp] theorem State.endPending_pins (o : EndOutcome) (e : Entry) : (s.endPending o e).pins = s.pins := rfl
@[simp] theorem State.endPending_time (o : EndOutcome) (e : Entry) : (s.endPending o e).time = s.time := rfl
@[simp] theorem State.endPending_inputs (o : EndOutcome) (e : Entry) :
    (s.endPending o e).inputs = s.inputs := rfl
@[simp] theorem State.endPending_ports (o : EndOutcome) (e : Entry) :
    (s.endPending o e).ports = s.ports := rfl
@[simp] theorem State.endPending_inForce (o : EndOutcome) (e : Entry) :
    (s.endPending o e).inForce = s.inForce := rfl
@[simp] theorem State.endPending_pendingItems (o : EndOutcome) (e : Entry) :
    (s.endPending o e).pendingItems = s.pendingItems := rfl
@[simp] theorem State.endPending_orderDraws (o : EndOutcome) (e : Entry) :
    (s.endPending o e).orderDraws = s.orderDraws := rfl

/-! ### releaseStale -/

@[simp] theorem State.releaseStale_pending (e : Entry) : (s.releaseStale e).pending = s.pending := rfl
@[simp] theorem State.releaseStale_resetLow (e : Entry) : (s.releaseStale e).resetLow = s.resetLow := rfl
@[simp] theorem State.releaseStale_pins (e : Entry) : (s.releaseStale e).pins = s.pins := rfl
@[simp] theorem State.releaseStale_time (e : Entry) : (s.releaseStale e).time = s.time := rfl
@[simp] theorem State.releaseStale_inputs (e : Entry) : (s.releaseStale e).inputs = s.inputs := rfl
@[simp] theorem State.releaseStale_ports (e : Entry) : (s.releaseStale e).ports = s.ports := rfl
@[simp] theorem State.releaseStale_inForce (e : Entry) : (s.releaseStale e).inForce = s.inForce := rfl
@[simp] theorem State.releaseStale_pendingItems (e : Entry) :
    (s.releaseStale e).pendingItems = s.pendingItems := rfl
@[simp] theorem State.releaseStale_orderDraws (e : Entry) :
    (s.releaseStale e).orderDraws = s.orderDraws := rfl

/-! ### start -/

@[simp] theorem State.start_pending (e : Entry) (k az : Int) (keep : Bool) :
    (s.start e k az keep).pending = s.pending := by
  unfold State.start; dsimp only; split <;> rfl
@[simp] theorem State.start_resetLow (e : Entry) (k az : Int) (keep : Bool) :
    (s.start e k az keep).resetLow = s.resetLow := by
  unfold State.start; dsimp only; split <;> rfl
@[simp] theorem State.start_pins (e : Entry) (k az : Int) (keep : Bool) :
    (s.start e k az keep).pins = s.pins := by
  unfold State.start; dsimp only; split <;> rfl
@[simp] theorem State.start_time (e : Entry) (k az : Int) (keep : Bool) :
    (s.start e k az keep).time = s.time := by
  unfold State.start; dsimp only; split <;> rfl
@[simp] theorem State.start_inputs (e : Entry) (k az : Int) (keep : Bool) :
    (s.start e k az keep).inputs = s.inputs := by
  unfold State.start; dsimp only; split <;> rfl
@[simp] theorem State.start_ports (e : Entry) (k az : Int) (keep : Bool) :
    (s.start e k az keep).ports = s.ports := by
  unfold State.start; dsimp only; split <;> rfl
@[simp] theorem State.start_inForce (e : Entry) (k az : Int) (keep : Bool) :
    (s.start e k az keep).inForce = s.inForce := by
  unfold State.start; dsimp only; split <;> rfl
@[simp] theorem State.start_pendingItems (e : Entry) (k az : Int) (keep : Bool) :
    (s.start e k az keep).pendingItems = s.pendingItems := by
  unfold State.start; dsimp only; split <;> rfl
@[simp] theorem State.start_orderDraws (e : Entry) (k az : Int) (keep : Bool) :
    (s.start e k az keep).orderDraws = s.orderDraws := by
  unfold State.start; dsimp only; split <;> rfl

/-! ### wait -/

@[simp] theorem State.wait_pending (r : WaitReason) (b : Bool) : (s.wait r b).pending = s.pending := by
  unfold State.wait; dsimp only; split <;> split <;> rfl
@[simp] theorem State.wait_resetLow (r : WaitReason) (b : Bool) : (s.wait r b).resetLow = s.resetLow := by
  unfold State.wait; dsimp only; split <;> split <;> rfl
@[simp] theorem State.wait_pins (r : WaitReason) (b : Bool) : (s.wait r b).pins = s.pins := by
  unfold State.wait; dsimp only; split <;> split <;> rfl
@[simp] theorem State.wait_time (r : WaitReason) (b : Bool) : (s.wait r b).time = s.time := by
  unfold State.wait; dsimp only; split <;> split <;> rfl
@[simp] theorem State.wait_inputs (r : WaitReason) (b : Bool) : (s.wait r b).inputs = s.inputs := by
  unfold State.wait; dsimp only; split <;> split <;> rfl
@[simp] theorem State.wait_ports (r : WaitReason) (b : Bool) : (s.wait r b).ports = s.ports := by
  unfold State.wait; dsimp only; split <;> split <;> rfl
@[simp] theorem State.wait_inForce (r : WaitReason) (b : Bool) : (s.wait r b).inForce = s.inForce := by
  unfold State.wait; dsimp only; split <;> split <;> rfl
@[simp] theorem State.wait_pendingItems (r : WaitReason) (b : Bool) :
    (s.wait r b).pendingItems = s.pendingItems := by
  unfold State.wait; dsimp only; split <;> split <;> rfl
@[simp] theorem State.wait_orderDraws (r : WaitReason) (b : Bool) :
    (s.wait r b).orderDraws = s.orderDraws := by
  unfold State.wait; dsimp only; split <;> split <;> rfl

/-! ### What a scan can do -/

/-- The first element that passes a test, after the first one that passes it was replaced by one that passes it too. -/
theorem find?_updateFirst {α : Type} {p : α → Bool} {f : α → α} (hf : ∀ x, p x = true → p (f x) = true)
    (l : List α) : (updateFirst p f l).find? p = (l.find? p).map f := by
  induction l with
  | nil => rfl
  | cons x rest ih =>
    unfold updateFirst
    by_cases hx : p x = true
    · simp [hx, hf x hx]
    · simp [hx, ih]

/-- The first PENDING entry stays the first, its stale segments gone (R48). -/
theorem State.releaseStale_firstPending {e : Entry} (h : s.firstPending = some e) :
    (s.releaseStale e).firstPending = some (e.releaseStale s.time.mountTime) := by
  have hp : ∀ x : Entry, x.isPending = true → (x.releaseStale s.time.mountTime).isPending = true :=
    fun _ hx => hx
  show (updateFirst Entry.isPending _ s.night.entries).find? Entry.isPending = _
  rw [find?_updateFirst hp]
  unfold State.firstPending at h
  rw [h]
  rfl

/-- What a scan can do (R104): after ending entries and releasing stale segments, each time of the entry that is then
the first PENDING one, it ends in a wait or starts the first PENDING entry. `P` is whatever those two keep. -/
theorem State.scan_cases {P : State → Prop} (b : Bool)
    (hend : ∀ s e o, P s → s.firstPending = some e → P (s.endPending o e))
    (hrel : ∀ s e, P s → s.firstPending = some e → P (s.releaseStale e)) (n : Nat) (s : State) (hs : P s) :
    ∃ s', P s' ∧ ((∃ r, State.scan b n s = s'.wait r b) ∨
      ∃ e k az, s'.firstPending = some e ∧
        State.scan b n s = s'.start e k az (b && e.record.carryGuide)) := by
  induction n generalizing s with
  | zero => exact ⟨s, hs, .inl ⟨.nonePending, rfl⟩⟩
  | succ n ih =>
    unfold State.scan
    split
    · exact ⟨s, hs, .inl ⟨.nonePending, rfl⟩⟩
    · rename_i e he
      split
      · exact ih _ (hend s e _ hs he)
      · rename_i r _; exact ⟨s, hs, .inl ⟨r, rfl⟩⟩
      · rename_i k az hv
        exfalso
        unfold windowVerdict at hv
        split at hv
        · cases hv
        · split at hv <;> cases hv
      · have h1 := hrel s e hs he
        have hf := s.releaseStale_firstPending he
        dsimp only
        split
        · exact ih _ (hend _ _ _ h1 hf)
        · rename_i r _; exact ⟨_, h1, .inl ⟨r, rfl⟩⟩
        · rename_i k az _; exact ⟨_, h1, .inr ⟨_, k, az, hf, rfl⟩⟩

/-! ### scan -/

@[simp] theorem State.scan_pending (b : Bool) (n : Nat) : (State.scan b n s).pending = s.pending := by
  obtain ⟨s', hs', h⟩ := State.scan_cases (P := fun x => x.pending = s.pending) b
    (fun _ _ _ h _ => by simpa using h) (fun _ _ h _ => by simpa using h) n s rfl
  rcases h with ⟨r, h⟩ | ⟨e, k, az, _, h⟩ <;> rw [h] <;> simpa using hs'
@[simp] theorem State.scan_resetLow (b : Bool) (n : Nat) : (State.scan b n s).resetLow = s.resetLow := by
  obtain ⟨s', hs', h⟩ := State.scan_cases (P := fun x => x.resetLow = s.resetLow) b
    (fun _ _ _ h _ => by simpa using h) (fun _ _ h _ => by simpa using h) n s rfl
  rcases h with ⟨r, h⟩ | ⟨e, k, az, _, h⟩ <;> rw [h] <;> simpa using hs'
@[simp] theorem State.scan_pins (b : Bool) (n : Nat) : (State.scan b n s).pins = s.pins := by
  obtain ⟨s', hs', h⟩ := State.scan_cases (P := fun x => x.pins = s.pins) b
    (fun _ _ _ h _ => by simpa using h) (fun _ _ h _ => by simpa using h) n s rfl
  rcases h with ⟨r, h⟩ | ⟨e, k, az, _, h⟩ <;> rw [h] <;> simpa using hs'
@[simp] theorem State.scan_time (b : Bool) (n : Nat) : (State.scan b n s).time = s.time := by
  obtain ⟨s', hs', h⟩ := State.scan_cases (P := fun x => x.time = s.time) b
    (fun _ _ _ h _ => by simpa using h) (fun _ _ h _ => by simpa using h) n s rfl
  rcases h with ⟨r, h⟩ | ⟨e, k, az, _, h⟩ <;> rw [h] <;> simpa using hs'
@[simp] theorem State.scan_inputs (b : Bool) (n : Nat) : (State.scan b n s).inputs = s.inputs := by
  obtain ⟨s', hs', h⟩ := State.scan_cases (P := fun x => x.inputs = s.inputs) b
    (fun _ _ _ h _ => by simpa using h) (fun _ _ h _ => by simpa using h) n s rfl
  rcases h with ⟨r, h⟩ | ⟨e, k, az, _, h⟩ <;> rw [h] <;> simpa using hs'
@[simp] theorem State.scan_ports (b : Bool) (n : Nat) : (State.scan b n s).ports = s.ports := by
  obtain ⟨s', hs', h⟩ := State.scan_cases (P := fun x => x.ports = s.ports) b
    (fun _ _ _ h _ => by simpa using h) (fun _ _ h _ => by simpa using h) n s rfl
  rcases h with ⟨r, h⟩ | ⟨e, k, az, _, h⟩ <;> rw [h] <;> simpa using hs'
@[simp] theorem State.scan_inForce (b : Bool) (n : Nat) : (State.scan b n s).inForce = s.inForce := by
  obtain ⟨s', hs', h⟩ := State.scan_cases (P := fun x => x.inForce = s.inForce) b
    (fun _ _ _ h _ => by simpa using h) (fun _ _ h _ => by simpa using h) n s rfl
  rcases h with ⟨r, h⟩ | ⟨e, k, az, _, h⟩ <;> rw [h] <;> simpa using hs'
@[simp] theorem State.scan_pendingItems (b : Bool) (n : Nat) : (State.scan b n s).pendingItems = s.pendingItems := by
  obtain ⟨s', hs', h⟩ := State.scan_cases (P := fun x => x.pendingItems = s.pendingItems) b
    (fun _ _ _ h _ => by simpa using h) (fun _ _ h _ => by simpa using h) n s rfl
  rcases h with ⟨r, h⟩ | ⟨e, k, az, _, h⟩ <;> rw [h] <;> simpa using hs'
@[simp] theorem State.scan_orderDraws (b : Bool) (n : Nat) : (State.scan b n s).orderDraws = s.orderDraws := by
  obtain ⟨s', hs', h⟩ := State.scan_cases (P := fun x => x.orderDraws = s.orderDraws) b
    (fun _ _ _ h _ => by simpa using h) (fun _ _ h _ => by simpa using h) n s rfl
  rcases h with ⟨r, h⟩ | ⟨e, k, az, _, h⟩ <;> rw [h] <;> simpa using hs'

/-! ### select -/

@[simp] theorem State.select_pending (b : Bool) : (s.select b).pending = s.pending := by
  unfold State.select; simp
@[simp] theorem State.select_resetLow (b : Bool) : (s.select b).resetLow = s.resetLow := by
  unfold State.select; simp
@[simp] theorem State.select_pins (b : Bool) : (s.select b).pins = s.pins := by
  unfold State.select; simp
@[simp] theorem State.select_time (b : Bool) : (s.select b).time = s.time := by
  unfold State.select; simp
@[simp] theorem State.select_inputs (b : Bool) : (s.select b).inputs = s.inputs := by
  unfold State.select; simp
@[simp] theorem State.select_ports (b : Bool) : (s.select b).ports = s.ports := by
  unfold State.select; simp
@[simp] theorem State.select_inForce (b : Bool) : (s.select b).inForce = s.inForce := by
  unfold State.select; simp
@[simp] theorem State.select_pendingItems (b : Bool) : (s.select b).pendingItems = s.pendingItems := by
  unfold State.select; simp
@[simp] theorem State.select_orderDraws (b : Bool) : (s.select b).orderDraws = s.orderDraws := by
  unfold State.select; simp

/-! ### endAndSelect -/

@[simp] theorem State.endAndSelect_pending (o : EndOutcome) : (s.endAndSelect o).pending = s.pending := by
  unfold State.endAndSelect; simp
@[simp] theorem State.endAndSelect_resetLow (o : EndOutcome) : (s.endAndSelect o).resetLow = s.resetLow := by
  unfold State.endAndSelect; simp
@[simp] theorem State.endAndSelect_pins (o : EndOutcome) : (s.endAndSelect o).pins = s.pins := by
  unfold State.endAndSelect; simp
@[simp] theorem State.endAndSelect_time (o : EndOutcome) : (s.endAndSelect o).time = s.time := by
  unfold State.endAndSelect; simp
@[simp] theorem State.endAndSelect_inputs (o : EndOutcome) : (s.endAndSelect o).inputs = s.inputs := by
  unfold State.endAndSelect; simp
@[simp] theorem State.endAndSelect_ports (o : EndOutcome) : (s.endAndSelect o).ports = s.ports := by
  unfold State.endAndSelect; simp
@[simp] theorem State.endAndSelect_inForce (o : EndOutcome) : (s.endAndSelect o).inForce = s.inForce := by
  unfold State.endAndSelect; simp
@[simp] theorem State.endAndSelect_pendingItems (o : EndOutcome) :
    (s.endAndSelect o).pendingItems = s.pendingItems := by
  unfold State.endAndSelect; simp
@[simp] theorem State.endAndSelect_orderDraws (o : EndOutcome) :
    (s.endAndSelect o).orderDraws = s.orderDraws := by
  unfold State.endAndSelect; simp

/-! ### capture -/

@[simp] theorem State.capture_pending : (s.capture).pending = s.pending := by
  unfold State.capture; dsimp only; split <;> simp
@[simp] theorem State.capture_resetLow : (s.capture).resetLow = s.resetLow := by
  unfold State.capture; dsimp only; split <;> simp
@[simp] theorem State.capture_pins : (s.capture).pins = s.pins := by
  unfold State.capture; dsimp only; split <;> simp
@[simp] theorem State.capture_time : (s.capture).time = s.time := by
  unfold State.capture; dsimp only; split <;> simp
@[simp] theorem State.capture_inputs : (s.capture).inputs = s.inputs := by
  unfold State.capture; dsimp only; split <;> simp
@[simp] theorem State.capture_ports : (s.capture).ports = s.ports := by
  unfold State.capture; dsimp only; split <;> simp
@[simp] theorem State.capture_inForce : (s.capture).inForce = s.inForce := by
  unfold State.capture; dsimp only; split <;> simp
@[simp] theorem State.capture_pendingItems : (s.capture).pendingItems = s.pendingItems := by
  unfold State.capture; dsimp only; split <;> simp
@[simp] theorem State.capture_orderDraws : (s.capture).orderDraws = s.orderDraws := by
  unfold State.capture; dsimp only; split <;> simp

/-! ### settleEnds -/

@[simp] theorem State.settleEnds_pending : (s.settleEnds).pending = s.pending := by
  unfold State.settleEnds; simp
@[simp] theorem State.settleEnds_resetLow : (s.settleEnds).resetLow = s.resetLow := by
  unfold State.settleEnds; simp
@[simp] theorem State.settleEnds_pins : (s.settleEnds).pins = s.pins := by
  unfold State.settleEnds; simp
@[simp] theorem State.settleEnds_time : (s.settleEnds).time = s.time := by
  unfold State.settleEnds; simp
@[simp] theorem State.settleEnds_inputs : (s.settleEnds).inputs = s.inputs := by
  unfold State.settleEnds; simp
@[simp] theorem State.settleEnds_ports : (s.settleEnds).ports = s.ports := by
  unfold State.settleEnds; simp
@[simp] theorem State.settleEnds_inForce : (s.settleEnds).inForce = s.inForce := by
  unfold State.settleEnds; simp
@[simp] theorem State.settleEnds_pendingItems : (s.settleEnds).pendingItems = s.pendingItems := by
  unfold State.settleEnds; simp
@[simp] theorem State.settleEnds_orderDraws : (s.settleEnds).orderDraws = s.orderDraws := by
  unfold State.settleEnds; simp

/-! ### dwellEnds -/

@[simp] theorem State.dwellEnds_pending (n : Nat) : (s.dwellEnds n).pending = s.pending := by
  unfold State.dwellEnds; dsimp only; split <;> simp
@[simp] theorem State.dwellEnds_resetLow (n : Nat) : (s.dwellEnds n).resetLow = s.resetLow := by
  unfold State.dwellEnds; dsimp only; split <;> simp
@[simp] theorem State.dwellEnds_pins (n : Nat) : (s.dwellEnds n).pins = s.pins := by
  unfold State.dwellEnds; dsimp only; split <;> simp
@[simp] theorem State.dwellEnds_time (n : Nat) : (s.dwellEnds n).time = s.time := by
  unfold State.dwellEnds; dsimp only; split <;> simp
@[simp] theorem State.dwellEnds_inputs (n : Nat) : (s.dwellEnds n).inputs = s.inputs := by
  unfold State.dwellEnds; dsimp only; split <;> simp
@[simp] theorem State.dwellEnds_ports (n : Nat) : (s.dwellEnds n).ports = s.ports := by
  unfold State.dwellEnds; dsimp only; split <;> simp
@[simp] theorem State.dwellEnds_inForce (n : Nat) : (s.dwellEnds n).inForce = s.inForce := by
  unfold State.dwellEnds; dsimp only; split <;> simp
@[simp] theorem State.dwellEnds_pendingItems (n : Nat) : (s.dwellEnds n).pendingItems = s.pendingItems := by
  unfold State.dwellEnds; dsimp only; split <;> simp
@[simp] theorem State.dwellEnds_orderDraws (n : Nat) : (s.dwellEnds n).orderDraws = s.orderDraws := by
  unfold State.dwellEnds; dsimp only; split <;> simp

/-! ### countHold -/

@[simp] theorem State.countHold_pending : (s.countHold).pending = s.pending := rfl
@[simp] theorem State.countHold_resetLow : (s.countHold).resetLow = s.resetLow := rfl
@[simp] theorem State.countHold_pins : (s.countHold).pins = s.pins := rfl
@[simp] theorem State.countHold_time : (s.countHold).time = s.time := rfl
@[simp] theorem State.countHold_inputs : (s.countHold).inputs = s.inputs := rfl
@[simp] theorem State.countHold_ports : (s.countHold).ports = s.ports := rfl
@[simp] theorem State.countHold_inForce : (s.countHold).inForce = s.inForce := rfl
@[simp] theorem State.countHold_pendingItems : (s.countHold).pendingItems = s.pendingItems := rfl
@[simp] theorem State.countHold_orderDraws : (s.countHold).orderDraws = s.orderDraws := rfl

/-! ### arrive -/

@[simp] theorem State.arrive_pending (d : StopDest) : (s.arrive d).pending = s.pending := by
  unfold State.arrive; split <;> simp
@[simp] theorem State.arrive_resetLow (d : StopDest) : (s.arrive d).resetLow = s.resetLow := by
  unfold State.arrive; split <;> simp
@[simp] theorem State.arrive_pins (d : StopDest) : (s.arrive d).pins = s.pins := by
  unfold State.arrive; split <;> simp
@[simp] theorem State.arrive_time (d : StopDest) : (s.arrive d).time = s.time := by
  unfold State.arrive; split <;> simp
@[simp] theorem State.arrive_inputs (d : StopDest) : (s.arrive d).inputs = s.inputs := by
  unfold State.arrive; split <;> simp
@[simp] theorem State.arrive_ports (d : StopDest) : (s.arrive d).ports = s.ports := by
  unfold State.arrive; split <;> simp
@[simp] theorem State.arrive_inForce (d : StopDest) : (s.arrive d).inForce = s.inForce := by
  unfold State.arrive; split <;> simp
@[simp] theorem State.arrive_pendingItems (d : StopDest) : (s.arrive d).pendingItems = s.pendingItems := by
  unfold State.arrive; split <;> simp
@[simp] theorem State.arrive_orderDraws (d : StopDest) : (s.arrive d).orderDraws = s.orderDraws := by
  unfold State.arrive; split <;> simp

/-! ### parkArrives -/

@[simp] theorem State.parkArrives_pending : (s.parkArrives).pending = s.pending := rfl
@[simp] theorem State.parkArrives_resetLow : (s.parkArrives).resetLow = s.resetLow := rfl
@[simp] theorem State.parkArrives_pins : (s.parkArrives).pins = s.pins := rfl
@[simp] theorem State.parkArrives_time : (s.parkArrives).time = s.time := rfl
@[simp] theorem State.parkArrives_inputs : (s.parkArrives).inputs = s.inputs := rfl
@[simp] theorem State.parkArrives_ports : (s.parkArrives).ports = s.ports := rfl
@[simp] theorem State.parkArrives_inForce : (s.parkArrives).inForce = s.inForce := rfl
@[simp] theorem State.parkArrives_pendingItems : (s.parkArrives).pendingItems = s.pendingItems := rfl
@[simp] theorem State.parkArrives_orderDraws : (s.parkArrives).orderDraws = s.orderDraws := rfl

/-! ### decideSlewing -/

@[simp] theorem State.decideSlewing_pending (x : BaseStage) (n : Nat) :
    (s.decideSlewing x n).pending = s.pending := by
  unfold State.decideSlewing; repeat' split
  all_goals simp
@[simp] theorem State.decideSlewing_resetLow (x : BaseStage) (n : Nat) :
    (s.decideSlewing x n).resetLow = s.resetLow := by
  unfold State.decideSlewing; repeat' split
  all_goals simp
@[simp] theorem State.decideSlewing_pins (x : BaseStage) (n : Nat) : (s.decideSlewing x n).pins = s.pins := by
  unfold State.decideSlewing; repeat' split
  all_goals simp
@[simp] theorem State.decideSlewing_time (x : BaseStage) (n : Nat) : (s.decideSlewing x n).time = s.time := by
  unfold State.decideSlewing; repeat' split
  all_goals simp
@[simp] theorem State.decideSlewing_inputs (x : BaseStage) (n : Nat) :
    (s.decideSlewing x n).inputs = s.inputs := by
  unfold State.decideSlewing; repeat' split
  all_goals simp
@[simp] theorem State.decideSlewing_ports (x : BaseStage) (n : Nat) :
    (s.decideSlewing x n).ports = s.ports := by
  unfold State.decideSlewing; repeat' split
  all_goals simp
@[simp] theorem State.decideSlewing_inForce (x : BaseStage) (n : Nat) :
    (s.decideSlewing x n).inForce = s.inForce := by
  unfold State.decideSlewing; repeat' split
  all_goals simp
@[simp] theorem State.decideSlewing_pendingItems (x : BaseStage) (n : Nat) :
    (s.decideSlewing x n).pendingItems = s.pendingItems := by
  unfold State.decideSlewing; repeat' split
  all_goals simp
@[simp] theorem State.decideSlewing_orderDraws (x : BaseStage) (n : Nat) :
    (s.decideSlewing x n).orderDraws = s.orderDraws := by
  unfold State.decideSlewing; repeat' split
  all_goals simp

/-! ### decideSettling -/

@[simp] theorem State.decideSettling_pending (r c : Bool) (n : Nat) :
    (s.decideSettling r c n).pending = s.pending := by
  unfold State.decideSettling; repeat' split
  all_goals simp
@[simp] theorem State.decideSettling_resetLow (r c : Bool) (n : Nat) :
    (s.decideSettling r c n).resetLow = s.resetLow := by
  unfold State.decideSettling; repeat' split
  all_goals simp
@[simp] theorem State.decideSettling_pins (r c : Bool) (n : Nat) :
    (s.decideSettling r c n).pins = s.pins := by
  unfold State.decideSettling; repeat' split
  all_goals simp
@[simp] theorem State.decideSettling_time (r c : Bool) (n : Nat) :
    (s.decideSettling r c n).time = s.time := by
  unfold State.decideSettling; repeat' split
  all_goals simp
@[simp] theorem State.decideSettling_inputs (r c : Bool) (n : Nat) :
    (s.decideSettling r c n).inputs = s.inputs := by
  unfold State.decideSettling; repeat' split
  all_goals simp
@[simp] theorem State.decideSettling_ports (r c : Bool) (n : Nat) :
    (s.decideSettling r c n).ports = s.ports := by
  unfold State.decideSettling; repeat' split
  all_goals simp
@[simp] theorem State.decideSettling_inForce (r c : Bool) (n : Nat) :
    (s.decideSettling r c n).inForce = s.inForce := by
  unfold State.decideSettling; repeat' split
  all_goals simp
@[simp] theorem State.decideSettling_pendingItems (r c : Bool) (n : Nat) :
    (s.decideSettling r c n).pendingItems = s.pendingItems := by
  unfold State.decideSettling; repeat' split
  all_goals simp
@[simp] theorem State.decideSettling_orderDraws (r c : Bool) (n : Nat) :
    (s.decideSettling r c n).orderDraws = s.orderDraws := by
  unfold State.decideSettling; repeat' split
  all_goals simp

/-! ### decideTracking -/

@[simp] theorem State.decideTracking_pending (r c : Bool) (n : Nat) :
    (s.decideTracking r c n).pending = s.pending := by
  unfold State.decideTracking; dsimp only; repeat' split
  all_goals simp
@[simp] theorem State.decideTracking_resetLow (r c : Bool) (n : Nat) :
    (s.decideTracking r c n).resetLow = s.resetLow := by
  unfold State.decideTracking; dsimp only; repeat' split
  all_goals simp
@[simp] theorem State.decideTracking_pins (r c : Bool) (n : Nat) :
    (s.decideTracking r c n).pins = s.pins := by
  unfold State.decideTracking; dsimp only; repeat' split
  all_goals simp
@[simp] theorem State.decideTracking_time (r c : Bool) (n : Nat) :
    (s.decideTracking r c n).time = s.time := by
  unfold State.decideTracking; dsimp only; repeat' split
  all_goals simp
@[simp] theorem State.decideTracking_inputs (r c : Bool) (n : Nat) :
    (s.decideTracking r c n).inputs = s.inputs := by
  unfold State.decideTracking; dsimp only; repeat' split
  all_goals simp
@[simp] theorem State.decideTracking_ports (r c : Bool) (n : Nat) :
    (s.decideTracking r c n).ports = s.ports := by
  unfold State.decideTracking; dsimp only; repeat' split
  all_goals simp
@[simp] theorem State.decideTracking_inForce (r c : Bool) (n : Nat) :
    (s.decideTracking r c n).inForce = s.inForce := by
  unfold State.decideTracking; dsimp only; repeat' split
  all_goals simp
@[simp] theorem State.decideTracking_pendingItems (r c : Bool) (n : Nat) :
    (s.decideTracking r c n).pendingItems = s.pendingItems := by
  unfold State.decideTracking; dsimp only; repeat' split
  all_goals simp
@[simp] theorem State.decideTracking_orderDraws (r c : Bool) (n : Nat) :
    (s.decideTracking r c n).orderDraws = s.orderDraws := by
  unfold State.decideTracking; dsimp only; repeat' split
  all_goals simp

/-! ### decideHolding -/

@[simp] theorem State.decideHolding_pending (r c : Bool) : (s.decideHolding r c).pending = s.pending := by
  unfold State.decideHolding; dsimp only; repeat' split
  all_goals simp
@[simp] theorem State.decideHolding_resetLow (r c : Bool) : (s.decideHolding r c).resetLow = s.resetLow := by
  unfold State.decideHolding; dsimp only; repeat' split
  all_goals simp
@[simp] theorem State.decideHolding_pins (r c : Bool) : (s.decideHolding r c).pins = s.pins := by
  unfold State.decideHolding; dsimp only; repeat' split
  all_goals simp
@[simp] theorem State.decideHolding_time (r c : Bool) : (s.decideHolding r c).time = s.time := by
  unfold State.decideHolding; dsimp only; repeat' split
  all_goals simp
@[simp] theorem State.decideHolding_inputs (r c : Bool) : (s.decideHolding r c).inputs = s.inputs := by
  unfold State.decideHolding; dsimp only; repeat' split
  all_goals simp
@[simp] theorem State.decideHolding_ports (r c : Bool) : (s.decideHolding r c).ports = s.ports := by
  unfold State.decideHolding; dsimp only; repeat' split
  all_goals simp
@[simp] theorem State.decideHolding_inForce (r c : Bool) : (s.decideHolding r c).inForce = s.inForce := by
  unfold State.decideHolding; dsimp only; repeat' split
  all_goals simp
@[simp] theorem State.decideHolding_pendingItems (r c : Bool) :
    (s.decideHolding r c).pendingItems = s.pendingItems := by
  unfold State.decideHolding; dsimp only; repeat' split
  all_goals simp
@[simp] theorem State.decideHolding_orderDraws (r c : Bool) :
    (s.decideHolding r c).orderDraws = s.orderDraws := by
  unfold State.decideHolding; dsimp only; repeat' split
  all_goals simp

/-! ### takeDecision -/

@[simp] theorem State.takeDecision_pending (x : BaseStage) (c : Bool) :
    (s.takeDecision x c).pending = s.pending := by
  unfold State.takeDecision; repeat' split
  all_goals simp
@[simp] theorem State.takeDecision_resetLow (x : BaseStage) (c : Bool) :
    (s.takeDecision x c).resetLow = s.resetLow := by
  unfold State.takeDecision; repeat' split
  all_goals simp
@[simp] theorem State.takeDecision_pins (x : BaseStage) (c : Bool) : (s.takeDecision x c).pins = s.pins := by
  unfold State.takeDecision; repeat' split
  all_goals simp
@[simp] theorem State.takeDecision_time (x : BaseStage) (c : Bool) : (s.takeDecision x c).time = s.time := by
  unfold State.takeDecision; repeat' split
  all_goals simp
@[simp] theorem State.takeDecision_inputs (x : BaseStage) (c : Bool) :
    (s.takeDecision x c).inputs = s.inputs := by
  unfold State.takeDecision; repeat' split
  all_goals simp
@[simp] theorem State.takeDecision_ports (x : BaseStage) (c : Bool) :
    (s.takeDecision x c).ports = s.ports := by
  unfold State.takeDecision; repeat' split
  all_goals simp
@[simp] theorem State.takeDecision_inForce (x : BaseStage) (c : Bool) :
    (s.takeDecision x c).inForce = s.inForce := by
  unfold State.takeDecision; repeat' split
  all_goals simp
@[simp] theorem State.takeDecision_pendingItems (x : BaseStage) (c : Bool) :
    (s.takeDecision x c).pendingItems = s.pendingItems := by
  unfold State.takeDecision; repeat' split
  all_goals simp
@[simp] theorem State.takeDecision_orderDraws (x : BaseStage) (c : Bool) :
    (s.takeDecision x c).orderDraws = s.orderDraws := by
  unfold State.takeDecision; repeat' split
  all_goals simp

/-! ### judgeAlignment -/

@[simp] theorem State.judgeAlignment_pending : (s.judgeAlignment).pending = s.pending := by
  unfold State.judgeAlignment; split
  · rfl
  · dsimp only; split <;> rfl
@[simp] theorem State.judgeAlignment_resetLow : (s.judgeAlignment).resetLow = s.resetLow := by
  unfold State.judgeAlignment; split
  · rfl
  · dsimp only; split <;> rfl
@[simp] theorem State.judgeAlignment_pins : (s.judgeAlignment).pins = s.pins := by
  unfold State.judgeAlignment; split
  · rfl
  · dsimp only; split <;> rfl
@[simp] theorem State.judgeAlignment_time : (s.judgeAlignment).time = s.time := by
  unfold State.judgeAlignment; split
  · rfl
  · dsimp only; split <;> rfl
@[simp] theorem State.judgeAlignment_inputs : (s.judgeAlignment).inputs = s.inputs := by
  unfold State.judgeAlignment; split
  · rfl
  · dsimp only; split <;> rfl
@[simp] theorem State.judgeAlignment_ports : (s.judgeAlignment).ports = s.ports := by
  unfold State.judgeAlignment; split
  · rfl
  · dsimp only; split <;> rfl
@[simp] theorem State.judgeAlignment_inForce : (s.judgeAlignment).inForce = s.inForce := by
  unfold State.judgeAlignment; split
  · rfl
  · dsimp only; split <;> rfl
@[simp] theorem State.judgeAlignment_pendingItems : (s.judgeAlignment).pendingItems = s.pendingItems := by
  unfold State.judgeAlignment; split
  · rfl
  · dsimp only; split <;> rfl
@[simp] theorem State.judgeAlignment_orderDraws : (s.judgeAlignment).orderDraws = s.orderDraws := by
  unfold State.judgeAlignment; split
  · rfl
  · dsimp only; split <;> rfl

@[simp] theorem State.judgeAlignment_axes : (s.judgeAlignment).axes = s.axes := by
  unfold State.judgeAlignment; split
  · rfl
  · dsimp only; split <;> rfl
@[simp] theorem State.judgeAlignment_steps : (s.judgeAlignment).steps = s.steps := by
  unfold State.judgeAlignment; split
  · rfl
  · dsimp only; split <;> rfl

/-- With no report the alignment is UNKNOWN (R142). -/
theorem State.judgeAlignment_none (h : s.enclosure.report = none) :
    (s.judgeAlignment).enclosure = { s.enclosure with alignment := .unknown } := by
  unfold State.judgeAlignment; rw [h]

/-- A report is counted and judged against the AZ demand (R141, R142). -/
theorem State.judgeAlignment_some {r : EncReport} (h : s.enclosure.report = some r) :
    (s.judgeAlignment).enclosure =
      { s.enclosure with
        report := some { r with age := saturate 600001 r.age 1 }
        alignment :=
          judge s.inForce.encTimeout s.inForce.encTol { r with age := saturate 600001 r.age 1 }
            s.axes.az.demand } := by
  unfold State.judgeAlignment; rw [h]; dsimp only; split <;> rfl

/-! ### evaluateOnTarget -/

@[simp] theorem State.evaluateOnTarget_pending (r : Bool) : (s.evaluateOnTarget r).pending = s.pending := by
  unfold State.evaluateOnTarget; dsimp only; split <;> simp
@[simp] theorem State.evaluateOnTarget_resetLow (r : Bool) :
    (s.evaluateOnTarget r).resetLow = s.resetLow := by
  unfold State.evaluateOnTarget; dsimp only; split <;> simp
@[simp] theorem State.evaluateOnTarget_pins (r : Bool) : (s.evaluateOnTarget r).pins = s.pins := by
  unfold State.evaluateOnTarget; dsimp only; split <;> simp
@[simp] theorem State.evaluateOnTarget_time (r : Bool) : (s.evaluateOnTarget r).time = s.time := by
  unfold State.evaluateOnTarget; dsimp only; split <;> simp
@[simp] theorem State.evaluateOnTarget_inputs (r : Bool) : (s.evaluateOnTarget r).inputs = s.inputs := by
  unfold State.evaluateOnTarget; dsimp only; split <;> simp
@[simp] theorem State.evaluateOnTarget_ports (r : Bool) : (s.evaluateOnTarget r).ports = s.ports := by
  unfold State.evaluateOnTarget; dsimp only; split <;> simp
@[simp] theorem State.evaluateOnTarget_inForce (r : Bool) : (s.evaluateOnTarget r).inForce = s.inForce := by
  unfold State.evaluateOnTarget; dsimp only; split <;> simp
@[simp] theorem State.evaluateOnTarget_pendingItems (r : Bool) :
    (s.evaluateOnTarget r).pendingItems = s.pendingItems := by
  unfold State.evaluateOnTarget; dsimp only; split <;> simp
@[simp] theorem State.evaluateOnTarget_orderDraws (r : Bool) :
    (s.evaluateOnTarget r).orderDraws = s.orderDraws := by
  unfold State.evaluateOnTarget; dsimp only; split <;> simp

/-! ### recordLag -/

@[simp] theorem State.recordLag_pending : (s.recordLag).pending = s.pending := rfl
@[simp] theorem State.recordLag_resetLow : (s.recordLag).resetLow = s.resetLow := rfl
@[simp] theorem State.recordLag_pins : (s.recordLag).pins = s.pins := rfl
@[simp] theorem State.recordLag_time : (s.recordLag).time = s.time := rfl
@[simp] theorem State.recordLag_inputs : (s.recordLag).inputs = s.inputs := rfl
@[simp] theorem State.recordLag_ports : (s.recordLag).ports = s.ports := rfl
@[simp] theorem State.recordLag_inForce : (s.recordLag).inForce = s.inForce := rfl
@[simp] theorem State.recordLag_pendingItems : (s.recordLag).pendingItems = s.pendingItems := rfl
@[simp] theorem State.recordLag_orderDraws : (s.recordLag).orderDraws = s.orderDraws := rfl

/-! ### stepStage -/

@[simp] theorem State.stepStage_pending : (s.stepStage).pending = s.pending := rfl
@[simp] theorem State.stepStage_resetLow : (s.stepStage).resetLow = s.resetLow := rfl
@[simp] theorem State.stepStage_pins : (s.stepStage).pins = s.pins := rfl
@[simp] theorem State.stepStage_time : (s.stepStage).time = s.time := rfl
@[simp] theorem State.stepStage_inputs : (s.stepStage).inputs = s.inputs := rfl
@[simp] theorem State.stepStage_ports : (s.stepStage).ports = s.ports := rfl
@[simp] theorem State.stepStage_inForce : (s.stepStage).inForce = s.inForce := rfl
@[simp] theorem State.stepStage_pendingItems : (s.stepStage).pendingItems = s.pendingItems := rfl
@[simp] theorem State.stepStage_orderDraws : (s.stepStage).orderDraws = s.orderDraws := rfl

/-- Every axis takes its step (R87). -/
@[simp] theorem State.stepStage_axes :
    (s.stepStage).axes = (Axes.of s.stepCount).map₂ AxisState.step s.axes := rfl
/-- Every step output is handed its count (R72, R156). -/
@[simp] theorem State.stepStage_steps :
    (s.stepStage).steps = (Axes.of s.stepCount).map₂ StepOut.hand s.steps := rfl

/-! ### limitStage -/

@[simp] theorem State.limitStage_pending : (s.limitStage).pending = s.pending := rfl
@[simp] theorem State.limitStage_resetLow : (s.limitStage).resetLow = s.resetLow := rfl
@[simp] theorem State.limitStage_pins : (s.limitStage).pins = s.pins := rfl
@[simp] theorem State.limitStage_time : (s.limitStage).time = s.time := rfl
@[simp] theorem State.limitStage_inputs : (s.limitStage).inputs = s.inputs := rfl
@[simp] theorem State.limitStage_ports : (s.limitStage).ports = s.ports := rfl
@[simp] theorem State.limitStage_inForce : (s.limitStage).inForce = s.inForce := rfl
@[simp] theorem State.limitStage_pendingItems : (s.limitStage).pendingItems = s.pendingItems := rfl
@[simp] theorem State.limitStage_orderDraws : (s.limitStage).orderDraws = s.orderDraws := rfl

/-! ### takeMailbox -/

@[simp] theorem State.takeMailbox_pending : (s.takeMailbox).pending = s.pending := by
  unfold State.takeMailbox; split <;> rfl
@[simp] theorem State.takeMailbox_resetLow : (s.takeMailbox).resetLow = s.resetLow := by
  unfold State.takeMailbox; split <;> rfl
@[simp] theorem State.takeMailbox_pins : (s.takeMailbox).pins = s.pins := by
  unfold State.takeMailbox; split <;> rfl
@[simp] theorem State.takeMailbox_time : (s.takeMailbox).time = s.time := by
  unfold State.takeMailbox; split <;> rfl
@[simp] theorem State.takeMailbox_inputs : (s.takeMailbox).inputs = s.inputs := by
  unfold State.takeMailbox; split <;> rfl
@[simp] theorem State.takeMailbox_ports : (s.takeMailbox).ports = s.ports := by
  unfold State.takeMailbox; split <;> rfl
@[simp] theorem State.takeMailbox_inForce : (s.takeMailbox).inForce = s.inForce := by
  unfold State.takeMailbox; split <;> rfl
@[simp] theorem State.takeMailbox_pendingItems : (s.takeMailbox).pendingItems = s.pendingItems := by
  unfold State.takeMailbox; split <;> rfl
@[simp] theorem State.takeMailbox_orderDraws : (s.takeMailbox).orderDraws = s.orderDraws := by
  unfold State.takeMailbox; split <;> rfl

/-! ### countGuide -/

@[simp] theorem State.countGuide_pending : (s.countGuide).pending = s.pending := by
  unfold State.countGuide; repeat' split
  all_goals simp
@[simp] theorem State.countGuide_resetLow : (s.countGuide).resetLow = s.resetLow := by
  unfold State.countGuide; repeat' split
  all_goals simp
@[simp] theorem State.countGuide_pins : (s.countGuide).pins = s.pins := by
  unfold State.countGuide; repeat' split
  all_goals simp
@[simp] theorem State.countGuide_time : (s.countGuide).time = s.time := by
  unfold State.countGuide; repeat' split
  all_goals simp
@[simp] theorem State.countGuide_inputs : (s.countGuide).inputs = s.inputs := by
  unfold State.countGuide; repeat' split
  all_goals simp
@[simp] theorem State.countGuide_ports : (s.countGuide).ports = s.ports := by
  unfold State.countGuide; repeat' split
  all_goals simp
@[simp] theorem State.countGuide_inForce : (s.countGuide).inForce = s.inForce := by
  unfold State.countGuide; repeat' split
  all_goals simp
@[simp] theorem State.countGuide_pendingItems : (s.countGuide).pendingItems = s.pendingItems := by
  unfold State.countGuide; repeat' split
  all_goals simp
@[simp] theorem State.countGuide_orderDraws : (s.countGuide).orderDraws = s.orderDraws := by
  unfold State.countGuide; repeat' split
  all_goals simp

/-! ### guideStage -/

@[simp] theorem State.guideStage_pending (r : Bool) : (s.guideStage r).pending = s.pending := by
  unfold State.guideStage; repeat' split
  all_goals simp
@[simp] theorem State.guideStage_resetLow (r : Bool) : (s.guideStage r).resetLow = s.resetLow := by
  unfold State.guideStage; repeat' split
  all_goals simp
@[simp] theorem State.guideStage_pins (r : Bool) : (s.guideStage r).pins = s.pins := by
  unfold State.guideStage; repeat' split
  all_goals simp
@[simp] theorem State.guideStage_time (r : Bool) : (s.guideStage r).time = s.time := by
  unfold State.guideStage; repeat' split
  all_goals simp
@[simp] theorem State.guideStage_inputs (r : Bool) : (s.guideStage r).inputs = s.inputs := by
  unfold State.guideStage; repeat' split
  all_goals simp
@[simp] theorem State.guideStage_ports (r : Bool) : (s.guideStage r).ports = s.ports := by
  unfold State.guideStage; repeat' split
  all_goals simp
@[simp] theorem State.guideStage_inForce (r : Bool) : (s.guideStage r).inForce = s.inForce := by
  unfold State.guideStage; repeat' split
  all_goals simp
@[simp] theorem State.guideStage_pendingItems (r : Bool) :
    (s.guideStage r).pendingItems = s.pendingItems := by
  unfold State.guideStage; repeat' split
  all_goals simp
@[simp] theorem State.guideStage_orderDraws (r : Bool) : (s.guideStage r).orderDraws = s.orderDraws := by
  unfold State.guideStage; repeat' split
  all_goals simp

/-! ### blendStage -/

@[simp] theorem State.blendStage_pending (r : Bool) : (s.blendStage r).pending = s.pending := by
  unfold State.blendStage; simp
@[simp] theorem State.blendStage_resetLow (r : Bool) : (s.blendStage r).resetLow = s.resetLow := by
  unfold State.blendStage; simp
@[simp] theorem State.blendStage_pins (r : Bool) : (s.blendStage r).pins = s.pins := by
  unfold State.blendStage; simp
@[simp] theorem State.blendStage_time (r : Bool) : (s.blendStage r).time = s.time := by
  unfold State.blendStage; simp
@[simp] theorem State.blendStage_inputs (r : Bool) : (s.blendStage r).inputs = s.inputs := by
  unfold State.blendStage; simp
@[simp] theorem State.blendStage_ports (r : Bool) : (s.blendStage r).ports = s.ports := by
  unfold State.blendStage; simp
@[simp] theorem State.blendStage_inForce (r : Bool) : (s.blendStage r).inForce = s.inForce := by
  unfold State.blendStage; simp
@[simp] theorem State.blendStage_pendingItems (r : Bool) :
    (s.blendStage r).pendingItems = s.pendingItems := by
  unfold State.blendStage; simp
@[simp] theorem State.blendStage_orderDraws (r : Bool) : (s.blendStage r).orderDraws = s.orderDraws := by
  unfold State.blendStage; simp

/-! ### evaluateCorrection -/

@[simp] theorem State.evaluateCorrection_pending (az el : Int) :
    (s.evaluateCorrection az el).pending = s.pending := rfl
@[simp] theorem State.evaluateCorrection_resetLow (az el : Int) :
    (s.evaluateCorrection az el).resetLow = s.resetLow := rfl
@[simp] theorem State.evaluateCorrection_pins (az el : Int) :
    (s.evaluateCorrection az el).pins = s.pins := rfl
@[simp] theorem State.evaluateCorrection_time (az el : Int) :
    (s.evaluateCorrection az el).time = s.time := rfl
@[simp] theorem State.evaluateCorrection_night (az el : Int) :
    (s.evaluateCorrection az el).night = s.night := rfl
@[simp] theorem State.evaluateCorrection_free (az el : Int) :
    (s.evaluateCorrection az el).free = s.free := rfl
@[simp] theorem State.evaluateCorrection_model (az el : Int) :
    (s.evaluateCorrection az el).model =
      { s.model with
        last := modelCorrection s.model.cells s.model.pageInUse (roundCounts az) (roundCounts el) } := rfl
@[simp] theorem State.evaluateCorrection_engine (az el : Int) :
    (s.evaluateCorrection az el).engine = s.engine := rfl
@[simp] theorem State.evaluateCorrection_waitReason (az el : Int) :
    (s.evaluateCorrection az el).waitReason = s.waitReason := rfl
@[simp] theorem State.evaluateCorrection_axes (az el : Int) :
    (s.evaluateCorrection az el).axes = s.axes := rfl
@[simp] theorem State.evaluateCorrection_onTarget (az el : Int) :
    (s.evaluateCorrection az el).onTarget = s.onTarget := rfl
@[simp] theorem State.evaluateCorrection_guide (az el : Int) :
    (s.evaluateCorrection az el).guide = s.guide := rfl
@[simp] theorem State.evaluateCorrection_enclosure (az el : Int) :
    (s.evaluateCorrection az el).enclosure = s.enclosure := rfl
@[simp] theorem State.evaluateCorrection_inputs (az el : Int) :
    (s.evaluateCorrection az el).inputs = s.inputs := rfl
@[simp] theorem State.evaluateCorrection_steps (az el : Int) :
    (s.evaluateCorrection az el).steps = s.steps := rfl
@[simp] theorem State.evaluateCorrection_enable (az el : Int) :
    (s.evaluateCorrection az el).enable = s.enable := rfl
@[simp] theorem State.evaluateCorrection_lines (az el : Int) :
    (s.evaluateCorrection az el).lines = s.lines := rfl
@[simp] theorem State.evaluateCorrection_faults (az el : Int) :
    (s.evaluateCorrection az el).faults = s.faults := rfl
@[simp] theorem State.evaluateCorrection_notices (az el : Int) :
    (s.evaluateCorrection az el).notices = s.notices := rfl
@[simp] theorem State.evaluateCorrection_ports (az el : Int) :
    (s.evaluateCorrection az el).ports = s.ports := rfl
@[simp] theorem State.evaluateCorrection_inForce (az el : Int) :
    (s.evaluateCorrection az el).inForce = s.inForce := rfl
@[simp] theorem State.evaluateCorrection_pendingItems (az el : Int) :
    (s.evaluateCorrection az el).pendingItems = s.pendingItems := rfl
@[simp] theorem State.evaluateCorrection_expiries (az el : Int) :
    (s.evaluateCorrection az el).expiries = s.expiries := rfl
@[simp] theorem State.evaluateCorrection_orderDraws (az el : Int) :
    (s.evaluateCorrection az el).orderDraws = s.orderDraws := rfl

/-! ### correctionStage -/

@[simp] theorem State.correctionStage_pending : (s.correctionStage).pending = s.pending := rfl
@[simp] theorem State.correctionStage_resetLow : (s.correctionStage).resetLow = s.resetLow := rfl
@[simp] theorem State.correctionStage_pins : (s.correctionStage).pins = s.pins := rfl
@[simp] theorem State.correctionStage_time : (s.correctionStage).time = s.time := rfl
@[simp] theorem State.correctionStage_inputs : (s.correctionStage).inputs = s.inputs := rfl
@[simp] theorem State.correctionStage_ports : (s.correctionStage).ports = s.ports := rfl
@[simp] theorem State.correctionStage_inForce : (s.correctionStage).inForce = s.inForce := rfl
@[simp] theorem State.correctionStage_pendingItems : (s.correctionStage).pendingItems = s.pendingItems := rfl
@[simp] theorem State.correctionStage_orderDraws : (s.correctionStage).orderDraws = s.orderDraws := rfl

/-! ### The base stage -/

/-- What evaluating the target does to the state: nothing for a FIXED entry, and for a covered chain the release of the
segments passed (R46, R47). -/
theorem State.aim_cases {a : State × Axes Int × Axes Int} (h : s.aim = some a) :
    a.1 = s ∨ ∃ e g, s.activeEntry = some e ∧ covering s.time.mountTime e.chain = some g ∧
      a.1 =
        { s.onActive (fun e => { e with chain := dropPassed s.time.mountTime e.chain }) with
          free := s.free + (e.chain.length - (dropPassed s.time.mountTime e.chain).length) } := by
  unfold State.aim at h
  split at h
  · cases h
  · rename_i e he
    dsimp only at h
    split at h
    · cases h; exact .inl rfl
    · split at h
      · cases h
      · rename_i g hg; cases h; exact .inr ⟨e, g, he, hg, rfl⟩

theorem State.aim_pending {a : State × Axes Int × Axes Int} (h : s.aim = some a) : a.1.pending = s.pending := by
  rcases s.aim_cases h with h | ⟨_, _, _, _, h⟩ <;> simp [h]
theorem State.aim_resetLow {a : State × Axes Int × Axes Int} (h : s.aim = some a) : a.1.resetLow = s.resetLow := by
  rcases s.aim_cases h with h | ⟨_, _, _, _, h⟩ <;> simp [h]
theorem State.aim_pins {a : State × Axes Int × Axes Int} (h : s.aim = some a) : a.1.pins = s.pins := by
  rcases s.aim_cases h with h | ⟨_, _, _, _, h⟩ <;> simp [h]
theorem State.aim_time {a : State × Axes Int × Axes Int} (h : s.aim = some a) : a.1.time = s.time := by
  rcases s.aim_cases h with h | ⟨_, _, _, _, h⟩ <;> simp [h]
theorem State.aim_inputs {a : State × Axes Int × Axes Int} (h : s.aim = some a) : a.1.inputs = s.inputs := by
  rcases s.aim_cases h with h | ⟨_, _, _, _, h⟩ <;> simp [h]
theorem State.aim_ports {a : State × Axes Int × Axes Int} (h : s.aim = some a) : a.1.ports = s.ports := by
  rcases s.aim_cases h with h | ⟨_, _, _, _, h⟩ <;> simp [h]
theorem State.aim_inForce {a : State × Axes Int × Axes Int} (h : s.aim = some a) : a.1.inForce = s.inForce := by
  rcases s.aim_cases h with h | ⟨_, _, _, _, h⟩ <;> simp [h]
theorem State.aim_pendingItems {a : State × Axes Int × Axes Int} (h : s.aim = some a) : a.1.pendingItems = s.pendingItems := by
  rcases s.aim_cases h with h | ⟨_, _, _, _, h⟩ <;> simp [h]
theorem State.aim_orderDraws {a : State × Axes Int × Axes Int} (h : s.aim = some a) : a.1.orderDraws = s.orderDraws := by
  rcases s.aim_cases h with h | ⟨_, _, _, _, h⟩ <;> simp [h]
@[simp] theorem State.baseStage_pending : s.baseStage.state.pending = s.pending := by
  unfold State.baseStage
  split <;> try rfl
  · unfold State.baseSlewing
    split
    · rfl
    · rename_i s1 g r h; exact s.aim_pending h
  all_goals
    unfold State.baseTarget
    split
    · rfl
    · rename_i s1 g r h; exact s.aim_pending h
@[simp] theorem State.baseStage_resetLow : s.baseStage.state.resetLow = s.resetLow := by
  unfold State.baseStage
  split <;> try rfl
  · unfold State.baseSlewing
    split
    · rfl
    · rename_i s1 g r h; exact s.aim_resetLow h
  all_goals
    unfold State.baseTarget
    split
    · rfl
    · rename_i s1 g r h; exact s.aim_resetLow h
@[simp] theorem State.baseStage_pins : s.baseStage.state.pins = s.pins := by
  unfold State.baseStage
  split <;> try rfl
  · unfold State.baseSlewing
    split
    · rfl
    · rename_i s1 g r h; exact s.aim_pins h
  all_goals
    unfold State.baseTarget
    split
    · rfl
    · rename_i s1 g r h; exact s.aim_pins h
@[simp] theorem State.baseStage_time : s.baseStage.state.time = s.time := by
  unfold State.baseStage
  split <;> try rfl
  · unfold State.baseSlewing
    split
    · rfl
    · rename_i s1 g r h; exact s.aim_time h
  all_goals
    unfold State.baseTarget
    split
    · rfl
    · rename_i s1 g r h; exact s.aim_time h
@[simp] theorem State.baseStage_inputs : s.baseStage.state.inputs = s.inputs := by
  unfold State.baseStage
  split <;> try rfl
  · unfold State.baseSlewing
    split
    · rfl
    · rename_i s1 g r h; exact s.aim_inputs h
  all_goals
    unfold State.baseTarget
    split
    · rfl
    · rename_i s1 g r h; exact s.aim_inputs h
@[simp] theorem State.baseStage_ports : s.baseStage.state.ports = s.ports := by
  unfold State.baseStage
  split <;> try rfl
  · unfold State.baseSlewing
    split
    · rfl
    · rename_i s1 g r h; exact s.aim_ports h
  all_goals
    unfold State.baseTarget
    split
    · rfl
    · rename_i s1 g r h; exact s.aim_ports h
@[simp] theorem State.baseStage_inForce : s.baseStage.state.inForce = s.inForce := by
  unfold State.baseStage
  split <;> try rfl
  · unfold State.baseSlewing
    split
    · rfl
    · rename_i s1 g r h; exact s.aim_inForce h
  all_goals
    unfold State.baseTarget
    split
    · rfl
    · rename_i s1 g r h; exact s.aim_inForce h
@[simp] theorem State.baseStage_pendingItems : s.baseStage.state.pendingItems = s.pendingItems := by
  unfold State.baseStage
  split <;> try rfl
  · unfold State.baseSlewing
    split
    · rfl
    · rename_i s1 g r h; exact s.aim_pendingItems h
  all_goals
    unfold State.baseTarget
    split
    · rfl
    · rename_i s1 g r h; exact s.aim_pendingItems h
@[simp] theorem State.baseStage_orderDraws : s.baseStage.state.orderDraws = s.orderDraws := by
  unfold State.baseStage
  split <;> try rfl
  · unfold State.baseSlewing
    split
    · rfl
    · rename_i s1 g r h; exact s.aim_orderDraws h
  all_goals
    unfold State.baseTarget
    split
    · rfl
    · rename_i s1 g r h; exact s.aim_orderDraws h

/-! ### computeEvent -/

@[simp] theorem State.computeEvent_pending : (s.computeEvent).pending = s.pending := by
  unfold State.computeEvent; simp
@[simp] theorem State.computeEvent_resetLow : (s.computeEvent).resetLow = s.resetLow := by
  unfold State.computeEvent; simp
@[simp] theorem State.computeEvent_pins : (s.computeEvent).pins = s.pins := by
  unfold State.computeEvent; simp
@[simp] theorem State.computeEvent_time : (s.computeEvent).time = s.time := by
  unfold State.computeEvent; simp
@[simp] theorem State.computeEvent_inputs : (s.computeEvent).inputs = s.inputs := by
  unfold State.computeEvent; simp
@[simp] theorem State.computeEvent_ports : (s.computeEvent).ports = s.ports := by
  unfold State.computeEvent; simp
@[simp] theorem State.computeEvent_inForce : (s.computeEvent).inForce = s.inForce := by
  unfold State.computeEvent; simp
@[simp] theorem State.computeEvent_pendingItems : (s.computeEvent).pendingItems = s.pendingItems := by
  unfold State.computeEvent; simp
@[simp] theorem State.computeEvent_orderDraws : (s.computeEvent).orderDraws = s.orderDraws := by
  unfold State.computeEvent; simp

/-! ### engineTurn -/

@[simp] theorem State.engineTurn_pending : (s.engineTurn).pending = s.pending := by
  unfold State.engineTurn; split <;> simp
@[simp] theorem State.engineTurn_resetLow : (s.engineTurn).resetLow = s.resetLow := by
  unfold State.engineTurn; split <;> simp
@[simp] theorem State.engineTurn_pins : (s.engineTurn).pins = s.pins := by
  unfold State.engineTurn; split <;> simp
@[simp] theorem State.engineTurn_time : (s.engineTurn).time = s.time := by
  unfold State.engineTurn; split <;> simp
@[simp] theorem State.engineTurn_inputs : (s.engineTurn).inputs = s.inputs := by
  unfold State.engineTurn; split <;> simp
@[simp] theorem State.engineTurn_ports : (s.engineTurn).ports = s.ports := by
  unfold State.engineTurn; split <;> simp
@[simp] theorem State.engineTurn_inForce : (s.engineTurn).inForce = s.inForce := by
  unfold State.engineTurn; split <;> simp
@[simp] theorem State.engineTurn_pendingItems : (s.engineTurn).pendingItems = s.pendingItems := by
  unfold State.engineTurn; split <;> simp
@[simp] theorem State.engineTurn_orderDraws : (s.engineTurn).orderDraws = s.orderDraws := by
  unfold State.engineTurn; split <;> simp

/-! ### lineTurn -/

@[simp] theorem State.lineTurn_pending (l : LineId) : (s.lineTurn l).pending = s.pending := by
  unfold State.lineTurn; dsimp only; repeat' split
  all_goals rfl
@[simp] theorem State.lineTurn_resetLow (l : LineId) : (s.lineTurn l).resetLow = s.resetLow := by
  unfold State.lineTurn; dsimp only; repeat' split
  all_goals rfl
@[simp] theorem State.lineTurn_pins (l : LineId) : (s.lineTurn l).pins = s.pins := by
  unfold State.lineTurn; dsimp only; repeat' split
  all_goals rfl
@[simp] theorem State.lineTurn_time (l : LineId) : (s.lineTurn l).time = s.time := by
  unfold State.lineTurn; dsimp only; repeat' split
  all_goals rfl
@[simp] theorem State.lineTurn_inputs (l : LineId) : (s.lineTurn l).inputs = s.inputs := by
  unfold State.lineTurn; dsimp only; repeat' split
  all_goals rfl
@[simp] theorem State.lineTurn_ports (l : LineId) : (s.lineTurn l).ports = s.ports := by
  unfold State.lineTurn; dsimp only; repeat' split
  all_goals rfl
@[simp] theorem State.lineTurn_inForce (l : LineId) : (s.lineTurn l).inForce = s.inForce := by
  unfold State.lineTurn; dsimp only; repeat' split
  all_goals rfl
@[simp] theorem State.lineTurn_pendingItems (l : LineId) : (s.lineTurn l).pendingItems = s.pendingItems := by
  unfold State.lineTurn; dsimp only; repeat' split
  all_goals rfl
@[simp] theorem State.lineTurn_orderDraws (l : LineId) : (s.lineTurn l).orderDraws = s.orderDraws := by
  unfold State.lineTurn; dsimp only; repeat' split
  all_goals rfl

/-! ### secondTurn -/

@[simp] theorem State.secondTurn_pending : (s.secondTurn).pending = s.pending := by
  unfold State.secondTurn; split <;> rfl
@[simp] theorem State.secondTurn_resetLow : (s.secondTurn).resetLow = s.resetLow := by
  unfold State.secondTurn; split <;> rfl
@[simp] theorem State.secondTurn_pins : (s.secondTurn).pins = s.pins := by
  unfold State.secondTurn; split <;> rfl
@[simp] theorem State.secondTurn_time : (s.secondTurn).time = s.time := by
  unfold State.secondTurn; split <;> rfl
@[simp] theorem State.secondTurn_inputs : (s.secondTurn).inputs = s.inputs := by
  unfold State.secondTurn; split <;> rfl
@[simp] theorem State.secondTurn_ports : (s.secondTurn).ports = s.ports := by
  unfold State.secondTurn; split <;> rfl
@[simp] theorem State.secondTurn_inForce : (s.secondTurn).inForce = s.inForce := by
  unfold State.secondTurn; split <;> rfl
@[simp] theorem State.secondTurn_pendingItems : (s.secondTurn).pendingItems = s.pendingItems := by
  unfold State.secondTurn; split <;> rfl
@[simp] theorem State.secondTurn_orderDraws : (s.secondTurn).orderDraws = s.orderDraws := by
  unfold State.secondTurn; split <;> rfl

/-! ### filterInput -/

@[simp] theorem State.filterInput_pending (i : Input) : (s.filterInput i).pending = s.pending := by
  unfold State.filterInput; dsimp only; repeat' split
  all_goals simp
@[simp] theorem State.filterInput_resetLow (i : Input) : (s.filterInput i).resetLow = s.resetLow := by
  unfold State.filterInput; dsimp only; repeat' split
  all_goals simp
@[simp] theorem State.filterInput_pins (i : Input) : (s.filterInput i).pins = s.pins := by
  unfold State.filterInput; dsimp only; repeat' split
  all_goals simp
@[simp] theorem State.filterInput_time (i : Input) : (s.filterInput i).time = s.time := by
  unfold State.filterInput; dsimp only; repeat' split
  all_goals simp
@[simp] theorem State.filterInput_ports (i : Input) : (s.filterInput i).ports = s.ports := by
  unfold State.filterInput; dsimp only; repeat' split
  all_goals simp
@[simp] theorem State.filterInput_inForce (i : Input) : (s.filterInput i).inForce = s.inForce := by
  unfold State.filterInput; dsimp only; repeat' split
  all_goals simp
@[simp] theorem State.filterInput_pendingItems (i : Input) :
    (s.filterInput i).pendingItems = s.pendingItems := by
  unfold State.filterInput; dsimp only; repeat' split
  all_goals simp
@[simp] theorem State.filterInput_orderDraws (i : Input) : (s.filterInput i).orderDraws = s.orderDraws := by
  unfold State.filterInput; dsimp only; repeat' split
  all_goals simp

/-! ### turn -/

@[simp] theorem State.turn_pending (x : Turn) : (s.turn x).pending = s.pending := by
  cases x <;> simp [State.turn]
@[simp] theorem State.turn_resetLow (x : Turn) : (s.turn x).resetLow = s.resetLow := by
  cases x <;> simp [State.turn]
@[simp] theorem State.turn_pins (x : Turn) : (s.turn x).pins = s.pins := by
  cases x <;> simp [State.turn]
@[simp] theorem State.turn_time (x : Turn) : (s.turn x).time = s.time := by
  cases x <;> simp [State.turn]
@[simp] theorem State.turn_ports (x : Turn) : (s.turn x).ports = s.ports := by
  cases x <;> simp [State.turn]
@[simp] theorem State.turn_inForce (x : Turn) : (s.turn x).inForce = s.inForce := by
  cases x <;> simp [State.turn]
@[simp] theorem State.turn_pendingItems (x : Turn) : (s.turn x).pendingItems = s.pendingItems := by
  cases x <;> simp [State.turn]
@[simp] theorem State.turn_orderDraws (x : Turn) : (s.turn x).orderDraws = s.orderDraws := by
  cases x <;> simp [State.turn]

/-- The filters after one input's turn (R154). -/
@[simp] theorem State.filterInput_inputs (i : Input) :
    (s.filterInput i).inputs =
      s.inputs.set i ((s.inputs.get i).sample (s.pins.get i == assertedHigh i)) := by
  unfold State.filterInput; dsimp only; repeat' split
  all_goals simp

/-! ### The whole event -/

theorem State.turns_pending (o : List Turn) : (o.foldl State.turn s).pending = s.pending := by
  induction o generalizing s with
  | nil => rfl
  | cons x rest ih => rw [List.foldl_cons, ih]; simp
theorem State.turns_resetLow (o : List Turn) : (o.foldl State.turn s).resetLow = s.resetLow := by
  induction o generalizing s with
  | nil => rfl
  | cons x rest ih => rw [List.foldl_cons, ih]; simp
theorem State.turns_pins (o : List Turn) : (o.foldl State.turn s).pins = s.pins := by
  induction o generalizing s with
  | nil => rfl
  | cons x rest ih => rw [List.foldl_cons, ih]; simp
theorem State.turns_time (o : List Turn) : (o.foldl State.turn s).time = s.time := by
  induction o generalizing s with
  | nil => rfl
  | cons x rest ih => rw [List.foldl_cons, ih]; simp
theorem State.turns_ports (o : List Turn) : (o.foldl State.turn s).ports = s.ports := by
  induction o generalizing s with
  | nil => rfl
  | cons x rest ih => rw [List.foldl_cons, ih]; simp
theorem State.turns_inForce (o : List Turn) : (o.foldl State.turn s).inForce = s.inForce := by
  induction o generalizing s with
  | nil => rfl
  | cons x rest ih => rw [List.foldl_cons, ih]; simp
theorem State.turns_pendingItems (o : List Turn) : (o.foldl State.turn s).pendingItems = s.pendingItems := by
  induction o generalizing s with
  | nil => rfl
  | cons x rest ih => rw [List.foldl_cons, ih]; simp
theorem State.turns_orderDraws (o : List Turn) : (o.foldl State.turn s).orderDraws = s.orderDraws := by
  induction o generalizing s with
  | nil => rfl
  | cons x rest ih => rw [List.foldl_cons, ih]; simp
/-! ### closeEvent -/

@[simp] theorem State.closeEvent_pending : (s.closeEvent).pending = s.pending := rfl
@[simp] theorem State.closeEvent_resetLow : (s.closeEvent).resetLow = s.resetLow := rfl
@[simp] theorem State.closeEvent_pins : (s.closeEvent).pins = s.pins := rfl
@[simp] theorem State.closeEvent_time : (s.closeEvent).time = { s.time with eventDue := false } := rfl
@[simp] theorem State.closeEvent_night : (s.closeEvent).night = s.night := rfl
@[simp] theorem State.closeEvent_free : (s.closeEvent).free = s.free := rfl
@[simp] theorem State.closeEvent_model : (s.closeEvent).model = s.model := rfl
@[simp] theorem State.closeEvent_engine : (s.closeEvent).engine = s.engine := rfl
@[simp] theorem State.closeEvent_waitReason : (s.closeEvent).waitReason = s.waitReason := rfl
@[simp] theorem State.closeEvent_axes : (s.closeEvent).axes = s.axes := rfl
@[simp] theorem State.closeEvent_onTarget : (s.closeEvent).onTarget = s.onTarget := rfl
@[simp] theorem State.closeEvent_guide : (s.closeEvent).guide = s.guide := rfl
@[simp] theorem State.closeEvent_enclosure : (s.closeEvent).enclosure = s.enclosure := rfl
@[simp] theorem State.closeEvent_inputs : (s.closeEvent).inputs = s.inputs := rfl
@[simp] theorem State.closeEvent_steps : (s.closeEvent).steps = s.steps := rfl
@[simp] theorem State.closeEvent_enable : (s.closeEvent).enable = s.enable := rfl
@[simp] theorem State.closeEvent_lines : (s.closeEvent).lines = s.lines.map EventLine.unmark := rfl
@[simp] theorem State.closeEvent_faults : (s.closeEvent).faults = s.faults := rfl
@[simp] theorem State.closeEvent_notices : (s.closeEvent).notices = s.notices := rfl
@[simp] theorem State.closeEvent_ports : (s.closeEvent).ports = s.ports := rfl
@[simp] theorem State.closeEvent_inForce : (s.closeEvent).inForce = s.inForce := rfl
@[simp] theorem State.closeEvent_pendingItems : (s.closeEvent).pendingItems = s.pendingItems := rfl
@[simp] theorem State.closeEvent_expiries : (s.closeEvent).expiries = s.expiries := rfl
@[simp] theorem State.closeEvent_orderDraws : (s.closeEvent).orderDraws = s.orderDraws := rfl

/-! ### runEvent -/

@[simp] theorem State.runEvent_pending (levels : Inputs Bool) (o : List Turn) :
    (s.runEvent levels o).pending = s.pending := by
  unfold State.runEvent; simp only [State.closeEvent_pending, State.turns_pending]; rfl
@[simp] theorem State.runEvent_resetLow (levels : Inputs Bool) (o : List Turn) :
    (s.runEvent levels o).resetLow = s.resetLow := by
  unfold State.runEvent; simp only [State.closeEvent_resetLow, State.turns_resetLow]; rfl
@[simp] theorem State.runEvent_ports (levels : Inputs Bool) (o : List Turn) :
    (s.runEvent levels o).ports = s.ports := by
  unfold State.runEvent; simp only [State.closeEvent_ports, State.turns_ports]; rfl
@[simp] theorem State.runEvent_orderDraws (levels : Inputs Bool) (o : List Turn) :
    (s.runEvent levels o).orderDraws = s.orderDraws := by
  unfold State.runEvent; simp only [State.closeEvent_orderDraws, State.turns_orderDraws]; rfl

/-- The pins show the levels given (R154). -/
@[simp] theorem State.runEvent_pins (levels : Inputs Bool) (o : List Turn) :
    (s.runEvent levels o).pins = levels := by
  unfold State.runEvent; simp only [State.closeEvent_pins, State.turns_pins]; rfl

/-- Configuration takes force at the event, and no turn changes it (R190). -/
@[simp] theorem State.runEvent_inForce (levels : Inputs Bool) (o : List Turn) :
    (s.runEvent levels o).inForce = s.pendingItems.orElse s.inForce := by
  unfold State.runEvent; simp only [State.closeEvent_inForce, State.turns_inForce]; rfl

/-- No configuration value waits after a demand event (R190). -/
@[simp] theorem State.runEvent_pendingItems (levels : Inputs Bool) (o : List Turn) :
    (s.runEvent levels o).pendingItems = .const none := by
  unfold State.runEvent; simp only [State.closeEvent_pendingItems, State.turns_pendingItems]; rfl

/-- The event takes no mount time (R72): only that it is due, and a slew's count of events, change. -/
@[simp] theorem State.runEvent_time (levels : Inputs Bool) (o : List Turn) :
    (s.runEvent levels o).time =
      { s.time with
        eventDue := false
        slew := s.time.slew.map fun w => { w with events := w.events + 1 } } := by
  unfold State.runEvent; simp only [State.closeEvent_time, State.turns_time]; rfl

/-- A list less its repeats has none. -/
theorem nodup_eraseDups (n : Nat) (l : List Turn) (h : l.length ≤ n) : l.eraseDups.Nodup := by
  induction n generalizing l with
  | zero =>
    have : l = [] := List.eq_nil_of_length_eq_zero (by omega)
    subst this
    simp
  | succ n ih =>
    cases l with
    | nil => simp
    | cons a t =>
      rw [List.eraseDups_cons, List.nodup_cons]
      have hl := List.length_filter_le (fun b => !b == a) t
      simp only [List.length_cons] at h
      exact ⟨by simp, ih _ (by omega)⟩

/-- Every order, however it is given, takes each turn exactly once (log entry 3). -/
theorem completeOrder_count (o : List Turn) (x : Turn) : (completeOrder o).count x = 1 := by
  have hall : allTurns.count x = 1 := by
    cases x with
    | filter i => cases i <;> rfl
    | engine => rfl
    | line l => cases l <;> rfl
    | second => rfl
  have hnodup : o.eraseDups.Nodup := nodup_eraseDups _ o (Nat.le_refl _)
  unfold completeOrder
  rw [List.count_append]
  by_cases hx : x ∈ o.eraseDups
  · rw [List.count_eq_one_of_mem hnodup hx]
    have : (allTurns.filter fun t => !o.eraseDups.contains t).count x = 0 := by
      rw [List.count_eq_zero]
      simp [List.mem_eraseDups.mp hx]
    rw [this]
  · rw [List.count_eq_zero_of_not_mem hx, List.count_filter (by simpa using hx), hall]

end Sys2Proof.Machine
end

