-- ==== Sys2Proof/Laws/Replies.lean ====
section
/-! SUPPORT. The reply that a port sends: its parts, the lengths of its fields, and the frame it makes. -/

namespace Sys2Proof.Machine

@[simp] theorem Reply.form_kind (kind : Byte) (a : Answer) : (Reply.form kind a).kind = kind := rfl
@[simp] theorem Reply.form_answer (kind : Byte) (a : Answer) : (Reply.form kind a).answer = a := rfl
@[simp] theorem Reply.form_len (kind : Byte) (a : Answer) :
    (Reply.form kind a).len = BitVec.ofNat 8 a.payload.length := rfl
@[simp] theorem Reply.form_check (kind : Byte) (a : Answer) :
    (Reply.form kind a).check = crc ((Reply.form kind a).len :: kind :: a.payload) := rfl
@[simp] theorem Answer.payload_length (a : Answer) : a.payload.length = a.fields.bytes.length + 1 := rfl

@[simp] theorem natBytes_length (n v : Nat) : (natBytes n v).length = n := by
  induction n with
  | zero => rfl
  | succ n ih => simp [natBytes, ih]
@[simp] theorem intBytes_length (n : Nat) (v : Int) : (intBytes n v).length = n := natBytes_length _ _
@[simp] theorem flagByte_length (b : Bool) : (flagByte b).length = 1 := rfl
@[simp] theorem nameByte_length (x : ReplyName) : (nameByte x).length = 1 := rfl
@[simp] theorem bitsByte_length (a b c : Bool) : (bitsByte a b c).length = 1 := rfl
@[simp] theorem timeBytes_length (t : Nat) : (timeBytes t).length = 6 := natBytes_length _ _
@[simp] theorem noticeBytes_length (k : NoticeSet) : (noticeBytes k).length = 2 := natBytes_length _ _
@[simp] theorem GuideState.byte_length (g : GuideState) : g.byte.length = 1 := by cases g <;> rfl
@[simp] theorem optionField_none {α : Type} (f : α → List Byte) : (optionField f none).length = 1 := rfl
@[simp] theorem optionField_some {α : Type} (f : α → List Byte) (v : α) :
    (optionField f (some v)).length = (f v).length + 1 := rfl

/-- An optional field takes at most its presence byte and the most its value can take. -/
theorem optionField_le {α : Type} {f : α → List Byte} {n : Nat} (h : ∀ v, (f v).length ≤ n) (o : Option α) :
    (optionField f o).length ≤ n + 1 := by
  cases o with
  | none => simp
  | some v => simpa using h v

end Sys2Proof.Machine
end

