-- ==== Sys2Proof/Laws/Table.lean ====
section
/-! SUPPORT. The model table's cells: every operation keeps the canonical form, and a read after a write. -/

namespace Sys2Proof.Machine

/-- An address below every listed one reads as (0, 0). -/
def cellsAbove (a : Nat) (cells : List (Nat × Pair)) : Prop := ∀ c ∈ cells, a < c.1

/-- The canonical form of a nonempty table, one cell at a time. -/
theorem cellsWf_cons (a : Nat) (v : Pair) (rest : List (Nat × Pair)) :
    cellsWf ((a, v) :: rest) = true ↔
      a < 256 ∧ v ≠ zeroPair ∧ cellsAbove a rest ∧ cellsWf rest = true := by
  induction rest generalizing a v with
  | nil => simp [cellsWf, cellsAbove]
  | cons c rest ih =>
    obtain ⟨b, w⟩ := c
    have h := ih b w
    constructor
    · intro hw
      have hw' : a < b ∧ v ≠ zeroPair ∧ cellsWf ((b, w) :: rest) = true := by
        simpa [cellsWf, and_assoc] using hw
      obtain ⟨hab, hv, hr⟩ := hw'
      obtain ⟨hb, _, habove, _⟩ := h.mp hr
      refine ⟨by omega, hv, ?_, hr⟩
      intro c hc
      rcases List.mem_cons.mp hc with rfl | hc
      · exact hab
      · exact Nat.lt_trans hab (habove c hc)
    · rintro ⟨_, hv, habove, hr⟩
      have hab : a < b := habove (b, w) (by simp)
      simpa [cellsWf, and_assoc] using ⟨hab, hv, hr⟩

/-- A write keeps every address above a lower bound that the written address lies above. -/
theorem writeCell_above {n a : Nat} {v : Pair} {cells : List (Nat × Pair)} (hn : n < a)
    (h : cellsAbove n cells) : cellsAbove n (writeCell cells a v) := by
  induction cells with
  | nil =>
    unfold writeCell
    split
    · intro c hc; simp at hc
    · intro c hc; simp at hc; subst hc; exact hn
  | cons c rest ih =>
    obtain ⟨b, w⟩ := c
    have hb : n < b := h (b, w) (by simp)
    have hr : cellsAbove n rest := fun c hc => h c (by simp [hc])
    unfold writeCell
    split
    · split
      · exact h
      · intro c hc
        rcases List.mem_cons.mp hc with rfl | hc
        · exact hn
        · exact h c hc
    · split
      · split
        · exact hr
        · intro c hc
          rcases List.mem_cons.mp hc with rfl | hc
          · exact hn
          · exact hr c hc
      · intro c hc
        rcases List.mem_cons.mp hc with rfl | hc
        · exact hb
        · exact ih hr c hc

/-- A write keeps the canonical form. -/
theorem writeCell_wf {a : Nat} {v : Pair} {cells : List (Nat × Pair)} (ha : a < 256)
    (h : cellsWf cells = true) : cellsWf (writeCell cells a v) = true := by
  induction cells with
  | nil =>
    unfold writeCell
    split
    · rfl
    · rename_i hv; simp [cellsWf, ha, hv]
  | cons c rest ih =>
    obtain ⟨b, w⟩ := c
    obtain ⟨hb, hw, habove, hr⟩ := (cellsWf_cons b w rest).mp h
    unfold writeCell
    split
    · rename_i hab
      split
      · exact h
      · rename_i hv
        refine (cellsWf_cons _ _ _).mpr ⟨ha, hv, ?_, h⟩
        intro c hc
        rcases List.mem_cons.mp hc with rfl | hc
        · exact hab
        · exact Nat.lt_trans hab (habove c hc)
    · split
      · rename_i hab
        subst hab
        split
        · exact hr
        · rename_i hv
          exact (cellsWf_cons _ _ _).mpr ⟨ha, hv, habove, hr⟩
      · have hba : b < a := by omega
        exact (cellsWf_cons _ _ _).mpr ⟨hb, hw, writeCell_above hba habove, ih hr⟩

/-- An entry's address lies in the table. -/
theorem cellAddr_lt (page : Bool) (index : Nat) : cellAddr page index < 256 := by
  unfold cellAddr; split <;> omega

/-- A write of pairs keeps the canonical form. -/
theorem writePairs_wf {cells : List (Nat × Pair)} (p : Pointer) (vs : List Pair)
    (h : cellsWf cells = true) : cellsWf (writePairs cells p vs) = true := by
  induction vs generalizing cells p with
  | nil => exact h
  | cons v rest ih => exact ih _ (writeCell_wf (cellAddr_lt _ _) h)

/-- The table right after power-on has the canonical form. -/
theorem reset_cells_wf : cellsWf State.reset.model.cells = true := rfl

/-- An address below every listed one reads as (0, 0). -/
theorem readCell_above {a : Nat} {cells : List (Nat × Pair)} (h : cellsAbove a cells) :
    readCell cells a = zeroPair := by
  induction cells with
  | nil => rfl
  | cons c rest ih =>
    obtain ⟨b, w⟩ := c
    have hab : a < b := h (b, w) (by simp)
    have hr : cellsAbove a rest := fun c hc => h c (by simp [hc])
    simp [readCell, Nat.ne_of_gt hab, ih hr]

/-- A read of the address written gives the pair written. -/
theorem readCell_writeCell_same {cells : List (Nat × Pair)} (a : Nat) (v : Pair)
    (h : cellsWf cells = true) : readCell (writeCell cells a v) a = v := by
  induction cells with
  | nil =>
    unfold writeCell
    split
    · rename_i hv; simp [readCell, hv]
    · simp [readCell]
  | cons c rest ih =>
    obtain ⟨b, w⟩ := c
    obtain ⟨_, _, habove, hr⟩ := (cellsWf_cons b w rest).mp h
    unfold writeCell
    split
    · rename_i hab
      split
      · rename_i hv
        rw [hv]
        refine readCell_above ?_
        intro c hc
        rcases List.mem_cons.mp hc with rfl | hc
        · exact hab
        · exact Nat.lt_trans hab (habove c hc)
      · simp [readCell]
    · split
      · rename_i hab
        subst hab
        split
        · rename_i hv; rw [hv]; exact readCell_above habove
        · simp [readCell]
      · rename_i h1 h2
        simp [readCell, ih hr, Ne.symm h2]

/-- A write leaves every other address as it was. -/
theorem readCell_writeCell_other {cells : List (Nat × Pair)} {a b : Nat} (v : Pair) (hab : b ≠ a)
    (h : cellsWf cells = true) : readCell (writeCell cells a v) b = readCell cells b := by
  induction cells with
  | nil =>
    unfold writeCell
    split <;> simp [readCell, Ne.symm hab]
  | cons c rest ih =>
    obtain ⟨k, w⟩ := c
    obtain ⟨_, _, habove, hr⟩ := (cellsWf_cons k w rest).mp h
    unfold writeCell
    split
    · split <;> simp [readCell, Ne.symm hab]
    · split
      · rename_i hak
        subst hak
        split
        · simp [readCell, Ne.symm hab]
        · simp [readCell, Ne.symm hab]
      · simp only [readCell]
        split
        · rfl
        · exact ih hr

end Sys2Proof.Machine
end

