-- ==== Sys2Proof/Tests/Slice0.lean ====
section
/-! SUPPORT. Tests of the model: ill-formed commands that the checks refuse, the spec's own worked examples (each
comment names the one it is from), and for each statement of Obligations.lean with hypotheses a witness that meets them. -/

namespace Sys2Proof.Tests

open Sys2Proof.Machine

/-! ### Small states -/

/-- The state after one command. -/
def after (c : Instr) (s : State) : State :=
  match exec c s with
  | .next t => t
  | .fault _ => s
  | .refused _ => s

/-- What the port of a link is sending. -/
def reply (l : Link) (s : State) : Option Answer := (s.ports.get l).sending.map Reply.answer

/-- The status of the reply to a request. -/
def statusOf (l : Link) (c : Instr) (s : State) : Option Status :=
  (reply l (after c s)).map Answer.status

/-- The power-on state with the engine in a state and the enables as R158 has them. -/
def inEngine (e : Engine) : State := { State.reset with engine := e, enable := e.drivesOn }

/-- A FIXED target at EL 4,000,000 counts with a dwell of 3 and a max hold of 5, guided. -/
def fixedRecord : Record := ⟨7, .fixed ⟨0, 4000000, 0⟩, none, none, 3, 5, false, true, false, false, .auto⟩

/-- Every accumulator at 0, the hold used at `n`. -/
def tallyOf (n : Nat) : Tally := ⟨0, 0, 0, 0, 0, ⟨0, 0, 0⟩, n⟩

/-- The FIXED target ACTIVE in a phase. -/
def fixedActive (p : Phase) (hold : Nat) : Entry :=
  ⟨fixedRecord, .active p, ⟨some 0, some 0, none, none, none, some (tallyOf hold)⟩, []⟩

/-- The axes at rest at a position. -/
def restAt (az el rot : Int) : Axes AxisState :=
  Axes.map (fun v => ⟨v * 65536, 0, 0, 0, 0, v, v, 0⟩) ⟨az, el, rot⟩

/-- The mount at rest on the FIXED target, which is ACTIVE. -/
def onFix (e : Engine) (p : Phase) (hold : Nat) : State :=
  { inEngine e with night := ⟨[fixedActive p hold], true⟩, axes := restAt 0 4000000 0 }

/-- The same with the mount far from its target. -/
def farFix (e : Engine) : State := { onFix e .slewing 0 with axes := restAt 0 233017 0 }

/-- A track segment of `len` milliseconds at rest, from `t0`. -/
def seg (t0 len : Nat) : Segment :=
  ⟨BitVec.ofNat 48 t0, BitVec.ofNat 16 len, ⟨0, 262144000000, 0⟩, ⟨0, 0, 0⟩, ⟨0, 0, 0⟩⟩

/-- A TRACK record. -/
def trackRecord : Record := ⟨9, .track, none, none, 3, 0, true, true, true, true, .low⟩

/-- A PENDING TRACK entry with a chain. -/
def trackPending (chain : List Segment) : Entry :=
  ⟨trackRecord, .pending, ⟨none, none, none, none, none, none⟩, chain⟩

/-- An entry that has ended. -/
def endedEntry : Entry :=
  ⟨{ fixedRecord with id := 3 }, .ended .late, ⟨none, none, none, none, some 5, none⟩, []⟩

/-- A night in progress: an entry of each state, two segments in the pool. -/
def busy : State :=
  { inEngine (.tracking 1) with
    night := ⟨[endedEntry, fixedActive .tracking 0, trackPending [seg 1000 2, seg 3000 1]], true⟩
    free := 510
    axes := restAt 0 4000000 0 }

/-- A record as sent, FIXED, with the id given. -/
def sentRecord (id : BitVec 16) : TargetRecord :=
  ⟨id, 1, 0b100, none, none, 3, 5, 0, 0b111, 2, some ⟨0, 4000000, 0⟩⟩

/-! ### The checks on commands -/

theorem test_wf_refuses_repeated_turn : (Instr.demandEvent pinsQuiet [.engine, .engine]).wf = false := by
  decide

theorem test_wf_refuses_short_space : (Instr.lineBreak .guide (.spaceFor 19)).wf = false := by decide

theorem test_wf_refuses_gap_of_20000 : (Instr.frameTimeout .guide 20000).wf = false := by decide

/-- A presence byte that names no earliest time beside a record that has one, and so for the other two fields. -/
theorem test_wf_refuses_wrong_presence :
    (Instr.targetAppend { sentRecord 1 with earliest := some 0 }).wf = false ∧
      (Instr.targetInsert 2 { sentRecord 1 with latest := some 0 }).wf = false ∧
      (Instr.targetAppend { sentRecord 1 with fixedPosition := none }).wf = false := by
  decide

theorem test_wf_refuses_segment_counts :
    (Instr.segmentAppend 1 []).wf = false ∧
      (Instr.segmentAppend 1 [seg 0 1, seg 0 1, seg 0 1, seg 0 1, seg 0 1]).wf = false := by
  decide

theorem test_wf_refuses_pair_counts :
    (Instr.modelWrite []).wf = false ∧ (Instr.modelWrite (List.replicate 61 ⟨0, 0⟩)).wf = false := by
  decide

theorem test_wf_refuses_repeated_turn_in_timer_rows :
    (Instr.slewTimeout pinsQuiet [.second, .second]).wf = false ∧
      (Instr.eventWidthExpiry .ev0 pinsQuiet [.second, .second]).wf = false := by
  decide

theorem test_wf_accepts : (Instr.targetAppend (sentRecord 1)).wf = true ∧ (Instr.segmentAppend 1 [seg 0 1]).wf = true := by
  decide

/-! ### Worked examples: mount time -/

/-- 01, "from power-on to lock", pulse 1: e = 217,448, stepped to 3,000,000, ACQUIRING with count 0. -/
theorem test_pulse_one :
    (let t := (after .ppsPulse { State.reset with time := { State.reset.time with mountTime := 3217448 } }).time;
      (t.mountTime, t.discipline, t.goodCount, t.phaseError)) =
      (3000000, .acquiring, 0, some 217448) := by
  decide

/-- 01, the same example, pulse 5: e = 1, the count reaches 4, LOCKED, a slew of one removal. -/
theorem test_pulse_five :
    (let t := (after .ppsPulse
        { State.reset with
          time :=
            { State.reset.time with
              mountTime := 7000001, discipline := .acquiring, goodCount := 3
              pulseAge := some 1000001 } }).time;
      (t.mountTime, t.discipline, t.goodCount, t.slew)) =
      (7000001, .locked, 4, some ⟨true, 1, 1, 0⟩) := by
  decide

/-- 01, "a set applied, then a set dropped": in LOCKED the pending set waits for the pulse and then becomes mount time. -/
theorem test_set_applied_at_pulse :
    (let locked : State :=
        { inEngine .idle with
          time :=
            { State.reset.time with
              mountTime := 9000001, discipline := .locked, goodCount := 4, pulseAge := some 1000001 } }
      let t := (after .ppsPulse (after (.setTime 12345000000) locked)).time;
      (statusOf .schedule (.setTime 12345678) locked, t.mountTime, t.timeValid, t.slew, t.discipline)) =
      (some .badValue, 12345000000, true, none, .locked) := by
  decide

/-- R9: an insertion in the first period goes from 500 to 502. -/
theorem test_insertion :
    (after .slewCorrection
      { State.reset with
        time :=
          { State.reset.time with
            mountTime := 3000, slew := some ⟨false, 20, 20, 1⟩, pulseAge := some 0 } }).time.mountTime =
      3502 := by
  decide

/-- R10: LOCKED falls to HOLDOVER at a pulse age of 2,500,000. -/
theorem test_missing_pulses :
    (let t := (after .pulseAgeExpiry
        { State.reset with
          time :=
            { State.reset.time with
              mountTime := 500, discipline := .locked, goodCount := 4, pulseAge := some 2499900 } }).time;
      (t.mountTime, t.discipline, t.goodCount)) = (600, .holdover, 0) := by
  decide

/-! ### Worked examples: segments, model, demand -/

/-- 05, "a segment at k = 5,000": 65,790,534,863 fine units, 1,003,884 counts, 89,054 fine units per ms. -/
theorem test_segment_at_5000 :
    segPosition 65536000000 12760 1000000 0 5000 = 65790534863 ∧
      roundCounts 65790534863 = 1003884 ∧ segRate 12760 1000000 5000 = 89054 := by
  decide

/-- 05, "ties on the negative side". -/
theorem test_segment_ties :
    segPosition 0 0 (-65536) 0 1 = 0 ∧ segPosition 0 0 (-196608) 0 1 = -1 ∧
      segPosition 0 0 65536 0 1 = 1 ∧ segRate 0 (-196608) 1 = -3 := by
  decide

/-- 04, "between four grid points": M_AZ = 9. -/
theorem test_model_between_four :
    (modelCorrection
      [(181, ⟨100, 0⟩), (182, ⟨200, 0⟩), (197, ⟨-40, 0⟩)] true 5505024 1966080).az = 9 := by
  decide

/-- 04, "across north, above row 7": M_EL = −2, at a tie of −2.5. -/
theorem test_model_across_north :
    (modelCorrection [(112, ⟨0, 2⟩), (127, ⟨0, -7⟩)] false (-524288) 4000000).el = -2 := by
  decide

/-- R60: the event that selects an entry of station 1 forms its correction from page 1, where every entry is (7, −3). -/
theorem test_selection_corrects_from_the_new_page :
    (let page (b : Bool) (v : Pair) := (List.range 128).map fun i => (cellAddr b i, v)
      let s : State :=
        { inEngine .waiting with
          night := ⟨[trackPending [seg 1000 2]], true⟩, free := 511
          model := { State.reset.model with cells := page false ⟨1, 1⟩ ++ page true ⟨7, -3⟩ } }
      let t := after (.demandEvent pinsQuiet [.engine]) s;
      (t.engine.state, t.model.pageInUse, t.model.last)) = (.slewing, true, ⟨7, -3⟩) := by
  decide +kernel

/-- 05, "a host offset applied and then replaced": three events of the first offset, then one of the second. -/
theorem test_blend_steps :
    [blend 4 31 21, blend 4 31 25, blend 4 31 29, blend 4 1 31, blend 4 1 3] = [25, 29, 31, 27, 1] := by
  decide

/-! ### Worked examples: slews and selection -/

/-- 06, "three wraps": LOW, HIGH, AUTO by E, and no full fit. -/
theorem test_three_wraps :
    wrapChoice .low (-23068672) 23068672 6291456 7340032 0 = some (-1) ∧
      wrapChoice .high (-23068672) 23068672 6291456 7340032 0 = some 0 ∧
      wrapChoice .auto (-23068672) 23068672 6291456 7340032 (-2000000) = some 0 ∧
      wrapChoice .auto (-23068672) 23068672 6291456 7340032 (-3000000) = some (-1) ∧
      wrapChoice .auto (-23068672) 23068672 6291456 7340032 (-2097152) = some (-1) ∧
      wrapChoice .high (-23068672) 23068672 6291456 40000000 0 = some 1 := by
  decide

/-- 06, "braking onto a target": u′ is 3,655, then 3,000, then 2,345. -/
theorem test_braking :
    (followStep (-1000) 1000 655 200 10000 0 ⟨0, 3000⟩ = ⟨3655, 3655⟩ ∧
      followStep (-1000) 1000 655 200 10000 0 ⟨3655, 3655⟩ = ⟨6655, 3000⟩ ∧
      followStep (-1000) 1000 655 200 10000 0 ⟨6655, 3000⟩ = ⟨9000, 2345⟩) ∧
      captured 16 3277 10000 0 ⟨3655, 3655⟩ = false ∧ captured 16 3277 10000 0 ⟨6655, 3000⟩ = true := by
  decide

/-- R104, R106: a TRACK entry inside its window, its chain covering, starts with a wrap; the engine slews. -/
theorem test_night_starts_an_entry :
    (let s : State :=
        { inEngine .waiting with
          time := { State.reset.time with mountTime := 1500 }
          night := ⟨[endedEntry, trackPending [seg 1000 2, seg 3000 1]], true⟩, free := 510 }
      let t := after (.demandEvent pinsQuiet [.engine]) s;
      (t.time.mountTime, t.engine.state, t.activeId, t.model.pageInUse)) =
      (2000, .slewing, some 9, true) := by
  decide

/-! ### Worked examples: guiding, enclosure -/

/-- 07, "a guided target": (120, −40), then (200, 10) clamps at 256. -/
theorem test_guide_merge :
    (let t := after (.guideCorrect ⟨120, -40⟩) (onFix (.settling 0) .settling 0)
      let u := { t with ports := State.reset.ports };
      (statusOf .guide (.guideCorrect ⟨200, 10⟩) u,
        (after (.guideCorrect ⟨200, 10⟩) u).guide.mailbox)) =
      (some .mergedClamped, some ⟨⟨256, -30⟩, 1⟩) := by
  decide

/-- 07, the same example: the take adds (100, 0) to (256, −30) and stops at the range of 300. -/
theorem test_guide_take :
    (let s : State :=
        { onFix (.settling 0) .settling 0 with
          guide := ⟨.guiding 0, some ⟨⟨100, 0⟩, 0⟩, ⟨256, -30⟩⟩
          inForce := { State.reset.inForce with guideRange := 300 } }
      let t := after (.demandEvent pinsQuiet [.engine]) s;
      (t.guide, t.axes.az.applied)) =
      (⟨.guiding 1, none, ⟨300, -30⟩⟩, 4) := by
  decide

/-- 08, "judging across north". -/
theorem test_alignment :
    judge 5000 93207 ⟨16770000, false, 0⟩ (-16700000) = .aligned ∧
      judge 5000 93207 ⟨16760000, false, 0⟩ (-16700000) = .misaligned ∧
      judge 5000 93207 ⟨100000, false, 5000⟩ (-16700000) = .aligned ∧
      judge 5000 93207 ⟨100000, false, 5001⟩ (-16700000) = .unknown := by
  decide

/-- R150: a report that asserts shelter parks the mount from WAITING, with the night flag clear. -/
theorem test_shelter_parks :
    (let t := after (.encReport 5 1) { inEngine .waiting with night := ⟨[], true⟩ };
      (t.engine, t.night.flag, t.enclosure.shelter)) = (.parking, false, true) := by
  decide

/-! ### Worked examples: step outputs, event lines -/

/-- 09, after R156: a count of 7 rises at 2, 144, 286, 428, 571, 713 and 855. -/
theorem test_seven_pulses :
    (List.range 7).map (riseOffset 7) = [2, 144, 286, 428, 571, 713, 855] ∧ scheduleLength 250 = 995 := by
  decide

/-- One demand event of an event line with no event, and one with an event after the counting. -/
def quietEvent (l : EventLine) : EventLine := { l with fresh := false }.count

/-- 09, "a delayed trigger on guide takes", demand events 10 to 15. -/
theorem test_delayed_trigger :
    (let l10 := EventLine.trigger true ⟨.guideTake, .delayed, true, 3, 2, .quiet, none, false, 0, false⟩
      let l11 := EventLine.trigger true (quietEvent l10)
      let l13 := quietEvent (quietEvent l11)
      let l14 := EventLine.trigger true (quietEvent l13)
      let l15 := quietEvent l14;
      [l10, l11, l13, l14, l15].map fun l => (l.phase, l.timer, l.output, l.ignored)) =
      [(.delay, some 3, false, 0), (.delay, some 2, false, 1), (.active, some 2, true, 1),
        (.active, some 1, true, 2), (.quiet, none, false, 2)] := by
  decide

/-- R154: two samples that agree change the filtered level, one does not; a fault then stops the mount (R170). -/
theorem test_two_samples_stop_the_mount :
    (let bad : Inputs Bool := { pinsQuiet with driveFaultEl := false }
      let s := after (.demandEvent bad []) (inEngine .idle)
      let t := after (.demandEvent bad []) s;
      (s.engine, t.engine, t.enable, t.faults.first)) =
      (.idle, .stopped, false, some ⟨.driveEl, 2000, .idle, none⟩) := by
  decide

/-- R161: with the demand event due, PARK ends the target, TARGET_END starts a PULSE line of width 1, and that event does not
count it; the next one does. -/
theorem test_timer_set_at_the_event_is_not_counted :
    (let s : State :=
        { onFix (.tracking 0) .tracking 0 with
          time := { State.reset.time with mountTime := 2000, eventDue := true }
          lines := State.reset.lines.set .ev1 ⟨.targetEnd, .pulse, true, 1, 1, .quiet, none, false, 0, false⟩ }
      let t := after (.demandEvent pinsQuiet [.engine, .line .ev1]) (after .park s)
      let u := after (.demandEvent pinsQuiet []) t;
      [t, u].map fun x => (x.time.mountTime, (x.lines.get .ev1).output, (x.lines.get .ev1).timer)) =
      [(2000, true, some 1), (3000, false, none)] := by
  decide

/-! ### Worked examples: notices, configuration, links -/

/-- R181: the CHECK of an IDENTIFY request is 0x07. -/
theorem test_identify_check : crc [0x00, 0x01] = 0x07 := by decide +kernel

/-- R167: the baud rates of the straps. -/
theorem test_baud_rates :
    [(⟨false, false⟩ : Straps), ⟨false, true⟩, ⟨true, false⟩, ⟨true, true⟩].map baudRate =
      [38400, 115200, 230400, 460800] := by
  decide

/-- 11, "the guide link under load": the reply to a GUIDE_CORRECT has 13 bytes with its start, LEN, KIND and CHECK. -/
theorem test_guide_reply_length :
    (let t := after (.guideCorrect ⟨1, 1⟩) (onFix (.tracking 0) .tracking 0);
      (t.ports.get .guide).sending.map fun r => r.frame.length) = some 13 := by
  decide +kernel

/-- R181, R191: the reply to a NOTICE_ACK is LEN 3 and KIND 0x83 with the status and the set as two bytes. -/
theorem test_notice_ack_reply :
    (let t := after (.noticeAck .guide 0x20) (State.raise .guide (State.raise .fault State.reset));
      (t.ports.get .guide).sending.map fun r => (r.frame.take 6, r.frame.length)) =
      some ([0xC3, 0x03, 0x83, 0x00, 0x00, 0x80], 7) := by
  decide +kernel

/-- R180 to R183: the four bytes of an IDENTIFY frame, received on the guide link, are taken as the request. -/
theorem test_identify_frame :
    (let t := State.reset.receive .guide [0xC3, 0x00, 0x01, 0x07];
      ((reply .guide t).map Answer.status, (t.ports.get .guide).receiver)) = (some .ok, .hunt) := by
  decide +kernel

/-- 11, "the guide link under load": 20,000 µs after the KIND byte the frame still stands, and the next microsecond abandons it;
a demand event that passes that moment, and FRAME_TIMEOUT, do so. -/
theorem test_frame_timeout :
    (let at' (gap : Nat) : State := State.reset.onPort .guide fun p => { p with receiver := .payload 4 0x60 [], gap := gap }
      let port (s : State) := let p := s.ports.get .guide; (p.receiver, p.gap, p.timeouts);
      [after (.demandEvent pinsQuiet []) (at' 19000), after (.demandEvent pinsQuiet []) (at' 19001),
          after (.frameTimeout .guide 30000) (at' 19500), after (.frameTimeout .guide 30000) (at' 100)].map port =
        [(.payload 4 0x60 [], 20000, 0), (.hunt, 0, 1), (.hunt, 0, 1), (.payload 4 0x60 [], 100, 0)]) := by
  decide

/-- R51: the reply to an append refused as ALIGN carries the place, the length and the free count. -/
theorem test_segment_refusal_payload :
    (⟨.align, .chain 2 510 none (some 3)⟩ : Answer).payload.drop 1 = [3, 0, 2, 1, 0xFE] := by
  decide

/-- 11, "the guide link under load": a second request while the reply is sent is an overrun, with no effect. -/
theorem test_overrun :
    (let t := after (.guideCorrect ⟨1, 1⟩) (onFix (.tracking 0) .tracking 0)
      let u := after (.guideCorrect ⟨2, 2⟩) t;
      ((u.ports.get .guide).overruns, u.guide.mailbox)) = (1, some ⟨⟨1, 1⟩, 0⟩) := by
  decide

/-- R190: STEP_MAX_AZ 150 followed by VMAX_AZ 160 is refused. -/
theorem test_config_cross_check :
    (let t := after (.setConfig 0x07 150) (inEngine .idle);
      (statusOf .schedule (.setConfig 0x07 150) (inEngine .idle),
        statusOf .schedule (.setConfig 0x0A 160) { t with ports := State.reset.ports })) =
      (some .ok, some .badValue) := by
  decide

/-- R128, R178: unmasking a latched kind asserts ATTN at once. -/
theorem test_unmask_asserts :
    (let s := State.raise .guide State.reset;
      ((s.notices.boxes.get .guide).attn,
        ((after (.noticeMask .guide 0x20) s).notices.boxes.get .guide).attn)) = (false, true) := by
  decide

/-! ### Witnesses: states and operands that meet the hypotheses of the statements

Each theorem is named for the statement whose hypotheses it meets; its clauses stand in the statement's order. -/

/-- The power-on state with another time base. -/
def withClock (e : Engine) (t : TimeBase) : State := { inEngine e with time := t }

/-- A time base at a mount time, in a discipline state, with a pulse age and a pending set. -/
def clock (m : Nat) (d : Discipline) (good : Nat) (age : Option Nat) (set : Option Nat) : TimeBase :=
  { State.reset.time with mountTime := m, discipline := d, goodCount := good, pulseAge := age, pendingSet := set }

/-- RESET_N high and low, and a state with the reset values under each strap setting. -/
theorem witness_ResetsLeavePowerOnState :
    (State.reset.resetLow = false ∧ ({ State.reset with resetLow := true } : State).resetLow = true) ∧
      ∀ straps : Links Straps, ∃ t : State, t.atPowerOn straps := by
  refine ⟨by decide, fun straps =>
    ⟨{ State.reset with ports := straps.map fun x => ⟨.hunt, 0, none, 0, 0, 0, x⟩ },
      ⟨rfl, rfl, rfl, rfl⟩, ⟨rfl, rfl, rfl, rfl, fun ax => ?_, fun ax => ?_⟩,
      ⟨rfl, rfl, fun i => ?_, fun l => ?_⟩, ⟨rfl, rfl, fun l => ?_⟩, rfl, fun i => ?_, rfl, rfl⟩⟩
  · cases ax <;> rfl
  · cases ax <;> rfl
  · cases i <;> rfl
  · cases l <;> rfl
  · cases l <;> rfl
  · cases i <;> first | rfl | (rename_i ax; cases ax <;> rfl)

/-- An empty queue, with RESET_N low, with a demand event due, and with neither. -/
theorem witness_StepTakesFrontCommand :
    (State.reset.pending = [] ∧ State.reset.resetLow = false ∧ State.reset.time.eventDue = false ∧
        State.reset.time.slew = none ∧ State.reset.time.mountTime ≤ 281474976710655) ∧
      ({ State.reset with resetLow := true } : State).resetLow = true ∧
      (withClock .idle { clock 1000 .locked 4 (some 2499999) none with eventDue := true }).time.eventDue = true ∧
      (withClock .idle (clock 999 .locked 4 (some 2499999) none)).time.pulseAge = some 2499999 := by
  decide

/-- A spurious pulse; LOCKED kept at e = 50; not kept and not counted, at e = 51; counted in ACQUIRING from 2 and
from 3; a set applied; e moved in a still state, and slewed in another. -/
theorem witness_PulseHandledByDiscipline :
    ((withClock .idle (clock 5 .locked 4 (some 899999) none)).resetLow = false ∧ 899999 < 900000) ∧
      (∀ a, (clock 1000050 .locked 4 (some 900000) none).pulseAge = some a → 900000 ≤ a) ∧
      ((clock 1000050 .locked 4 (some 900000) none).mountTime % 1000000 = 50 ∧ magnitude 50 ≤ 50) ∧
      ((clock 1000051 .locked 4 (some 900000) none).mountTime % 1000000 = 51 ∧ ¬ magnitude 51 ≤ 50 ∧
        ¬ magnitude 51 ≤ 2) ∧
      ((clock 1000002 .acquiring 2 (some 900000) none).discipline ≠ .locked ∧ magnitude 2 ≤ 2 ∧ 2 < 3) ∧
      ((clock 999998 .acquiring 3 (some 900000) none).discipline ≠ .locked ∧
        magnitude ((999998 : Int) - 1000000) ≤ 2 ∧ 3 ≤ 3) ∧
      ((withClock .idle (clock 5 .locked 4 none (some 7000000))).engine.isStill = true ∧
        (withClock .idle (clock 5 .locked 4 none (some 7000000))).time.pendingSet ≠ none) ∧
      ((withClock .unset (clock 217448 .free 0 none none)).engine.isStill = true ∧ 2 < magnitude 217448) ∧
      (withClock .waiting (clock 217448 .free 0 none none)).engine.isStill = false ∧
      (let due : TimeBase := { clock 1000000 .locked 4 (some 900000) none with eventDue := true }
        let moved : TimeBase := { clock 217000 .free 0 none none with eventDue := true };
        (withClock .waiting due).time.eventDue = true ∧
          (after .ppsPulse (withClock .waiting due)).time.eventDue = true ∧
          (after .ppsPulse (withClock .unset moved)).time.eventDue = false) := by
  decide

theorem witness_SetTimeAndGetTime :
    (inEngine .waiting).ready .schedule ∧ (inEngine .waiting).engine.isStill = false ∧
      ((inEngine .unset).ready .schedule ∧ (inEngine .unset).engine.isStill = true ∧
        (inEngine .unset).time.discipline = .free) ∧
      ((withClock .parked (clock 5 .locked 4 none none)).ready .schedule ∧
        (withClock .parked (clock 5 .locked 4 none none)).engine.isStill = true ∧
        (withClock .parked (clock 5 .locked 4 none none)).time.discipline ≠ .free ∧
        (281474976710655#48).toNat % 1000000 ≠ 0 ∧ (281474976000000#48).toNat % 1000000 = 0) := by
  unfold State.ready; decide

/-- A time base with a slew. -/
def slewing (w : Slew) (m age : Nat) : State :=
  withClock .idle { clock m .locked 4 (some age) none with slew := some w }

/-- A removal that is the last of its slew, at 500 in the last millisecond the statement takes; an insertion, the first;
no slew. -/
theorem witness_SlewCorrectionAtFiveHundred :
    (let s := slewing ⟨true, 20, 1, 951⟩ 281474976709500 2499000;
      s.resetLow = false ∧ s.time.slew = some ⟨true, 20, 1, 951⟩ ∧ 951 = (20 - 1) * 1000 / 20 + 1 ∧
        s.time.eventDue = false ∧ s.time.expiryDue = false ∧ s.time.mountTime % 1000 ≤ 500 ∧
        s.time.mountTime + 1000 ≤ 281474976710655 ∧ s.time.pulseAge = some 2499000 ∧
        2499000 + 1000 ≤ 2500000) ∧
      (let s := slewing ⟨false, 1, 1, 1⟩ 3000 0;
        s.resetLow = false ∧ s.time.slew = some ⟨false, 1, 1, 1⟩ ∧ 1 = (1 - 1) * 1000 / 1 + 1 ∧
          s.time.eventDue = false ∧ s.time.expiryDue = false ∧ s.time.mountTime % 1000 ≤ 500 ∧
          s.time.mountTime + 1000 ≤ 281474976710655 ∧ s.time.pulseAge = some 0) ∧
      State.reset.time.slew = none := by
  decide

/-- The age 1 µs before it, with the period's end 1 µs away, and the change due. -/
theorem witness_PulseAgeExpiryFalls :
    (let s := withClock .idle (clock 999 .locked 4 (some 2499999) none);
      s.resetLow = false ∧ s.time.mountTime ≤ 281474976710655 ∧ s.time.expiryDue = false ∧
        s.withinPeriod (2500000 - 2499999) = true) ∧
      (let s := withClock .idle { clock 1000 .acquiring 4 (some 2500000) none with expiryDue := true };
        s.resetLow = false ∧ s.time.expiryDue = true) := by
  decide

theorem witness_MountTimeHoldsAtLargest :
    (let s := withClock .idle (clock 281474976710000 .free 0 none none);
      s.resetLow = false ∧ s.time.eventDue = false ∧ 281474976710000 ≤ s.time.mountTime ∧
        s.time.mountTime ≤ 281474976710655) ∧
      (withClock .idle (clock 281474976710655 .free 0 none none)).time.mountTime ≤ 281474976710655 := by
  decide

theorem witness_MountTimeFallsOnlyWhenStill :
    (withClock .idle (clock 281474976710655 .free 0 none none)).time.mountTime ≤ 281474976710655 ∧
      ∃ t, step (withClock .idle (clock 281474976710655 .free 0 none none)) = .next t :=
  ⟨by decide, _, rfl⟩

/-- Each field of a record at a value R19 refuses, and a record that it accepts. -/
theorem witness_RecordChecked :
    (let r := sentRecord 1;
      [{ r with id := 0 }, { r with kind := 2 }, { r with wrap := 3 }, { r with dwell := 0 },
        { r with station := 2 }, { r with earliest := some 2, latest := some 1 },
        { r with fixedPosition := none }, { r with kind := 0 }, { r with presence := 8 },
        { r with flags := 8 }].map recordOf) = List.replicate 10 none ∧
      (recordOf (sentRecord 65535)).isSome = true := by
  decide

/-- 64 entries. -/
def fullList : State := { State.reset with night := ⟨List.replicate 64 endedEntry, false⟩ }

theorem witness_TargetAppendAtTail :
    State.reset.ready .schedule ∧ ({ sentRecord 1 with presence := 0 }).wf = false ∧
      ((sentRecord 0).wf = true ∧ recordOf (sentRecord 0) = none) ∧
      ((sentRecord 1).wf = true ∧ (recordOf (sentRecord 1)).map Record.id = some 1) ∧
      (busy.ready .schedule ∧ ∃ e ∈ busy.night.entries, e.record.id = 9) ∧
      (fullList.ready .schedule ∧ (∀ e ∈ fullList.night.entries, e.record.id ≠ 1) ∧
        64 ≤ fullList.night.entries.length) ∧
      ((∀ e ∈ busy.night.entries, e.record.id ≠ 1) ∧ busy.night.entries.length < 64) := by
  unfold State.ready; decide

theorem witness_TargetInsertBeforeNamed :
    (busy.ready .schedule ∧ ∀ e ∈ busy.night.entries, e.record.id ≠ (0#16).toNat) ∧
      (busy.night.entries = [endedEntry] ++ fixedActive .tracking 0 :: [trackPending [seg 1000 2, seg 3000 1]] ∧
        (∀ x ∈ [endedEntry], x.record.id ≠ 7) ∧ (fixedActive .tracking 0).isPending = false) ∧
      (busy.night.entries = [endedEntry, fixedActive .tracking 0] ++ trackPending [seg 1000 2, seg 3000 1] :: [] ∧
        (∀ x ∈ [endedEntry, fixedActive .tracking 0], x.record.id ≠ 9) ∧
        (trackPending [seg 1000 2, seg 3000 1]).isPending = true ∧
        (∃ x ∈ busy.night.entries, x.record.id = 9) ∧ (∀ x ∈ busy.night.entries, x.record.id ≠ 1) ∧
        busy.night.entries.length < 64) ∧
      (let s : State :=
          { State.reset with night := ⟨trackPending [] :: List.replicate 63 endedEntry, false⟩ };
        (trackPending []).isPending = true ∧ (∀ x ∈ s.night.entries, x.record.id ≠ 1) ∧
          64 ≤ s.night.entries.length) := by
  unfold State.ready; decide

theorem witness_EntriesLeaveTheList :
    busy.ready .schedule ∧ (∀ e ∈ busy.night.entries, e.record.id ≠ 65535) ∧
      (fixedActive .tracking 0).isActive = true ∧ (trackPending [seg 1000 2]).isActive = false ∧
      endedEntry.isActive = false := by
  unfold State.ready; decide

theorem witness_ListRead : busy.ready .schedule ∧ (∀ e ∈ busy.night.entries, e.record.id ≠ 0) ∧
    ∃ e ∈ busy.night.entries, e.record.id = 9 := by
  unfold State.ready; decide

/-- The laws of the list, the pool, the chains and the cycle hold of a night in progress, and it steps. -/
theorem witness_EntriesMoveOneWay :
    busy.ListLaw ∧ busy.CycleLaw ∧ ∃ t, step { busy with pending := [.nightStop] } = .next t := by
  refine ⟨by unfold State.ListLaw; decide, ⟨by decide, ?_, by decide⟩, _, rfl⟩
  intro e he p hp
  simp only [busy, List.mem_cons, List.not_mem_nil, or_false] at he
  rcases he with rfl | rfl | rfl
  · exact absurd hp (by simp [endedEntry])
  · cases p <;> first | rfl | exact absurd hp (by simp [fixedActive])
  · exact absurd hp (by simp [trackPending])

theorem witness_ListAndPoolLawsKept :
    busy.ListLaw ∧ busy.PoolLaw ∧ busy.ChainLaw ∧ ∃ t, step { busy with pending := [.listPurge] } = .next t := by
  refine ⟨by unfold State.ListLaw; decide, by unfold State.PoolLaw; decide, ?_, _, rfl⟩
  intro e he
  simp only [busy, List.mem_cons, List.not_mem_nil, or_false] at he
  rcases he with rfl | rfl | rfl
  · exact ⟨trivial, fun _ => rfl⟩
  · exact ⟨trivial, fun _ => rfl⟩
  · refine ⟨?_, fun h => absurd rfl h⟩
    simp only [trackPending, chainLawful]; decide

/-- At the start, inside, at the end of the chain, and before it. The states of its second part are those of
`witness_CoveringSegment_events`. -/
theorem witness_CoveringSegment :
    chainLawful [seg 1000 2, seg 2000 2] ∧
      ([seg 1000 2, seg 2000 2] = [seg 1000 2] ++ seg 2000 2 :: [] ∧ segStart (seg 2000 2) ≤ 2000) ∧
      (segEnd (seg 2000 2) ≤ 4000 ∧ 999 < segStart (seg 1000 2) ∧ segStart (seg 1000 2) ≤ 1000 ∧
        3999 < segEnd (seg 2000 2)) := by
  unfold chainLawful; simp only [chainLawful]; decide

theorem witness_SegmentAppendAllOrNothing :
    (busy.ready .schedule ∧ ∀ e ∈ busy.night.entries, e.record.id ≠ 1) ∧
      (endedEntry.isEnded = true ∧ (fixedActive .tracking 0).isEnded = false ∧
        (fixedActive .tracking 0).record.kind ≠ .track) ∧
      (let e := trackPending [seg 1000 2, seg 3000 1];
        e.isEnded = false ∧ e.record.kind = .track ∧
          segmentsFault e.isActive 0 1 e.chain.getLast? [seg 4000 1, seg 5001 1] = some (.align, 2) ∧
          segmentsFault e.isActive 0 1 e.chain.getLast? [seg 4000 1] = none) ∧
      (({ busy with free := 0 } : State).free < 1 ∧ 1 ≤ ({ busy with free := 1 } : State).free) := by
  unfold State.ready; decide

theorem witness_SegmentsChecked :
    chainLawful [seg 1000 2, seg 3000 1] ∧
      segmentsFault true 3999 1 (some (seg 3000 1)) [seg 4000 1] = none ∧
      segmentsFault true 4000 1 (some (seg 3000 1)) [seg 4000 1] = some (.late, 1) ∧
      segmentsFault false 0 1 (some (seg 3000 1)) [seg 4000 1, seg 6000 1] = some (.order, 2) ∧
      segmentsFault true 9000 1 (some (seg 3000 1)) [seg 3000 1] = some (.order, 1) ∧
      segmentsFault false 0 1 (some (seg 3000 1)) [seg 4001 1] = some (.align, 1) ∧
      segmentsFault false 0 1 none [seg 281474976710000 1] = some (.badValue, 1) := by
  simp only [chainLawful]; decide

theorem witness_ModelPointersAndEntries :
    State.reset.ready .schedule ∧ 1 < (2#8).toNat ∧ 127 < (128#8).toNat ∧ (1#8).toNat ≤ 1 ∧
      (127#8).toNat ≤ 127 ∧ 60 < (61#8).toNat ∧ 1 ≤ (1#8).toNat ∧ (60#8).toNat ≤ 60 ∧ State.reset.ModelLaw ∧
      1 ≤ (List.replicate 60 (⟨1, 2⟩ : Pair)).length ∧ (List.replicate 60 (⟨1, 2⟩ : Pair)).length ≤ 60 := by
  unfold State.ready State.ModelLaw; decide

theorem witness_CorrectionIsWeightedMean :
    (-1 : Int) < 0 ∧ (3670016 : Int) ≤ 3670016 ∧ (0 : Int) ≤ 3670015 ∧ (3670015 : Int) < 3670016 ∧
      ∀ i j, (i = (row 0).1 ∨ i = (row 0).1 + 1) → (j = (column 0).1 ∨ j = 1) →
        (0 : Int) ≤ (readCell [] ((if false then 128 else 0) + (i * 16 + j))).az.toInt := by
  exact ⟨by decide, by decide, by decide, by decide, fun _ _ _ _ => (by decide : (0 : Int) ≤ zeroPair.az.toInt)⟩

theorem witness_SegmentEvaluated : (0 : Nat) = 0 ∧ (65534 : Nat) ≤ 65534 := by decide

/-- Refused in STOPPED and in motion, and for a value 1 count outside; accepted at the limits; from UNSET the drives, with a
park owed, and with a fault input asserted. -/
theorem witness_SetPositionPlacesAxes :
    (inEngine .stopped).ready .schedule ∧ (inEngine .stopped).engine = .stopped ∧
      ((inEngine .waiting).ready .schedule ∧ (inEngine .waiting).engine.isStill = false) ∧
      ((inEngine .idle).ready .schedule ∧ ¬ (inEngine .idle).latest (.lower .az) ≤ (-23068673#32).toInt) ∧
      ((inEngine .unset).ready .schedule ∧ (inEngine .unset).enable = false ∧
        (∀ ax ∈ [Axis.az, .el, .rot],
          (inEngine .unset).latest (.lower ax) ≤
              ((⟨23068672#32, 4171002#32, 12582912#32⟩ : Axes (BitVec 32)).get ax).toInt ∧
            ((⟨23068672#32, 4171002#32, 12582912#32⟩ : Axes (BitVec 32)).get ax).toInt ≤
              (inEngine .unset).latest (.upper ax)) ∧
        (inEngine .unset).faultAsserted = false ∧ (inEngine .unset).enclosure.parkOwed = false) ∧
      (State.withParkOwed true (inEngine .unset)).enclosure.parkOwed = true ∧
      ({ inEngine .unset with inputs := { State.reset.inputs with limitSwitch := ⟨true, true⟩ } } :
        State).faultAsserted = true := by
  unfold State.ready; decide

/-- A code of neither class, below, between and above; a motion item outside a still state; a value refused and accepted. -/
theorem witness_ConfigRequests :
    State.reset.ready .schedule ∧
      [(0x00 : Byte), 0x10, 0x16, 0x1F, 0x2B].map itemOfCode = List.replicate 5 none ∧
      itemOfCode 0x2A = some .followEnc ∧
      (itemOfCode 0x07 = some (.stepMax .az) ∧ Item.isMotion (.stepMax .az) = true ∧
        (inEngine .waiting).ready .schedule ∧ (inEngine .waiting).engine.isStill = false) ∧
      (Item.isMotion .cstep = false ∧ (inEngine .waiting).valueAllowed .cstep 0 = false ∧
        (inEngine .waiting).valueAllowed .cstep 1 = true) := by
  unfold State.ready; decide

/-- The items of the power-on state are lawful. -/
theorem reset_items_lawful : itemsLawful State.reset.latest := by
  refine ⟨fun i => ?_, fun ax => ?_⟩
  · cases i <;> first | decide | (rename_i ax; cases ax <;> decide)
  · cases ax <;> decide

theorem witness_ConfigValueChecks : itemsLawful State.reset.latest ∧ (inEngine .idle).engine ≠ .unset :=
  ⟨reset_items_lawful, by decide⟩

theorem witness_SoftResetKeepsTheRest :
    ((inEngine .stopped).ready .schedule ∧ (inEngine .stopped).engine = .stopped) ∧
      (busy.ready .schedule ∧ busy.engine.isStill = false) ∧
      ((inEngine .parked).ready .schedule ∧ (inEngine .parked).engine = .parked) := by
  unfold State.ready; decide

/-- The configuration law holds of a night in progress. -/
theorem busy_config : busy.ConfigLaw := by
  refine ⟨⟨fun i => ?_, fun ax => ?_⟩, ⟨fun i => ?_, fun ax => ?_⟩⟩
  · cases i <;> first | decide | (rename_i ax; cases ax <;> decide)
  · cases ax <;> decide
  · cases i <;> first | decide | (rename_i ax; cases ax <;> decide)
  · cases ax <;> decide

/-- A night in progress with the limit switch low at its last sample. -/
def busySwitch : State := { busy with inputs := { State.reset.inputs with limitSwitch := ⟨true, false⟩ } }

/-- An event without a fault, in TRACKING and in PARKED, and one with. -/
theorem witness_DemandEventBoundsStepAndBlend :
    busy.ConfigLaw ∧ (∃ t, exec (.demandEvent pinsQuiet []) busy = .next t) ∧ (inEngine .parked).engine = .parked ∧
      busySwitch.ConfigLaw ∧
      (busy.resetLow = false ∧ busy.time.untilEvent = some 1000 ∧
        (after (.demandEvent pinsQuiet []) busy).engine ≠ .stopped) ∧
      (busySwitch.resetLow = false ∧ busySwitch.time.untilEvent = some 1000 ∧
        (after (.demandEvent { pinsQuiet with limitSwitch := false } []) busySwitch).engine = .stopped) :=
  ⟨busy_config, ⟨_, rfl⟩, rfl, busy_config, by decide⟩

theorem witness_BlendReachesWanted :
    (1 : Int) ≤ 1 ∧ (1 : Int) < 2 - 0 ∧ (0 : Int) - 2 < -1 ∧ (-1 : Int) ≤ 1 - 0 ∧ (1 : Int) - 0 ≤ 1 ∧
      magnitude (8 - 0) ≤ ((8 : Nat) : Int) * 1 := by
  decide

theorem witness_OffsetSetReplacesHost :
    ((inEngine .idle).ready .schedule ∧ (inEngine .idle).engine.followsTarget = false) ∧
      (busy.ready .schedule ∧ busy.engine.followsTarget = true) ∧
      (¬ (262145#32).toInt ≤ 262144 ∧ -262144 ≤ (-262144#32).toInt ∧ (262144#32).toInt ≤ 262144) := by
  unfold State.ready; decide

/-! ### Witnesses: the target cycle -/

/-- The power-on state in a still state with time valid. -/
def timed (e : Engine) : State := withClock e { State.reset.time with timeValid := true }

/-- A state with the shelter condition and its line asserted. -/
def sheltered (e : Engine) : State :=
  { inEngine e with
    enclosure := { State.reset.enclosure with shelter := true }
    inputs := { State.reset.inputs with shelter := ⟨true, true⟩ } }

/-- A state with the EL drive fault line asserted. -/
def faulted (s : State) : State := { s with inputs := { s.inputs with driveFaultEl := ⟨true, true⟩ } }

theorem witness_NightStartChecked :
    ((inEngine .waiting).ready .schedule ∧ (inEngine .waiting).engine ≠ .idle ∧
        (inEngine .waiting).engine ≠ .parked) ∧
      ((sheltered .idle).ready .schedule ∧ (sheltered .idle).enclosure.shelter = true) ∧
      ((inEngine .parked).ready .schedule ∧ (inEngine .parked).time.timeValid = false) ∧
      ((timed .idle).ready .schedule ∧ (timed .idle).enable = true ∧
        (timed .idle).enclosure.shelter = false ∧ (timed .idle).time.timeValid = true) ∧
      ((timed .parked).ready .schedule ∧ (timed .parked).enable = false ∧
        (timed .parked).faultAsserted = false ∧ (faulted (timed .parked)).faultAsserted = true) := by
  unfold State.ready; decide

/-- WAITING and STOPPING toward it, IDLE, and the four target states with their ACTIVE entry. -/
theorem witness_NightStopStops :
    (inEngine (.stopping .waiting)).ready .schedule ∧
      ((inEngine .idle).ready .schedule ∧ (inEngine .idle).engine.isTarget = false) ∧
      [onFix (.slewing 0 0) .slewing 0, onFix (.settling 0) .settling 0, onFix (.tracking 0) .tracking 0,
          onFix (.holding 0) .holding 0].map (fun s => (s.engine.isTarget, s.activeEntry.isSome)) =
        List.replicate 4 (true, true) ∧
      (onFix (.holding 0) .holding 0).ready .schedule := by
  unfold State.ready; decide

theorem witness_TargetAbortEndsActive :
    busy.ready .schedule ∧ busy.activeId ≠ some (9#16).toNat ∧ busy.engine.isTarget = true ∧
      busy.activeEntry = some (fixedActive .tracking 0) ∧ (fixedActive .tracking 0).record.id = (7#16).toNat := by
  unfold State.ready; decide

theorem witness_ParkFoldsAndParks :
    ((inEngine .unset).ready .schedule ∧ (inEngine .stopped).ready .schedule) ∧
      (inEngine .parking).ready .schedule ∧ (inEngine (.stopping .idle)).ready .schedule ∧
      (busy.ready .schedule ∧ busy.engine.isTarget = true ∧
        busy.activeEntry = some (fixedActive .tracking 0)) := by
  unfold State.ready; decide

/-- A list with nothing ACTIVE in which the scan passes over an ENDED entry, ends one as LATE and starts the next. -/
theorem witness_SelectionScansFromHead :
    (let late : Entry := ⟨{ trackRecord with id := 4, latest := some 5 }, .pending, ⟨none, none, none, none, none, none⟩, []⟩
      let s : State :=
        { withClock .waiting (clock 2000 .free 0 none none) with
          night := ⟨[endedEntry, late, trackPending [seg 1000 2]], true⟩ };
      (∀ e ∈ s.night.entries, e.isActive = false) ∧
        (s.select false).engine.state = .slewing ∧
        (s.select false).night.entries.map Entry.status =
          [.ended .late, .ended .late, .active .slewing]) ∧
      (let off : Entry :=
          { fixedActive .slewing 0 with
            record := { fixedRecord with id := 4, kind := .fixed ⟨0, 4171003, 0⟩ }, status := .pending }
        let s : State :=
          { withClock .waiting (clock 2000 .free 0 none none) with
            night := ⟨[off, trackPending []], true⟩ };
        (∀ e ∈ s.night.entries, e.isActive = false) ∧
          ((s.select true).engine.state, (s.select true).waitReason) = (.stopping, some .noTrack) ∧
          (s.select true).night.entries.map Entry.status = [.ended .limit, .pending]) ∧
      (let s : State := { withClock .waiting (clock 2000 .free 0 none none) with night := ⟨[endedEntry], true⟩ };
        (s.select false).waitReason = some .nonePending) := by
  decide

theorem witness_WrapChosenByPreference :
    wrapChoice .auto 0 16777215 0 0 0 = some 0 ∧ wrapChoice .low 1 16777215 16777216 0 0 = none := by
  decide

/-- An approach, a brake and an axis at rest on its target, with the least ACC and VMAX and limits that meet. The states of its
second part are those of `witness_FollowerAndDeceleration_events`. -/
theorem witness_FollowerAndDeceleration :
    (1 : Int) ≤ 1 ∧ (5 : Int) ≤ 5 ∧
      (let e : Int := 10; let w : Int := 4;
        w ≠ 0 ∧ w.sign = e.sign ∧ ¬ magnitude e ≤ w ^ 2 / (2 * 2) + magnitude w) ∧
      (let e : Int := 10; let w : Int := 5;
        w ≠ 0 ∧ w.sign = e.sign ∧ magnitude e ≤ w ^ 2 / (2 * 2) + magnitude w) ∧
      magnitude (-7) ≤ ((7 : Nat) : Int) * 1 := by
  decide

/-! ### Witnesses: guiding and the enclosure -/

/-- The target's record without the guided flag. -/
def unguided : State :=
  { busy with night := ⟨[{ fixedActive .tracking 0 with record := { fixedRecord with guided := false } }], true⟩ }

theorem witness_GuideCorrectAndZero :
    ((inEngine .idle).ready .guide ∧ 0 ≤ (inEngine .idle).inForce.guideStepMax ∧
        (inEngine .idle).engine.followsTarget = false) ∧
      (unguided.ready .guide ∧ unguided.engine.followsTarget = true ∧
        unguided.activeEntry.map (fun e => e.record.guided) = some false) ∧
      (busy.ready .guide ∧ busy.engine.followsTarget = true ∧
        busy.activeEntry.map (fun e => e.record.guided) = some true ∧ busy.guide.mailbox = none) ∧
      (max (-256) (min 256 ((256#16).toInt)) = (256#16).toInt ∧
        max (-256) (min 256 ((257#16).toInt)) ≠ (257#16).toInt) ∧
      (let s : State := { busy with guide := ⟨.guiding 0, some ⟨⟨256, 0⟩, 65535⟩, ⟨0, 0⟩⟩ };
        s.ready .guide ∧ s.guide.mailbox = some ⟨⟨256, 0⟩, 65535⟩) := by
  unfold State.ready; decide

theorem witness_EncReportFormsShelter :
    ((inEngine .idle).ready .enclosure ∧ 16777215 < (16777216#32).toNat ∧ 1 < (2#8).toNat) ∧
      ((16777215#32).toNat ≤ 16777215 ∧ (1#8).toNat ≤ 1 ∧ (inEngine .idle).enclosure.shelter = false) ∧
      ((sheltered .parked).ready .enclosure ∧ (sheltered .parked).enclosure.shelter = true ∧
        (sheltered .parked).inputs.shelter.level = true) ∧
      (let s : State := { inEngine .parked with enclosure := { State.reset.enclosure with shelter := true } };
        s.ready .enclosure ∧ s.enclosure.shelter = true ∧ s.inputs.shelter.level = false) ∧
      ((inEngine .unset).ready .enclosure ∧ (inEngine (.stopping .idle)).ready .enclosure) ∧
      (busy.ready .enclosure ∧ busy.enclosure.shelter = false ∧ busy.engine.isTarget = true ∧
        busy.activeEntry = some (fixedActive .tracking 0)) := by
  unfold State.ready; decide

/-- A report at the age of ENC_TIMEOUT, judged until now. -/
def oldReport : State :=
  { inEngine .idle with enclosure := ⟨some ⟨16777215, false, 5000⟩, .aligned, false, false⟩ }

theorem witness_ReportAgeExpires :
    oldReport.counting ∧ oldReport.enclosure.report = some ⟨16777215, false, 5000⟩ ∧
      oldReport.latest .encTimeout < min 600001 (5000 + 1) ∧ oldReport.enclosure.alignment ≠ .unknown ∧
      ((0 : Int) ≤ 16777215 ∧ (16777215 : Int) < 16777216 ∧ (0 : Int) ≤ 5000 ∧ (5000 : Int) ≤ 5000) := by
  unfold State.counting; decide

/-- The mount at azimuth 0 with a report of a slit, whose age the event brings to ENC_TIMEOUT. -/
def reported (slit : Nat) : State :=
  { inEngine .idle with enclosure := ⟨some ⟨slit, false, 4999⟩, .unknown, false, false⟩ }

/-- No report, and a slit at ENC_TOL from the demand and 1 count farther, on either side of it (R142). -/
theorem witness_ReportAgeExpires_judged :
    ((inEngine .idle).counting ∧ (inEngine .idle).enclosure.report = none) ∧
      ((reported 0).counting ∧ ¬ (reported 0).latest .encTimeout < min 600001 (4999 + 1)) ∧
      [93207, 93208, 16777216 - 93207, 16777216 - 93208].map
          (fun x => (after (.demandEvent pinsQuiet []) (reported x)).enclosure.alignment) =
        [.aligned, .misaligned, .aligned, .misaligned] := by
  unfold State.counting; decide

/-! ### Witnesses: event lines and step outputs -/

/-- EV1 with a mode, a phase and its timer at 1. -/
def withLine (m : LineMode) (p : LinePhase) (t : Option Nat) : State :=
  { inEngine .idle with
    lines := State.reset.lines.set .ev1 ⟨.second, m, true, 3, 2, p, t, decide (p = .active), 0, false⟩ }

theorem witness_EventLineRequests :
    State.reset.ready .schedule ∧ 4 ≤ (4#8).toNat ∧
      (3, LineId.ev3) ∈ [((0 : Byte), LineId.ev0), (3, .ev3)] ∧ lineOfCode 3 = some .ev3 ∧ 11 ≤ (11#8).toNat ∧
      5 ≤ (5#8).toNat ∧ (sourceOfCode 10 = some .fault ∧ modeOfCode 4 = some .toggle ∧ (1#8).toNat ≤ 1 ∧
        (1#16).toNat ≠ 0) ∧
      ((withLine .manual .quiet none).ready .schedule ∧
        ((withLine .manual .quiet none).lines.get .ev1).mode = .manual ∧
        ((withLine .manual .quiet none).lines.get .ev0).mode ≠ .manual) := by
  unfold State.ready; decide

/-- EV1 with its timer marked as set at the demand event that is due. -/
def markedLine : State :=
  { withLine .delayed .delay (some 2) with
    time := { State.reset.time with mountTime := 1000000, eventDue := true }
    lines := State.reset.lines.set .ev1 ⟨.second, .delayed, true, 3, 2, .delay, some 2, false, 0, true⟩ }

/-- A line of each mode, on an event of its source and on none; a timer at 2 that counts and one marked; at 1 in DELAY and in
ACTIVE. -/
theorem witness_LineTimersExpire :
    ((withLine .manual .quiet none).counting ∧ ((withLine .manual .quiet none).lines.get .ev1).source = .second ∧
        ((withLine .manual .quiet none).lines.get .ev1).timer = none ∧
        (withLine .toggle .quiet none).nextEventTime % 1000000 ≠ 0) ∧
      ((withLine .delayed .delay (some 2)).counting ∧
        ((withLine .delayed .delay (some 2)).lines.get .ev1).fresh = false) ∧
      (markedLine.counting ∧ (markedLine.lines.get .ev1).fresh = true ∧
        (markedLine.lines.get .ev1).phase ≠ .quiet ∧ (markedLine.lines.get .ev1).timer = some 2 ∧
        markedLine.nextEventTime % 1000000 = 0) ∧
      ((withLine .delayed .delay (some 1)).counting ∧
        ((withLine .delayed .delay (some 1)).lines.get .ev1).timer = some 1 ∧
        ((withLine .delayed .delay (some 1)).lines.get .ev1).fresh = false) ∧
      ((withLine .pulse .active (some 1)).counting ∧
        ((withLine .pulse .active (some 1)).lines.get .ev1).source = .second ∧
        ((withLine .pulse .active (some 1)).lines.get .ev1).fresh = false ∧
        (withLine .pulse .active (some 1)).nextEventTime % 1000000 ≠ 0) := by
  unfold State.counting; decide

theorem witness_CountIsIssuedInFull :
    (1 : Int) ≠ 0 ∧ magnitude (-250) ≤ 250 ∧ StepOut.initial.schedule = none ∧ StepOut.initial.waiting = [] ∧
      (let n := 250; let i := 249; i < n ∧ 2 + i * 996 / n ≤ 994 ∧ i + 1 = n) ∧
      (let n := 250; let i := 0; i < n ∧ 2 + i * 996 / n ≤ 2 ∧ 2 < 2 + (i + 1) * 996 / n) := by
  decide

/-- The AZ output at `e` microseconds into a schedule of 250, with a count waiting. -/
def stepping (e : Nat) : State :=
  { inEngine .idle with
    steps := State.reset.steps.set .az ⟨some ⟨⟨true, 250⟩, e⟩, [⟨false, 1⟩], true, false, 0⟩ }

theorem witness_StepRowsAdvance :
    (State.reset.resetLow = false ∧ (State.reset.steps.get .az).schedule = none ∧
        (State.reset.steps.get .az).waiting = []) ∧
      (let s := stepping 993;
        s.resetLow = false ∧ (s.steps.get .az).stepHigh = false ∧ risen 250 993 < 250 ∧
          s.withinPeriod (3 + risen 250 993 * 996 / 250 - 993) = true) ∧
      (let s := stepping 0;
        0 < 3 + (250 - 1) * 996 / 250 ∧ s.withinPeriod (3 + (250 - 1) * 996 / 250 - 0) = true) ∧
      (let late := { stepping 0 with time := { State.reset.time with mountTime := 999 } };
        late.withinPeriod (3 + risen 250 0 * 996 / 250 - 0) = false ∧
          late.withinPeriod (3 + (250 - 1) * 996 / 250 - 0) = false) ∧
      (250 ≤ risen 250 994 ∧ 994 = 2 + 249 * 996 / 250 ∧ 5 = 2 + 1 * 996 / 250) ∧
      (let high : State :=
          { stepping 5 with
            steps := State.reset.steps.set .az ⟨some ⟨⟨true, 250⟩, 5⟩, [⟨false, 1⟩], true, true, 2⟩ }
        let due := { high with time := { State.reset.time with mountTime := 1000, eventDue := true } };
        high.withinPeriod 1 = true ∧ due.withinPeriod 1 = false) := by
  decide

/-! ### Witnesses: demand events -/

theorem witness_DemandEventSamplesAndCommits :
    (¬ ({ State.reset with resetLow := true } : State).counting) ∧
      (¬ (withClock .idle (clock 281474976710000 .free 0 none none)).counting) ∧
      (withClock .idle (clock 281474976709999 .free 0 none none)).counting := by
  unfold State.counting; decide

theorem reset_counting : State.reset.counting := ⟨rfl, by decide⟩

/-- The FIXED target's position lies inside the default limits. -/
theorem reset_within (ax : Axis) :
    0 ≤ State.reset.inForce.cstep ∧ 0 ≤ State.reset.inForce.guideRange ∧
      State.reset.within ax (roundCounts ((fixedPositions ⟨0, 4000000, 0⟩ 0).get ax)) = true := by
  cases ax <;> decide

/-- The mount at rest inside its limits, with nothing ACTIVE, in a state. -/
def standing (e : Engine) : State := { inEngine e with axes := restAt 0 4000000 0 }

/-- In any engine state it is calm: a demand event's turns find nothing to do but the engine's own. -/
theorem standing_calm (e : Engine) : (standing e).calm pinsQuiet :=
  ⟨reset_counting, fun i => by cases i <;> rfl, rfl, rfl⟩

/-- IDLE, WAITING and PARKED. -/
theorem witness_DemandEventSamplesAndCommits_held :
    [Engine.idle, .waiting, .parked].map (fun e => (standing e).engine) = [.idle, .waiting, .parked] ∧
      (standing .idle).calm pinsQuiet :=
  ⟨rfl, standing_calm _⟩

/-- STOPPING that is at rest and that is not, and PARKING at the park position and away from it. -/
theorem witness_FollowerAndDeceleration_events :
    (standing (.stopping .idle)).calm pinsQuiet ∧ (standing (.stopping .idle)).enable = true ∧
      (∀ e ∈ (standing (.stopping .idle)).night.entries, e.isActive = false) ∧
      brake 655 655 = 0 ∧ brake 655 656 ≠ 0 ∧
      ((standing .parking).enable = true ∧ (standing .parking).inForce.park = ⟨0, 4000000, 0⟩) ∧
      (after (.demandEvent pinsQuiet []) (standing .parking)).engine = .parked ∧
      (after (.demandEvent pinsQuiet []) { standing .parking with axes := restAt 0 233017 0 }).engine = .parking ∧
      (after (.demandEvent pinsQuiet []) (standing (.stopping .idle))).engine = .idle := by
  exact ⟨standing_calm _, by decide⟩

/-- The mount on a TRACK target with a chain, in an engine state. -/
def onChain (e : Engine) (p : Phase) (chain : List Segment) : State :=
  { standing e with
    night := ⟨[⟨trackRecord, .active p, ⟨some 0, some 0, none, none, none, some (tallyOf 0)⟩, chain⟩], true⟩
    free := 512 - chain.length }

theorem onChain_calm (e : Engine) (p : Phase) (chain : List Segment) :
    (onChain e p chain).calm pinsQuiet ∧
      (onChain e p chain).onTrack
        ⟨trackRecord, .active p, ⟨some 0, some 0, none, none, none, some (tallyOf 0)⟩, chain⟩ 0 :=
  ⟨⟨reset_counting, fun i => by cases i <;> rfl, rfl, rfl⟩,
    rfl, rfl, rfl, rfl, rfl, rfl, (reset_within .az).1, (reset_within .az).2.1,
    fun ax => ⟨by cases ax <;> rfl, by cases ax <;> rfl⟩⟩

/-- A segment 1 count above the upper elevation limit. -/
def highSeg : Segment := ⟨1000, 2, ⟨0, BitVec.ofInt 48 (4171003 * 65536), 0⟩, ⟨0, 0, 0⟩, ⟨0, 0, 0⟩⟩

/-- The end a demand event gave the entry. -/
def endOf (s : State) : List EntryStatus :=
  (after (.demandEvent pinsQuiet []) s).night.entries.map Entry.status

/-- With onChain_calm: a chain that covers the event and one that has run out, the target inside the limits and outside,
followed and slewed to. -/
theorem witness_CoveringSegment_events :
    (covering 1000 [seg 1000 2] = some (seg 1000 2) ∧ covering 1000 [seg 2000 2] = none ∧
      covering 1000 [highSeg] = some highSeg) ∧
      (let p := segPositions (seg 1000 2) 0 0
        let s := onChain (.slewing 0 0) .slewing [seg 1000 2]
        let far := { s with axes := restAt 0 233017 0 };
        [Axis.az, .el, .rot].all (fun ax => s.within ax (roundCounts (p.get ax))) = true ∧
          s.within .el (roundCounts ((segPositions highSeg 0 0).get .el)) = false ∧
          [Axis.az, .el, .rot].all (fun ax => s.within ax (s.axes.get ax).demand) = true ∧
          (let m := far.followTo p (segRates (seg 1000 2) 0);
            far.captureTest p (segRates (seg 1000 2) 0) m = false ∧
              [Axis.az, .el, .rot].all (fun ax => far.within ax (roundCounts (m.get ax).pos)) = true)) ∧
      [endOf (onChain (.tracking 0) .tracking [seg 2000 2]), endOf (onChain (.tracking 0) .tracking [highSeg]),
        endOf (onChain (.slewing 0 0) .slewing [highSeg]), endOf (onChain (.settling 0) .settling [seg 1000 2])] =
        [[.ended .runout], [.ended .limit], [.ended .limit], [.active .settling]] := by
  decide

/-- The mount at rest on its FIXED target meets what the statements on timers ask, with any engine state. -/
theorem onFix_calm (e : Engine) (p : Phase) (n : Nat) :
    (onFix e p n).calm pinsQuiet ∧ (onFix e p n).onFixed (fixedActive p n) ⟨0, 4000000, 0⟩ 0 :=
  ⟨⟨reset_counting, fun i => by cases i <;> rfl, rfl, rfl⟩,
    rfl, rfl, rfl, rfl, rfl, rfl, (reset_within .az).1, (reset_within .az).2.1,
    fun ax => ⟨by cases ax <;> rfl, by cases ax <;> rfl, (reset_within ax).2.2⟩⟩

/-- The same state with the hold line asserted, at its pin and in its filter. -/
def held (e : Engine) (p : Phase) (n : Nat) : State :=
  { onFix e p n with inputs := { State.reset.inputs with instHold := ⟨true, true⟩ } }

theorem held_calm (e : Engine) (p : Phase) (n : Nat) :
    (held e p n).calm { pinsQuiet with instHold := true } ∧
      (held e p n).onFixed (fixedActive p n) ⟨0, 4000000, 0⟩ 0 :=
  ⟨⟨reset_counting, fun i => by cases i <;> rfl, rfl, rfl⟩,
    rfl, rfl, rfl, rfl, rfl, rfl, (reset_within .az).1, (reset_within .az).2.1,
    fun ax => ⟨by cases ax <;> rfl, by cases ax <;> rfl, (reset_within ax).2.2⟩⟩

/-- The mount far from its target, SLEWING. -/
theorem farFix_calm (e : Engine) :
    (farFix e).calm pinsQuiet ∧ (farFix e).onFixed (fixedActive .slewing 0) ⟨0, 4000000, 0⟩ 0 :=
  ⟨⟨reset_counting, fun i => by cases i <;> rfl, rfl, rfl⟩,
    rfl, rfl, rfl, rfl, rfl, rfl, (reset_within .az).1, (reset_within .az).2.1,
    fun ax => ⟨by cases ax <;> rfl, by cases ax <;> rfl, (reset_within ax).2.2⟩⟩

/-- The capture test of a state against its FIXED target. -/
def captures (s : State) : Bool :=
  let g := fixedPositions ⟨0, 4000000, 0⟩ 0
  s.captureTest g (.const 0) (s.followTo g (.const 0))

/-- With onFix_calm and farFix_calm: a slew that captures, one at its timeout that does not, and a settle timer one short of
SETTLE_TIME and at it. -/
theorem witness_SlewAndSettleEnd :
    captures (onFix (.slewing 0 0) .slewing 0) = true ∧
      (captures (farFix (.slewing 299999 0)) = false ∧
        (farFix (.slewing 299999 0)).inForce.slewTimeout ≤ (299999 + 1 : Nat)) ∧
      (onFix (.settling 1999) .settling 0).inForce.settleTime ≤ (1999 + 1 : Nat) ∧
      (1998 + 1 : Nat) < (onFix (.settling 1998) .settling 0).inForce.settleTime := by
  decide

/-- With onFix_calm and held_calm: the last millisecond of a dwell of 3 and the one before it, with the hold line and
without; a hold at its last count of 5, before it, and released. -/
theorem witness_DwellAndHoldEnd :
    fixedRecord.dwell ≤ 2 + 1 ∧ 1 + 1 < fixedRecord.dwell ∧ 0 < fixedRecord.maxHold ∧
      showsLevel { pinsQuiet with instHold := true } .instHold = true ∧
      ¬ showsLevel pinsQuiet .instHold = true ∧
      (fixedActive .holding 4).results.tally = some (tallyOf 4) ∧
      fixedRecord.maxHold ≤ (tallyOf 4).holdUsed + 1 ∧ (tallyOf 4).holdUsed < 4294967295 ∧
      (tallyOf 3).holdUsed + 1 < fixedRecord.maxHold := by
  decide

/-- The mount on its target with the guide timer at `n`. -/
def guided (e : Engine) (p : Phase) (n : Nat) : State := { onFix e p 0 with guide := ⟨.guiding n, none, ⟨0, 0⟩⟩ }

/-- The guide timer one short of GUIDE_TIMEOUT and at it, in SETTLING, and in TRACKING before the dwell's end. -/
theorem witness_GuideTimerRunsOut :
    ((guided (.settling 0) .settling 9999).calm pinsQuiet ∧
        (guided (.settling 0) .settling 9999).onFixed (fixedActive .settling 0) ⟨0, 4000000, 0⟩ 0) ∧
      (9998 + 1 : Nat) < State.reset.inForce.guideTimeout ∧
      State.reset.inForce.guideTimeout ≤ (9999 + 1 : Nat) ∧ 1 + 1 < fixedRecord.dwell :=
  ⟨⟨⟨reset_counting, fun i => by cases i <;> rfl, rfl, rfl⟩,
    rfl, rfl, rfl, rfl, rfl, rfl, (reset_within .az).1, (reset_within .az).2.1,
    fun ax => ⟨by cases ax <;> rfl, by cases ax <;> rfl, (reset_within ax).2.2⟩⟩,
    by decide, by decide, by decide⟩

/-- The mount on its target with a full mailbox that takes G past its range. -/
def fullBox (e : Engine) (p : Phase) : State :=
  { onFix e p 0 with guide := ⟨.guiding 0, some ⟨⟨256, -30⟩, 2⟩, ⟨8000, 0⟩⟩ }

/-- The take in SETTLING and in TRACKING. -/
theorem witness_GuideTimerRunsOut_take :
    ((fullBox (.settling 0) .settling).calm pinsQuiet ∧ (fullBox (.tracking 0) .tracking).calm pinsQuiet) ∧
      ((fullBox (.settling 0) .settling).GuideLaw ∧ (fullBox (.tracking 0) .tracking).GuideLaw) ∧
      ((fullBox (.settling 0) .settling).activeEntry = some (fixedActive .settling 0) ∧ 0 + 1 < fixedRecord.dwell) ∧
      (let s := fullBox (.settling 0) .settling
        let base := fixedPositions ⟨0, 4000000, 0⟩ 0;
        [Axis.az, .el, .rot].all
          (fun ax => s.within ax (roundCounts (base.get ax) + blend 4 ((⟨8192, -30, 0⟩ : Axes Int).get ax) 0)) = true) := by
  refine ⟨⟨⟨reset_counting, fun i => by cases i <;> rfl, rfl, rfl⟩,
    ⟨reset_counting, fun i => by cases i <;> rfl, rfl, rfl⟩⟩, ⟨?_, ?_⟩, by decide, by decide⟩
  · unfold State.GuideLaw; decide
  · unfold State.GuideLaw; decide

/-- With onFix_calm and held_calm: TRACKING before the dwell's end, HOLDING with the hold line, and SETTLING; ON_TARGET rises
in the first where the guide state and the alignment allow it. -/
theorem witness_ReportAgeExpires_onTarget :
    (fixedActive .tracking 0).results.tally = some (tallyOf 0) ∧ 1 + 1 < fixedRecord.dwell ∧
      (showsLevel { pinsQuiet with instHold := true } .instHold = true ∧ 3 + 1 < fixedRecord.maxHold) ∧
      (0 + 1 : Nat) < (onFix (.settling 0) .settling 0).inForce.settleTime ∧
      (let s : State :=
          { onFix (.tracking 0) .tracking 0 with inForce := { State.reset.inForce with followEnc := 0 } };
        s.onTarget = false ∧ (after (.demandEvent pinsQuiet []) s).onTarget = true) ∧
      (after (.demandEvent pinsQuiet []) (onFix (.tracking 0) .tracking 0)).onTarget = false := by
  decide

/-- With standing_calm, onFix_calm, held_calm and farFix_calm: WAITING with nothing ACTIVE, a dwell at its end without the hold
line, a hold released, and a slew at its timeout that does not capture. -/
theorem witness_SelectionScansFromHead_events :
    ((standing .waiting).engine = .waiting ∧ (∀ e ∈ (standing .waiting).night.entries, e.isActive = false)) ∧
      (fixedRecord.dwell ≤ 2 + 1 ∧ ¬ showsLevel pinsQuiet .instHold = true) ∧
      (onFix (.holding 3) .holding 0).engine = .holding 3 ∧
      (captures (farFix (.slewing 299999 0)) = false ∧
        (farFix (.slewing 299999 0)).inForce.slewTimeout ≤ (299999 + 1 : Nat)) := by
  decide

/-- The mount on its target with G, a host offset and a full mailbox, at EL `el`, in an engine state. -/
def offFix (e : Engine) (p : Phase) (el : Int) : State :=
  { onFix e p 4 with
    night := ⟨[{ fixedActive p 4 with record := { fixedRecord with kind := .fixed ⟨0, el, 0⟩ } }], true⟩
    axes := (restAt 0 el 0).map fun a => { a with host := 5 }
    guide := ⟨.guiding 3, some ⟨⟨10, -4⟩, 1⟩, ⟨7, 8⟩⟩ }

theorem offFix_laws (e : Engine) (p : Phase) (el : Int) (h : e.followsTarget = true) :
    (offFix e p el).calm pinsQuiet ∧ (offFix e p el).ConfigLaw ∧ (offFix e p el).GuideLaw := by
  refine ⟨⟨reset_counting, fun i => by cases i <;> rfl, rfl, rfl⟩, busy_config, ?_⟩
  refine ⟨(by decide : magnitude 7 ≤ 8192 ∧ magnitude 8 ≤ 8192), fun m hm => ?_, fun ht => ?_,
    fun hf => absurd (h.symm.trans hf) (by decide)⟩
  · cases hm; exact (by decide : magnitude 10 ≤ 256 ∧ magnitude (-4) ≤ 256 ∧ 1 ≤ 65535)
  · cases e <;> first | cases h; done | exact Bool.noConfusion (show true = false from ht)

/-- Ends with corrections at work: the wanted offset is 7 + 10 + 5 in AZ and 8 − 4 + 5 in EL, the applied one moves by CSTEP to
4, and the axes fold there (R81, R91, R130); at the upper EL limit the clamp ends the target (R84, R85). A slew to a target
above that limit ends too (R111). -/
theorem witness_SelectionScansFromHead_offset :
    (Engine.followsTarget (.tracking 2) = true ∧ Engine.followsTarget (.holding 3) = true) ∧
      (let t := after (.demandEvent pinsQuiet []) (offFix (.tracking 2) .tracking 4000000);
        t.night.entries.map Entry.status = [.ended .complete] ∧
          (t.axes.az.base, t.axes.el.base, t.axes.rot.base) = (4 * 65536, 4000004 * 65536, 4 * 65536)) ∧
      (let t := after (.demandEvent pinsQuiet []) (offFix (.holding 3) .holding 4171002);
        t.night.entries.map Entry.status = [.ended .limit] ∧ t.axes.el.base = 4171002 * 65536) ∧
      (let s : State := { offFix (.slewing 0 0) .slewing 4171003 with guide := ⟨.off, none, ⟨0, 0⟩⟩ };
        s.within .el (roundCounts ((fixedPositions ⟨0, 4171003, 0⟩ 0).get .el)) = false ∧
          (after (.demandEvent pinsQuiet []) s).night.entries.map Entry.status = [.ended .limit]) := by
  decide

/-- A state with the SHELTER pin asserted at the filter's last sample. -/
def shelterComes (s : State) : State := { s with inputs := { State.reset.inputs with shelter := ⟨true, false⟩ } }

/-- The levels at which the filter takes it. -/
def shelterPins : Inputs Bool := { pinsQuiet with shelter := true }

theorem standing_cycle (e : Engine) (h : e.isTarget = false) : (shelterComes (standing e)).CycleLaw :=
  ⟨by show 0 = if e.isTarget then 1 else 0; rw [h]; rfl, fun _ h => (nomatch h), fun h => (nomatch h)⟩

/-- The engine state before an event, and the one that the rise and the computation leave, in both orders: an arrival at once,
a target ended in the first order, and in the second one that the computation completed, one that it selected and ones it
leaves alone. -/
theorem witness_EncReportFormsShelter_events :
    ((shelterComes busy).ConfigLaw ∧ (shelterComes busy).CycleLaw ∧ (shelterComes busy).EnableLaw) ∧
      ((shelterComes (standing .idle)).ConfigLaw ∧ (shelterComes (standing .idle)).CycleLaw ∧
        (shelterComes (standing .idle)).EnableLaw) ∧
      (let s := shelterComes busy;
        s.resetLow = false ∧ s.time.untilEvent = some 1000 ∧ s.enclosure.shelter = false ∧
          ∀ i ∈ [Input.driveFaultAz, .driveFaultEl, .driveFaultRot, .limitSwitch, .instHold, .shelter],
            showsLevel shelterPins i = if i = .shelter then true else (s.inputs.get i).level) ∧
      ([standing .idle, standing .unset, standing .parking, busy, { busy with axes := restAt 0 233017 0 }].map fun s =>
          (after (.demandEvent shelterPins [.filter .shelter]) (shelterComes s)).engine) =
        [.parked, .unset, .parked, .parked, .parking] ∧
      ([onFix (.tracking 2) .tracking 0, { busy with engine := .tracking 2 }, standing .stopped, standing .parked].map
          fun s =>
            let s := shelterComes s
            ((((s.elapse 1000).openEvent shelterPins).engineTurn).engine.state,
              (after (.demandEvent shelterPins [.engine, .filter .shelter]) s).engine)) =
        [(.stopping, .parking), (.slewing, .parking), (.stopped, .stopped), (.parked, .parked)] := by
  refine ⟨⟨busy_config, witness_EntriesMoveOneWay.2.1, rfl⟩, ⟨busy_config, standing_cycle _ rfl, rfl⟩,
    by decide, by decide +kernel⟩

/-! ### Witnesses: faults, notices, links -/

theorem witness_FaultRequests :
    ((inEngine .idle).ready .schedule ∧ (inEngine .idle).engine ≠ .stopped) ∧
      ((faulted (inEngine .stopped)).ready .schedule ∧
        ((faulted (inEngine .stopped)).inputs.get .driveFaultEl).level = true) ∧
      ((inEngine .stopped).ready .schedule ∧ ((inEngine .stopped).inputs.get .limitSwitch).level = false) := by
  unfold State.ready; decide

theorem witness_FaultStopsTheMount :
    (let s : State := { busy with inputs := { State.reset.inputs with limitSwitch := ⟨true, false⟩ } };
      faultKindOf .limitSwitch = some .limitSwitch ∧ s.counting ∧ s.enable = true ∧ s.engine ≠ .stopped ∧
        (s.inputs.get .limitSwitch).level = false ∧ (s.inputs.get .limitSwitch).previous = true ∧
        showsLevel { pinsQuiet with limitSwitch := false } .limitSwitch = true ∧ s.activeEntry ≠ none) := by
  unfold State.counting; decide

/-- Taken after a computation that completes the target, which leaves the enables on; and in STOPPED, the second and a later
one. -/
theorem witness_FaultStopsTheMount_order :
    (let s : State :=
        { onFix (.tracking 2) .tracking 0 with inputs := { State.reset.inputs with limitSwitch := ⟨true, false⟩ } }
      let levels := { pinsQuiet with limitSwitch := false }
      let computed := ((s.elapse 1000).openEvent levels).engineTurn;
      s.time.untilEvent = some 1000 ∧ computed.enable = true ∧ computed.engine.state = .stopping ∧
        computed.activeEntry = none) ∧
      (let s : State :=
        { busy with inputs := { State.reset.inputs with limitSwitch := ⟨true, false⟩ } }
      let levels := { pinsQuiet with limitSwitch := false };
      ((s.elapse 1000).openEvent levels).engineTurn.activeEntry ≠ none) ∧
      (let s : State :=
          { inEngine .stopped with
            inputs := { State.reset.inputs with limitSwitch := ⟨true, false⟩ }
            faults := ⟨some ⟨.driveEl, 5, .idle, none⟩, none, 0⟩ }
        let levels := { pinsQuiet with limitSwitch := false }
        let again := { s with faults := { s.faults with second := some ⟨.driveAz, 6, .stopped, none⟩ } };
        s.engine = .stopped ∧ s.counting ∧
          (∀ j ∈ [Input.driveFaultAz, .driveFaultEl, .driveFaultRot, .limitSwitch, .instHold, .shelter],
            showsLevel levels j = if j = .limitSwitch then true else (s.inputs.get j).level) ∧
          s.faults.second = none ∧ again.faults.second ≠ none ∧
          (after (.demandEvent levels []) again).faults.overflow = 1) := by
  unfold State.counting; decide

theorem witness_NoticeRequests :
    State.reset.ready .enclosure ∧ 1024 ≤ (1024#16).toNat ∧ (1023#16).toNat < 1024 := by
  unfold State.ready; decide

theorem witness_StatusReports : busy.ready .schedule ∧ busy.ready .guide ∧ busy.ready .enclosure := by
  unfold State.ready; decide

/-- A port in the middle of a frame, which the last byte has just reached. -/
def receiving (r : Receiver) : State := State.reset.onPort .guide fun p => { p with receiver := r }

theorem witness_SerialLineEvents :
    (State.reset.resetLow = false ∧ (State.reset.ports.get .guide).receiver = .hunt) ∧
      ((receiving .length).resetLow = false ∧ ((receiving .length).ports.get .guide).receiver ≠ .hunt ∧
        (receiving .length).withinPeriod (20001 - 0) = false) ∧
      (let s := (receiving .length).onPort .guide fun p => { p with gap := 20000 };
        (s.ports.get .guide).receiver ≠ .hunt ∧ (s.ports.get .guide).gap ≤ 20000 ∧
          s.withinPeriod (20001 - 20000) = true) ∧ (∀ n, BreakCause.spaceFor 20 = .spaceFor n → 20 ≤ n) ∧
      ¬ (∀ n, BreakCause.spaceFor 19 = .spaceFor n → 20 ≤ n) := by
  refine ⟨by decide, by decide, by decide, fun n h => ?_, fun h => absurd (h 19 rfl) (by decide)⟩
  cases h; decide

/-- A port in each phase; at the CHECK, a right one, a wrong one, an unknown kind, a bad length, and a busy transmitter. -/
theorem witness_ByteMovesReceiver :
    ((receiving (.kind 0)).resetLow = false ∧ ((receiving (.kind 2)).ports.get .guide).receiver = .kind 2) ∧
      (((receiving (.payload 2 5 [])).ports.get .guide).receiver = .payload 2 5 [] ∧ 0 + 1 < (2#8).toNat ∧
        (2#8).toNat ≤ [(5 : Byte)].length + 1) ∧
      (((receiving (.check 0 1 [])).ports.get .guide).sending = none ∧
        (0x07 : Byte) = crc [0, 1] ∧ (0x08 : Byte) ≠ crc [0, 1] ∧
        judgeFrame .guide 1 [] = .request (.identify .guide) ∧ judgeFrame .guide 0x10 [] = .unknownKind ∧
        judgeFrame .guide 1 [0] = .badLength) := by
  decide +kernel

theorem witness_RequestRowsReplyOrOverrun :
    requestRow .guideZero = some (.guide, 0x62) ∧ State.reset.resetLow = false ∧
      (State.reset.ports.get .guide).sending = none ∧
      ((State.reset.answered .guide 0x81 .ok .none).ports.get .guide).sending ≠ none ∧
      statusOf .guide .guideZero State.reset = some .notTracking ∧ 16 ≤ Status.notTracking.code.toNat := by
  decide

theorem witness_FramesActAsTheirRows :
    requestRow (.targetAppend (sentRecord 1)) = some (.schedule, 0x20) ∧
      (Instr.targetAppend (sentRecord 1)).wf = true ∧ (State.reset.ports.get .schedule).receiver = .hunt := by
  decide

theorem witness_CheckDetectsOneByte : (0 : Byte) ≠ 1 := by decide

/-! ### Witnesses: the laws -/

theorem witness_StoppedAndUnsetLeftByRequest :
    (inEngine .stopped).EnableLaw ∧ (inEngine .stopped).engine = .stopped ∧
      (∃ t, step { inEngine .stopped with pending := [.faultClear] } = .next t ∧ t.engine = .unset) ∧
      (inEngine .unset).EnableLaw ∧
      ∃ t, step { inEngine .unset with pending := [.setPosition ⟨0, 4000000, 0⟩] } = .next t ∧ t.engine = .idle :=
  ⟨rfl, rfl, ⟨_, rfl, rfl⟩, rfl, ⟨_, rfl, rfl⟩⟩

/-- A port within a payload, a slew, a pending set, a written entry, an unmasked notice and a line in ACTIVE: the laws of the
interfaces hold. -/
def atWork : State :=
  { busy with
    time := { clock 5 .locked 4 (some 2500000) (some 7000000) with slew := some ⟨true, 20, 1, 3⟩ }
    ports := (receiving (.payload 2 5 [1])).ports
    model := { State.reset.model with cells := [(0, ⟨1, 0⟩), (255, ⟨0, 1⟩)], writePtr := ⟨true, 127⟩ }
    notices := (State.raise .guide State.reset).notices
    lines := (withLine .pulse .active (some 1)).lines }

theorem reset_line_lawful : EventLine.initial.lawful :=
  ⟨by decide, by decide, by decide, by decide, by decide, (⟨rfl, rfl⟩ : LinePhase.quiet = .quiet ∧ false = false)⟩

theorem witness_InterfaceLawsKept :
    atWork.TimeLaw ∧ atWork.ModelLaw ∧ atWork.PortLaw ∧ atWork.AttentionLaw ∧ atWork.LineLaw ∧
      ∃ t, step { atWork with pending := [.modelRead 60] } = .next t := by
  refine ⟨?_, ?_, ?_, ?_, ?_, _, rfl⟩
  · unfold State.TimeLaw; decide
  · unfold State.ModelLaw; decide
  · exact ⟨⟨by decide, by decide, by decide, by decide, by decide, trivial⟩, ⟨by decide, by decide, by decide, by decide, by decide, (by decide : 1 < 2)⟩,
      ⟨by decide, by decide, by decide, by decide, by decide, trivial⟩⟩
  · simp only [State.AttentionLaw, NoticeBox.lawful]; decide
  · exact ⟨reset_line_lawful, ⟨by decide, by decide, by decide, by decide, by decide,
        (by decide : LinePhase.active ≠ .delay ∧ (decide (LinePhase.active = .active) = true ↔ LinePhase.active = .active))⟩,
      reset_line_lawful, reset_line_lawful,
      fun _ id => by cases id <;> rfl⟩

theorem witness_EngineLawsKept :
    busy.CycleLaw ∧ busy.EnableLaw ∧ busy.FaultLaw ∧ busy.ShelterLaw ∧
      ∃ t, step { busy with pending := [.encReport 0 1] } = .next t :=
  ⟨witness_EntriesMoveOneWay.2.1, rfl, by unfold State.FaultLaw; decide, by unfold State.ShelterLaw; decide, _, rfl⟩

theorem witness_DemandLawsKept :
    busy.ConfigLaw ∧ busy.CycleLaw ∧ busy.EnableLaw ∧ busy.EmittedLaw ∧ busy.GuideLaw ∧ busy.OffsetLaw ∧
      ∃ t, step { busy with pending := [.demandEvent pinsQuiet []] } = .next t := by
  refine ⟨busy_config, witness_EntriesMoveOneWay.2.1, rfl, fun _ ax => ?_, ?_, fun ax => ?_, _, rfl⟩
  · cases ax <;> decide
  · unfold State.GuideLaw; decide
  · cases ax <;> decide

end Sys2Proof.Tests
end

