-- ==== Sys2Proof/Proofs/WeightedMean.lean ====
section
/-! PROOFS. The correction from the model table: where a position falls between four entries, the sum X of R64 as a
monotone function of them, and the rounded mean between the least and the greatest (R62 to R64). -/

namespace Sys2Proof.Machine

/-! ### Columns and rows (R62, R63) -/

theorem column_index (az : Int) : ((column az).1 : Int) = az % 16777216 / 1048576 := by
  simp only [column, fullTurn]; omega

theorem column_fraction (az : Int) : (column az).2 = az % 16777216 % 1048576 / 256 := rfl

theorem column_index_le (az : Int) : (column az).1 ≤ 15 := by
  have h := column_index az
  omega

theorem column_fraction_mem (az : Int) : (column az).2 ∈ Set.Icc 0 4095 := by
  rw [column_fraction, Set.mem_Icc]; omega

/-- The neighbour column of R62, in the model's spelling and in the statement's. -/
theorem nextColumn_eq {c : Nat} (hc : c ≤ 15) : (c + 1) % 16 = if c = 15 then 0 else c + 1 := by
  split <;> omega

theorem row_of_neg {el : Int} (h : el < 0) : row el = (0, 0) := if_pos h

theorem row_of_ge {el : Int} (h : 3670016 ≤ el) : row el = (6, 4096) := by
  rw [row, if_neg (by omega), if_pos h]

theorem row_of_mem {el : Int} (h : 0 ≤ el) (h' : el < 3670016) :
    row el = ((el / 524288).toNat, el % 524288 / 128) := by
  rw [row, if_neg (by omega), if_neg (by omega)]

theorem row_index {el : Int} (h : 0 ≤ el) (h' : el < 3670016) : ((row el).1 : Int) = el / 524288 := by
  rw [row_of_mem h h']; dsimp only; omega

theorem row_fraction {el : Int} (h : 0 ≤ el) (h' : el < 3670016) : (row el).2 = el % 524288 / 128 := by
  rw [row_of_mem h h']

theorem row_fraction_mem {el : Int} (h : 0 ≤ el) (h' : el < 3670016) : (row el).2 ∈ Set.Icc 0 4095 := by
  rw [row_fraction h h', Set.mem_Icc]; omega

theorem row_mem (el : Int) : (row el).1 ≤ 6 ∧ (row el).2 ∈ Set.Icc 0 4096 := by
  rcases lt_or_ge el 0 with hneg | hpos
  · simp [row_of_neg hneg]
  rcases lt_or_ge el 3670016 with hmid | hhigh
  · simp only [row_of_mem hpos hmid, Set.mem_Icc]; omega
  · simp [row_of_ge hhigh]

theorem cellAddr_of_lt {index : Nat} (page : Bool) (h : index < 128) :
    cellAddr page index = (if page then 128 else 0) + index := by
  rw [cellAddr, Nat.mod_eq_of_lt h]

/-! ### The sum X and the rounded mean (R64) -/

/-- The sum X of R64: each entry times its weight. -/
def weightedSum (t00 t01 t10 t11 fa fe : Int) : Int :=
  t00 * (4096 - fa) * (4096 - fe) + t01 * fa * (4096 - fe) + t10 * (4096 - fa) * fe + t11 * fa * fe

theorem interpolate_eq (t00 t01 t10 t11 fa fe : Int) :
    interpolate t00 t01 t10 t11 fa fe = (weightedSum t00 t01 t10 t11 fa fe + 8388608) / 16777216 := rfl

theorem weights_sum (fa fe : Int) :
    (4096 - fa) * (4096 - fe) + fa * (4096 - fe) + (4096 - fa) * fe + fa * fe = 16777216 := by
  ring

theorem weightedSum_const (v fa fe : Int) : weightedSum v v v v fa fe = v * 16777216 := by
  rw [← weights_sum fa fe, weightedSum]; ring

section
variable {fa fe lo hi t00 t01 t10 t11 : Int} (hfa : fa ∈ Set.Icc 0 4096) (hfe : fe ∈ Set.Icc 0 4096)
include hfa hfe

/-- No weight is negative, so the sum is monotone in the four entries. -/
theorem weightedSum_mono {u00 u01 u10 u11 : Int} (h00 : t00 ≤ u00) (h01 : t01 ≤ u01) (h10 : t10 ≤ u10)
    (h11 : t11 ≤ u11) : weightedSum t00 t01 t10 t11 fa fe ≤ weightedSum u00 u01 u10 u11 fa fe := by
  obtain ⟨hfa0, hfa1⟩ := hfa
  obtain ⟨hfe0, hfe1⟩ := hfe
  have hga : 0 ≤ 4096 - fa := sub_nonneg.mpr hfa1
  have hge : 0 ≤ 4096 - fe := sub_nonneg.mpr hfe1
  unfold weightedSum
  gcongr

variable (h00 : t00 ∈ Set.Icc lo hi) (h01 : t01 ∈ Set.Icc lo hi) (h10 : t10 ∈ Set.Icc lo hi)
  (h11 : t11 ∈ Set.Icc lo hi)
include h00 h01 h10 h11

theorem weightedSum_mem : weightedSum t00 t01 t10 t11 fa fe ∈ Set.Icc (lo * 16777216) (hi * 16777216) := by
  rw [← weightedSum_const lo fa fe, ← weightedSum_const hi fa fe]
  exact ⟨weightedSum_mono hfa hfe h00.1 h01.1 h10.1 h11.1, weightedSum_mono hfa hfe h00.2 h01.2 h10.2 h11.2⟩

/-- Rounding keeps the mean between whole bounds. -/
theorem interpolate_mem : interpolate t00 t01 t10 t11 fa fe ∈ Set.Icc lo hi := by
  obtain ⟨hlo, hhi⟩ := weightedSum_mem hfa hfe h00 h01 h10 h11
  rw [interpolate_eq, Set.mem_Icc]
  omega

end

/-- The mean of the entries at the four corners of two rows and two columns keeps every bound that all four keep. -/
theorem interpolate_corners_mem {fa fe lo hi : Int} (hfa : fa ∈ Set.Icc 0 4096) (hfe : fe ∈ Set.Icc 0 4096)
    {e : Nat → Nat → Int} {r r' c c' : Nat}
    (h : ∀ i j, (i = r ∨ i = r') → (j = c ∨ j = c') → lo ≤ e i j ∧ e i j ≤ hi) :
    lo ≤ interpolate (e r c) (e r c') (e r' c) (e r' c') fa fe ∧
      interpolate (e r c) (e r c') (e r' c) (e r' c') fa fe ≤ hi :=
  interpolate_mem hfa hfe (h r c (.inl rfl) (.inl rfl)) (h r c' (.inl rfl) (.inr rfl))
    (h r' c (.inr rfl) (.inl rfl)) (h r' c' (.inr rfl) (.inr rfl))

theorem toInt16_mem (v : BitVec 16) : v.toInt ∈ Set.Icc (-32768) 32767 :=
  ⟨v.le_toInt, Int.le_of_lt_add_one v.toInt_lt⟩

/-- The sum of four 16-bit entries is held in 41 signed bits (R64). -/
theorem weightedSum_magnitude_lt {fa fe : Int} (hfa : fa ∈ Set.Icc 0 4096) (hfe : fe ∈ Set.Icc 0 4096)
    (v00 v01 v10 v11 : BitVec 16) :
    magnitude (weightedSum v00.toInt v01.toInt v10.toInt v11.toInt fa fe) < 1099511627776 := by
  obtain ⟨hlo, hhi⟩ :=
    weightedSum_mem hfa hfe (toInt16_mem v00) (toInt16_mem v01) (toInt16_mem v10) (toInt16_mem v11)
  unfold magnitude
  omega

/-! ### The four entries around a position -/

/-- The entry of a row and a column of a page (R59), as R62 to R64 address it. -/
def tableEntry (cells : List (Nat × Pair)) (page : Bool) (i j : Nat) : Pair :=
  readCell cells ((if page then 128 else 0) + (i * 16 + j))

theorem readCell_cellAddr {i j : Nat} (cells : List (Nat × Pair)) (page : Bool) (hi : i ≤ 7) (hj : j ≤ 15) :
    readCell cells (cellAddr page (i * 16 + j)) = tableEntry cells page i j := by
  rw [cellAddr_of_lt page (by omega), tableEntry]

/-- The correction as the mean of the entries of the rows r and r + 1 and of the columns c and c′ (R64). -/
theorem modelCorrection_eq (cells : List (Nat × Pair)) (page : Bool) (az el : Int) :
    let c := (column az).1
    let r := (row el).1
    let next := if c = 15 then 0 else c + 1
    let mean (f : Pair → Int) : Int :=
      interpolate (f (tableEntry cells page r c)) (f (tableEntry cells page r next))
        (f (tableEntry cells page (r + 1) c)) (f (tableEntry cells page (r + 1) next)) (column az).2 (row el).2
    modelCorrection cells page az el = ⟨mean fun v => v.az.toInt, mean fun v => v.el.toInt⟩ := by
  intro c r next mean
  have hc : c ≤ 15 := column_index_le az
  have hr : r ≤ 6 := (row_mem el).1
  have hnext : (c + 1) % 16 = next := nextColumn_eq hc
  have hnext_le : next ≤ 15 := by omega
  simp only [modelCorrection, signedPair, AzEl.map]
  rw [hnext, readCell_cellAddr cells page (by omega) hc, readCell_cellAddr cells page (by omega) hnext_le,
    readCell_cellAddr cells page (by omega) hc, readCell_cellAddr cells page (by omega) hnext_le]

/-- Settles O21: the ranges of columns and rows place the four entries, and the sum X, monotone in them, gives the bound
on X and the result between the least and the greatest. -/
theorem correctionIsWeightedMean : Obligations.CorrectionIsWeightedMean := by
  unfold Obligations.CorrectionIsWeightedMean
  intro cells page az el azMod c fa r fe next t x m
  have hm := modelCorrection_eq cells page az el
  have hfa : fa ∈ Set.Icc 0 4095 := column_fraction_mem az
  have hfa' : fa ∈ Set.Icc 0 4096 := Set.Icc_subset_Icc_right (by decide) hfa
  have hfe : fe ∈ Set.Icc 0 4096 := (row_mem el).2
  have haz : m.az = (x (fun v => v.az.toInt) + 8388608) / 16777216 := congrArg AzEl.az hm
  have hel : m.el = (x (fun v => v.el.toInt) + 8388608) / 16777216 := congrArg AzEl.el hm
  refine ⟨⟨column_index az, column_index_le az, column_fraction az, hfa.1, hfa.2⟩, fun h => ?below, fun h => ?above,
    fun h h' => ?between, weights_sum fa fe, haz, hel,
    ⟨weightedSum_magnitude_lt hfa' hfe _ _ _ _, weightedSum_magnitude_lt hfa' hfe _ _ _ _⟩,
    fun lo hi h => ?azWithin, fun lo hi h => ?elWithin⟩
  case below => simp [r, fe, row_of_neg h]
  case above => simp [r, fe, row_of_ge h]
  case between => exact ⟨row_index h h', (row_mem el).1, row_fraction h h', row_fraction_mem h h'⟩
  case azWithin => rw [haz]; exact interpolate_corners_mem (e := fun i j => (t i j).az.toInt) hfa' hfe h
  case elWithin => rw [hel]; exact interpolate_corners_mem (e := fun i j => (t i j).el.toInt) hfa' hfe h

end Sys2Proof.Machine
end


/-! PROOFS. The evaluation of a segment at millisecond k: the clamp and the rounding of R1, the sums of R75, R76 and R78,
and the width that the acceleration product needs (R77). -/

namespace Sys2Proof.Machine

/-! ### The clamp, and the values of one axis -/

theorem clamp_eq_max_min {a b : Int} (hab : a ≤ b) (x : Int) : clamp a b x = max a (min b x) := by
  unfold clamp
  split
  case isTrue hlow => rw [min_eq_right (hlow.le.trans hab), max_eq_left hlow.le]
  case isFalse hlow =>
    split
    case isTrue hhigh => rw [min_eq_left hhigh.le, max_eq_right hab]
    case isFalse hhigh => rw [min_eq_right (not_lt.mp hhigh), max_eq_right (not_lt.mp hlow)]

theorem clamp_of_mem {a b x : Int} (hx : x ∈ Set.Icc a b) : clamp a b x = x := by
  rw [clamp_eq_max_min (hx.1.trans hx.2), min_eq_right hx.2, max_eq_right hx.1]

theorem get_axesOf {α : Type} (f : Axis → α) (ax : Axis) : (Axes.of f).get ax = f ax := by
  cases ax <;> rfl

theorem segPositions_get (g : Segment) (w k : Int) (ax : Axis) :
    (segPositions g w k).get ax =
      segPosition (g.p0.get ax).toInt (g.v0.get ax).toInt (g.a.get ax).toInt (wrapFine w ax) k :=
  get_axesOf _ ax

theorem segRates_get (g : Segment) (k : Int) (ax : Axis) :
    (segRates g k).get ax = segRate (g.v0.get ax).toInt (g.a.get ax).toInt k :=
  get_axesOf _ ax

/-! ### The sums and their clamps (R75 to R78) -/

/-- A turn is 16,777,216 counts of 65,536 fine units. -/
theorem wrapFine_eq (w : Int) (ax : Axis) : wrapFine w ax = if ax = .az then w * 1099511627776 else 0 := by
  cases ax with
  | az => exact mul_assoc w fullTurn fineUnits
  | el => rfl
  | rot => rfl

theorem segPosition_eq (p0 v0 a wrap k : Int) :
    segPosition p0 v0 a wrap k =
      max (-140737488355328) (min 140737488355327 (p0 + v0 * k + (a * k ^ 2 + 65536) / 131072 + wrap)) :=
  clamp_eq_max_min (by decide) _

theorem segRate_eq (v0 a k : Int) :
    segRate v0 a k = max (-2147483648) (min 2147483647 (v0 + (a * k + 32768) / 65536)) :=
  clamp_eq_max_min (by decide) _

/-- At the start of a segment, without a wrap, only p0 is left, and 48 bits hold it (R75). -/
theorem segPosition_start (p0 : BitVec 48) (v0 a : Int) : segPosition p0.toInt v0 a 0 0 = p0.toInt := by
  have hsum : p0.toInt + v0 * 0 + roundDiv (a * 0 ^ 2) 131072 + 0 = p0.toInt := by simp [roundDiv]
  rw [segPosition, hsum]
  exact clamp_of_mem ⟨p0.le_toInt, Int.le_of_lt_add_one p0.toInt_lt⟩

/-! ### The width of the acceleration product (R77) -/

/-- |a| is at most 2^31 and k at most 65,534, so the product stays below 2^63 in magnitude by more than 2^48. -/
theorem abs_accelerationProduct_le (a : BitVec 32) {k : Nat} (hk : k ≤ 65534) :
    |a.toInt * (k : Int) ^ 2| ≤ 2147483648 * 65534 ^ 2 := by
  have ha : |a.toInt| ≤ 2147483648 := abs_le.mpr ⟨a.le_toInt, a.toInt_lt.le⟩
  have hsq : |(k : Int) ^ 2| ≤ 65534 ^ 2 := by
    rw [abs_pow, Nat.abs_cast]
    exact_mod_cast Nat.pow_le_pow_left hk 2
  rw [abs_mul]
  gcongr

/-- The product, and the sum with the rounding constant, are held in 64 signed bits. -/
theorem accelerationProduct_mem (a : BitVec 32) {k : Nat} (hk : k ≤ 65534) :
    -9223372036854775808 < a.toInt * (k : Int) ^ 2 ∧
      a.toInt * (k : Int) ^ 2 + 65536 < 9223372036854775808 := by
  obtain ⟨hlow, hhigh⟩ := abs_le.mp (abs_accelerationProduct_le a hk)
  constructor
  · exact lt_of_lt_of_le (by norm_num) hlow
  · exact lt_of_le_of_lt (add_le_add_left hhigh 65536) (by norm_num)

/-- Settles O22: each axis is its clamped sum, the start is p0 itself, and the acceleration product fits its width. -/
theorem segmentEvaluated : Obligations.SegmentEvaluated := by
  unfold Obligations.SegmentEvaluated
  intro g w k ax p0 v0 a wrap sum rate
  refine ⟨?position, ?rate, ?start, accelerationProduct_mem (g.a.get ax)⟩
  case position => rw [segPositions_get, segPosition_eq, wrapFine_eq]
  case rate => rw [segRates_get, segRate_eq]
  case start =>
    rintro rfl rfl
    have hwrap : wrapFine 0 ax = 0 := by simp [wrapFine_eq]
    rw [segPositions_get, hwrap]
    exact segPosition_start (g.p0.get ax) v0 a

end Sys2Proof.Machine

/-! PROOFS. The fault record's requests and the requests of all three links (R173 to R178, R191): each request on a port
that takes it is what its block does, then the reply. -/

namespace Sys2Proof.Machine

/-! ### A request on a port that takes it -/

/-- The state that the block leaves answers with the request's KIND plus 0x80 (R183). -/
theorem State.request_of_ready {s t : State} {l : Link} {kind : Byte} {effect : State → State × Answer} {a : Answer}
    (hready : s.ready l) (heffect : effect s = (t, a)) :
    s.request l kind effect = t.answered l (replyKind kind) a.status a.fields := by
  obtain ⟨hreset, hidle⟩ := hready
  rw [State.request_idle s kind effect hreset hidle, heffect]
  rfl

/-! ### FAULT_CLEAR (R174) -/

theorem State.faultAsserted_iff (s : State) :
    s.faultAsserted = true ↔
      (s.inputs.get .driveFaultAz).level = true ∨ (s.inputs.get .driveFaultEl).level = true ∨
        (s.inputs.get .driveFaultRot).level = true ∨ (s.inputs.get .limitSwitch).level = true := by
  simp only [State.faultAsserted, Bool.or_eq_true, or_assoc, Inputs.get]

theorem faultClear_of_ne_stopped {s : State} (h : s.engine ≠ .stopped) : faultClear s = (s, .only .wrongState) :=
  if_pos h

theorem faultClear_of_asserted {s : State} (hstopped : s.engine = .stopped) (hfault : s.faultAsserted = true) :
    faultClear s = (s, .only .stillActive) := by
  simp only [faultClear, hstopped, hfault, ne_eq, not_true_eq_false, if_false, if_true]

theorem faultClear_of_clear {s : State} (hstopped : s.engine = .stopped) (hfault : ¬ s.faultAsserted = true) :
    faultClear s = ({ s with faults := ⟨none, none, 0⟩, engine := .unset, enable := false }, .only .ok) := by
  simp only [faultClear, hstopped, hfault, ne_eq, not_true_eq_false, if_false]
  rfl

/-- Settles O48: each request is taken, and FAULT_CLEAR's branches are the engine state and the four filtered fault
inputs. -/
theorem faultRequests : Obligations.FaultRequests := by
  unfold Obligations.FaultRequests
  intro s hready asserted any
  have hany : s.faultAsserted = true ↔ any := s.faultAsserted_iff
  have clear {t : State} {a : Answer} (h : faultClear s = (t, a)) :
      exec .faultClear s = .next (t.answered .schedule 0xD9 a.status a.fields) :=
    congrArg Host.Outcome.next (State.request_of_ready hready h)
  refine ⟨?read, fun hmoving => ?wrongState, fun hstopped h => ?stillActive, fun hstopped h => ?cleared⟩
  case read => exact congrArg Host.Outcome.next (State.request_of_ready (effect := faultRead) hready rfl)
  case wrongState => exact clear (faultClear_of_ne_stopped hmoving)
  case stillActive => exact clear (faultClear_of_asserted hstopped (hany.mpr h))
  case cleared => exact clear (faultClear_of_clear hstopped (mt hany.mp h))

/-! ### NOTICE_ACK and NOTICE_MASK (R177, R178) -/

theorem noticeSetOf_of_ge {kinds : BitVec 16} (h : 1024 ≤ kinds.toNat) : noticeSetOf kinds = none :=
  if_neg h.not_gt

theorem noticeSetOf_of_lt {kinds : BitVec 16} (h : kinds.toNat < 1024) :
    noticeSetOf kinds = some (kinds.setWidth 10) := if_pos h

@[simp] theorem Links.get_set_same {α : Type} (x : Links α) (l : Link) (v : α) : (x.set l v).get l = v := by
  cases l <;> rfl

theorem noticeAck_of_ge {kinds : BitVec 16} (l : Link) (s : State) (h : 1024 ≤ kinds.toNat) :
    noticeAck l kinds s = (s, .only .badValue) := by
  simp only [noticeAck, noticeSetOf_of_ge h]

theorem noticeMask_of_ge {kinds : BitVec 16} (l : Link) (s : State) (h : 1024 ≤ kinds.toNat) :
    noticeMask l kinds s = (s, .only .badValue) := by
  simp only [noticeMask, noticeSetOf_of_ge h]

/-- The kinds named leave the latched kinds, and the reply carries those that stay. -/
theorem noticeAck_of_lt {kinds : BitVec 16} (l : Link) (s : State) (h : kinds.toNat < 1024) :
    noticeAck l kinds s =
      (s.onBox l (NoticeBox.acknowledge (kinds.setWidth 10)),
        ⟨.ok, .latched ((s.notices.boxes.get l).latched &&& ~~~kinds.setWidth 10)⟩) := by
  simp only [noticeAck, noticeSetOf_of_lt h, State.onBox_notices, Links.get_set_same]
  rfl

/-- The mask becomes the kinds named, and the reply carries it with the latched kinds, which stay. -/
theorem noticeMask_of_lt {kinds : BitVec 16} (l : Link) (s : State) (h : kinds.toNat < 1024) :
    noticeMask l kinds s =
      (s.onBox l (NoticeBox.withMask (kinds.setWidth 10)),
        ⟨.ok, .masks (kinds.setWidth 10) (s.notices.boxes.get l).latched⟩) := by
  simp only [noticeMask, noticeSetOf_of_lt h, State.onBox_notices, Links.get_set_same]
  rfl

/-- Settles O50: each request is taken; an acknowledgement and a mask divide at the ten kinds, and below it change this
link's box alone, with ATTN formed again. -/
theorem noticeRequests : Obligations.NoticeRequests := by
  unfold Obligations.NoticeRequests
  intro l kinds s hready box withBox formed named
  have ack {t : State} {a : Answer} (h : noticeAck l kinds s = (t, a)) :
      exec (.noticeAck l kinds) s = .next (t.answered l 0x83 a.status a.fields) :=
    congrArg Host.Outcome.next (State.request_of_ready hready h)
  have mask {t : State} {a : Answer} (h : noticeMask l kinds s = (t, a)) :
      exec (.noticeMask l kinds) s = .next (t.answered l 0x84 a.status a.fields) :=
    congrArg Host.Outcome.next (State.request_of_ready hready h)
  refine ⟨?read, fun h => ⟨?ackBad, ?maskBad⟩, fun h => ⟨?ack, ?mask⟩, ?identify⟩
  case read => exact congrArg Host.Outcome.next (State.request_of_ready (effect := noticeRead l) hready rfl)
  case ackBad => exact ack (noticeAck_of_ge l s h)
  case maskBad => exact mask (noticeMask_of_ge l s h)
  case ack => exact ack (noticeAck_of_lt l s h)
  case mask => exact mask (noticeMask_of_lt l s h)
  case identify => exact congrArg Host.Outcome.next (State.request_of_ready (effect := identify l) hready rfl)

end Sys2Proof.Machine

/-! PROOFS. The host offset (R80, R193): OFFSET_SET on a port that takes it, in the order of its checks. -/

namespace Sys2Proof.Machine

/-! ### A test on every axis -/

theorem axes_all_iff {α : Type} {p : α → Bool} (x : Axes α) :
    x.all p = true ↔ ∀ ax : Axis, p (x.get ax) = true := by
  rw [Axes.all, Bool.and_eq_true, Bool.and_eq_true]
  constructor
  · rintro ⟨⟨haz, hel⟩, hrot⟩ ax
    cases ax with
    | az => exact haz
    | el => exact hel
    | rot => exact hrot
  · exact fun h => ⟨⟨h .az, h .el⟩, h .rot⟩

@[simp] theorem signedAxes_get {n : Nat} (x : Axes (BitVec n)) (ax : Axis) :
    (signedAxes x).get ax = (x.get ax).toInt := by
  cases ax <;> rfl

/-! ### OFFSET_SET (R193) -/

theorem offsetAllowed_iff (h : Axes Int) :
    offsetAllowed h = true ↔ ∀ ax : Axis, -262144 ≤ h.get ax ∧ h.get ax ≤ 262144 := by
  simp only [offsetAllowed, axes_all_iff, Bool.and_eq_true, decide_eq_true_eq]

section
variable {d : Axes (BitVec 32)} {s : State}

theorem offsetSet_of_not_following (h : s.engine.followsTarget = false) :
    offsetSet d s = (s, .only .notTracking) := if_pos h

theorem offsetSet_of_not_allowed (hfollows : s.engine.followsTarget = true)
    (hallowed : offsetAllowed (signedAxes d) = false) : offsetSet d s = (s, .only .badValue) := by
  simp only [offsetSet, hfollows, hallowed, Bool.true_eq_false, if_false, if_true]

theorem offsetSet_of_allowed (hfollows : s.engine.followsTarget = true)
    (hallowed : offsetAllowed (signedAxes d) = true) :
    offsetSet d s = (s.withHost (signedAxes d), ⟨.ok, .offsets (signedAxes d)⟩) := by
  simp only [offsetSet, hfollows, hallowed, Bool.true_eq_false, if_false]

end

/-- Settles O29: OFFSET_SET is taken, and its branches are the engine state and the range of the three values. -/
theorem offsetSetReplacesHost : Obligations.OffsetSetReplacesHost := by
  unfold Obligations.OffsetSetReplacesHost
  intro d s hready allowed given refused
  have hallowed : offsetAllowed (signedAxes d) = true ↔ allowed := by
    simp only [offsetAllowed_iff, signedAxes_get, allowed]
  have taken {t : State} {a : Answer} (h : offsetSet d s = (t, a)) :
      exec (.offsetSet d) s = .next (t.answered .schedule 0xC4 a.status a.fields) :=
    congrArg Host.Outcome.next (State.request_of_ready hready h)
  refine ⟨fun hstill => ?notTracking, fun hfollows h => ?badValue, fun hfollows h => ?replaced⟩
  case notTracking => exact taken (offsetSet_of_not_following hstill)
  case badValue => exact taken (offsetSet_of_not_allowed hfollows (Bool.eq_false_iff.mpr (mt hallowed.mp h)))
  case replaced => exact taken (offsetSet_of_allowed hfollows (hallowed.mpr h))

end Sys2Proof.Machine

/-! PROOFS. What a step can do, said once: the moves of which the turns of a demand event are made, and what each
request does to the parts behind its port. Every law that the steps keep is proved move by move. -/

namespace Sys2Proof.Machine

/-! ### The moves of a demand event -/

/-- One move within a turn of a demand event: what it does to the state, and what holds when it is made. -/
inductive Move (s : State) : State → Prop where
  | note (k : Notice) : Move s (s.raise k)
  | give (src : Source) : Move s (s.give src)
  | ranOut (x : Expiry) : Move s (s.ranOut x)
  | countLine (id : LineId) : Move s { s with lines := s.lines.set id (s.lines.get id).count }
  | correction (az el : Int) : Move s (s.evaluateCorrection az el)
  | sample (i : Input) (f : Filter) (h : i ≠ .shelter) : Move s { s with inputs := s.inputs.set i f }
  | shelter (f : Filter) : Move s ({ s with inputs := s.inputs.set .shelter f }.formShelter)
  | fault (k : FaultKind) (h : s.enable = true ∨ s.engine = .stopped) : Move s (s.faultEvent k)
  | judge : Move s s.judgeAlignment
  | aim {a : State × Axes Int × Axes Int} (h : s.aim = some a) : Move s a.1
  | slew {n : Nat} {az : Int} (h : s.engine = .slewing n az) (n' : Nat) (az' : Int) :
      Move s { s with engine := .slewing n' az' }
  | fold (h : s.engine.isTarget = true) : Move s s.foldAxes
  | motions (m : Axes Motion) : Move s (s.withMotions m)
  | takeMailbox (h : s.engine.followsTarget = true) : Move s s.takeMailbox
  | countGuide (h : s.engine.followsTarget = true) : Move s s.countGuide
  | blend (runout : Bool) :
      Move s { s with axes := (s.wantedOf runout).map₂ (AxisState.blend s.inForce.cstep) s.axes }
  | step : Move s s.limitStage.stepStage
  | onTarget (runout : Bool) : Move s (s.evaluateOnTarget runout)
  | capture {n : Nat} {az : Int} (h : s.engine = .slewing n az) : Move s s.capture
  | settled {n : Nat} (h : s.engine = .settling n) : Move s s.settleEnds
  | settling {n : Nat} (h : s.engine = .settling n) : Move s (s.enter (.settling (n + 1)))
  | tracking {n : Nat} (h : s.engine = .tracking n) : Move s (s.enter (.tracking (n + 1)))
  | holding {n : Nat} (h : s.engine = .tracking n) (dwell : Nat) :
      Move s ((s.enter (.holding dwell)).onActive (Entry.withPhase .holding))
  | countHold : Move s s.countHold
  | ends (o : EndOutcome) (h : s.engine.isTarget = true) : Move s (s.endAndSelect o)
  | select (h : s.engine = .waiting) : Move s (s.select false)
  | arrive {dest : StopDest} (h : s.engine = .stopping dest) : Move s (s.arrive dest)
  | parkArrives (h : s.engine = .parking) : Move s s.parkArrives

/-- Any number of moves one after another. -/
abbrev Moves : State → State → Prop := Relation.ReflTransGen Move

variable {s t u : State}

theorem Move.moves (h : Move s t) : Moves s t := .single h

/-- What every move keeps, moves one after another keep. -/
theorem Moves.keep {P : State → Prop} (hP : ∀ s t, Move s t → P s → P t) (h : Moves s t) (hs : P s) : P t := by
  induction h with
  | refl => exact hs
  | tail _ hmove ih => exact hP _ _ hmove ih

/-! ### The turns of the other blocks -/

theorem lineTurn_moves (id : LineId) (s : State) : Moves s (s.lineTurn id) := by
  have hcount := (Move.countLine (s := s) id).moves
  unfold State.lineTurn
  dsimp only
  split
  · split
    · exact hcount.tail (.ranOut _)
    · exact hcount.tail (.ranOut _)
    · exact hcount
  · exact hcount

theorem secondTurn_moves (s : State) : Moves s s.secondTurn := by
  unfold State.secondTurn
  split
  · exact (Move.give _).moves
  · exact .refl

theorem engine_eq_stopped_of_state {e : Engine} (h : e.state = .stopped) : e = .stopped := by
  cases e <;> first | rfl | cases h

theorem filterInput_moves (i : Input) (s : State) : Moves s (s.filterInput i) := by
  unfold State.filterInput
  dsimp only
  by_cases hi : i = .shelter
  · subst hi
    exact (Move.shelter _).moves
  · have hs := (Move.sample (s := s) i ((s.inputs.get i).sample (s.pins.get i == assertedHigh i)) hi).moves
    split
    · unfold State.faultIf
      split
      · rename_i k _ hf
        refine hs.tail (.fault k ?_)
        simp only [Bool.and_eq_true, Bool.or_eq_true, decide_eq_true_eq] at hf
        exact hf.2.imp_right engine_eq_stopped_of_state
      · exact hs
    · rw [if_neg hi]
      exact hs

/-! ### The engine's turn -/

/-- The base stage of SETTLING, TRACKING and HOLDING, in moves. -/
theorem baseTarget_moves (h : s.engine.isTarget = true) : Moves s s.baseTarget.state := by
  unfold State.baseTarget
  split
  · exact (Move.fold h).moves
  · rename_i s1 g r ha
    exact (Move.aim ha).moves.tail (.motions _)

theorem baseSlewing_moves {n : Nat} {az : Int} (h : s.engine = .slewing n az) :
    Moves s (s.baseSlewing n).state := by
  unfold State.baseSlewing
  split
  · exact (Move.fold (by rw [h]; rfl)).moves
  · rename_i s1 g r ha
    have he : s1.engine = .slewing n az := by
      rcases s.aim_cases ha with h1 | ⟨_, _, _, _, h1⟩ <;> dsimp only at h1 <;> rw [h1] <;> exact h
    exact ((Move.aim ha).moves.tail (.slew he (n + 1) (roundCounts g.az))).tail (.motions _)

theorem baseStage_moves (s : State) : Moves s s.baseStage.state := by
  unfold State.baseStage
  split
  case h_1 timer az he => exact baseSlewing_moves he
  case h_2 n he => exact baseTarget_moves (by rw [he]; rfl)
  case h_3 n he => exact baseTarget_moves (by rw [he]; rfl)
  case h_4 n he => exact baseTarget_moves (by rw [he]; rfl)
  case h_5 => exact (Move.motions _).moves
  case h_6 => exact (Move.motions _).moves
  case h_7 => exact (Move.motions (s.axes.map fun a => ⟨a.base, 0⟩)).moves
  case h_8 => exact (Move.motions (s.axes.map fun a => ⟨a.base, 0⟩)).moves
  case h_9 => exact (Move.motions (s.axes.map fun a => ⟨a.base, 0⟩)).moves
  case h_10 => exact .refl
  case h_11 => exact .refl

@[simp] theorem takeMailbox_engine (s : State) : s.takeMailbox.engine = s.engine := by
  unfold State.takeMailbox; split <;> rfl

theorem guideStage_moves (runout : Bool) (s : State) : Moves s (s.guideStage runout) := by
  unfold State.guideStage
  split
  · rename_i h
    split
    · exact (Move.countGuide h).moves
    · exact (Move.takeMailbox h).moves.tail (.countGuide (by simpa using h))
  · exact .refl

theorem blendStage_moves (runout : Bool) (s : State) : Moves s (s.blendStage runout) :=
  (guideStage_moves runout s).tail (.blend runout)

/-- The state of an engine's computation before its decisions: the stages, the judgement and the ON_TARGET
evaluation. -/
def State.evaluated (s : State) : State :=
  ((((s.baseStage.state.correctionStage).blendStage s.baseStage.runout).limitStage.stepStage).judgeAlignment).evaluateOnTarget
    s.baseStage.runout

/-- Whether the limit stage of an engine's computation clamps. -/
def State.clampedNow (s : State) : Bool :=
  ((s.baseStage.state.correctionStage).blendStage s.baseStage.runout).clampsAny

theorem computeEvent_eq (s : State) :
    s.computeEvent =
      (s.evaluated.takeDecision s.baseStage s.clampedNow).evaluateCorrection
        s.baseStage.state.axes.az.base s.baseStage.state.axes.el.base := rfl

theorem evaluated_moves (s : State) : Moves s s.evaluated := by
  have hbase := (baseStage_moves s).tail
    (.correction s.baseStage.state.axes.az.base s.baseStage.state.axes.el.base)
  have hblend := hbase.trans (blendStage_moves s.baseStage.runout _)
  exact ((hblend.tail .step).tail .judge).tail (.onTarget _)

theorem dwellEnds_moves {n : Nat} (h : s.engine = .tracking n) (dwell : Nat) : Moves s (s.dwellEnds dwell) := by
  have hout := (Move.give (s := s) .dwellEnd).moves.tail (.ranOut .dwellEnd)
  unfold State.dwellEnds
  dsimp only
  split
  · exact hout.tail (.holding (n := n) (by simpa using h) dwell)
  · exact hout.tail (.ends .complete (by simp [h, Engine.isTarget]))

theorem decideSlewing_moves {n : Nat} {az : Int} (h : s.engine = .slewing n az) (b : BaseStage) :
    Moves s (s.decideSlewing b n) := by
  have ht : s.engine.isTarget = true := by rw [h]; rfl
  unfold State.decideSlewing
  split
  · exact (Move.ends _ ht).moves
  split
  · exact (Move.ends _ ht).moves
  split
  · exact (Move.capture h).moves
  split
  · exact (Move.ranOut .slewTimeout).moves.tail (.ends _ (by simpa using ht))
  · exact .refl

theorem decideSettling_moves {n : Nat} (h : s.engine = .settling n) (runout clamped : Bool) :
    Moves s (s.decideSettling runout clamped n) := by
  have ht : s.engine.isTarget = true := by rw [h]; rfl
  unfold State.decideSettling
  split
  · exact (Move.ends _ ht).moves
  split
  · exact (Move.ends _ ht).moves
  split
  · exact (Move.settled h).moves
  · exact (Move.settling h).moves

theorem decideTracking_moves {n : Nat} (h : s.engine = .tracking n) (runout clamped : Bool) :
    Moves s (s.decideTracking runout clamped n) := by
  have ht : s.engine.isTarget = true := by rw [h]; rfl
  unfold State.decideTracking
  dsimp only
  split
  · exact (Move.ends _ ht).moves
  split
  · exact (Move.ends _ ht).moves
  split
  · exact dwellEnds_moves h _
  · exact (Move.tracking h).moves

theorem decideHolding_moves {n : Nat} (h : s.engine = .holding n) (runout clamped : Bool) :
    Moves s (s.decideHolding runout clamped) := by
  have ht : s.engine.isTarget = true := by rw [h]; rfl
  have ends (u : State) (hu : Moves s u) (he : u.engine = s.engine) (o : EndOutcome) : Moves s (u.endAndSelect o) :=
    hu.tail (.ends o (he ▸ ht))
  unfold State.decideHolding
  by_cases hline : s.inputs.instHold.level = true
  · have hcount : Moves s s.countHold := Move.countHold.moves
    simp only [hline, if_true]
    split
    · exact ends _ hcount rfl _
    split
    · exact ends _ hcount rfl _
    split
    · exact ends _ (hcount.tail (.ranOut _)) rfl _
    · exact hcount
  · simp only [hline]
    split
    · exact ends _ .refl rfl _
    split
    · exact ends _ .refl rfl _
    · exact ends _ .refl rfl _

theorem takeDecision_moves (b : BaseStage) (clamped : Bool) (s : State) : Moves s (s.takeDecision b clamped) := by
  unfold State.takeDecision
  split
  case h_1 n az he => exact decideSlewing_moves he b
  case h_2 n he => exact decideSettling_moves he _ _
  case h_3 n he => exact decideTracking_moves he _ _
  case h_4 n he => exact decideHolding_moves he _ _
  case h_5 dest he =>
    split
    · exact (Move.arrive he).moves
    · exact .refl
  case h_6 he =>
    split
    · exact (Move.parkArrives he).moves
    · exact .refl
  case h_7 he => exact (Move.select he).moves
  all_goals exact .refl

theorem computeEvent_moves (s : State) : Moves s s.computeEvent :=
  ((evaluated_moves s).trans (takeDecision_moves _ _ _)).tail (.correction _ _)

theorem engineTurn_moves (s : State) : Moves s s.engineTurn := by
  unfold State.engineTurn
  split
  case h_1 => exact Move.judge.moves
  case h_2 => exact Move.judge.moves
  all_goals exact computeEvent_moves s

/-- Every turn of a demand event is made of moves. -/
theorem turn_moves (x : Turn) (s : State) : Moves s (s.turn x) := by
  cases x with
  | filter i => exact filterInput_moves i s
  | engine => exact engineTurn_moves s
  | line id => exact lineTurn_moves id s
  | second => exact secondTurn_moves s

theorem turns_moves (order : List Turn) (s : State) : Moves s (order.foldl State.turn s) := by
  induction order generalizing s with
  | nil => exact .refl
  | cons x rest ih => exact (turn_moves x s).trans (ih _)

/-- A whole demand event: its opening, moves, and its close. -/
theorem runEvent_moves (levels : Inputs Bool) (order : List Turn) (s : State) :
    ∃ t, Moves (s.openEvent levels) t ∧ s.runEvent levels order = t.closeEvent :=
  ⟨_, turns_moves _ _, rfl⟩

end Sys2Proof.Machine

/-! PROOFS. What each request does to the parts behind its port, and what a step can do: an invariant is kept by every
step when it is kept by each of these. -/

namespace Sys2Proof.Machine

/-! ### The effects of the requests -/

/-- One fault event taken with the enables on, or in STOPPED (R168). -/
def FaultMove (s t : State) : Prop := ∃ k, (s.enable = true ∨ s.engine = .stopped) ∧ t = s.faultEvent k

/-- Fault events one after another. -/
abbrev FaultMoves : State → State → Prop := Relation.ReflTransGen FaultMove

/-- The axes placed at a position, with every pulse not yet issued dropped (R94). -/
def State.placed (p : Axes Int) (s : State) : State := { s with axes := p.map AxisState.place }.dropPulses

/-- What an accepted request does to the state, before the fault events that it may bring, and what holds when it is
taken; where only one request does it, which. -/
inductive Served (c : Instr) (s : State) : State → Prop where
  | nothing : Served c s s
  | acknowledge (l : Link) (k : NoticeSet) : Served c s (s.onBox l (NoticeBox.acknowledge k))
  | mask (l : Link) (k : NoticeSet) : Served c s (s.onBox l (NoticeBox.withMask k))
  | setNow (v : BitVec 48) (hstill : s.engine.isStill = true) (hfree : s.time.discipline = .free)
      (hc : c = .setTime v) :
      Served c s (State.raise .time (s.retime { s.time.jump v.toNat with slew := none, timeValid := true }))
  | setLater (v : BitVec 48) (hfree : s.time.discipline ≠ .free) (hv : v.toNat % 1000000 = 0)
      (hc : c = .setTime v) :
      Served c s (s.withTime { s.time with pendingSet := some v.toNat })
  | config (i : Item) (v : Int) (hv : s.valueAllowed i v = true) :
      Served c s { s with pendingItems := s.pendingItems.set i (some v) }
  | place (p : Axes Int) (hstill : s.engine.isStill = true) (hs : s.engine ≠ .stopped) (hu : s.engine ≠ .unset)
      (hp : s.positionAllowed p = true) : Served c s (s.placed p)
  | placeIdle (p : Axes Int) (hu : s.engine = .unset) (howed : s.enclosure.parkOwed = false)
      (hp : s.positionAllowed p = true) (hc : ∃ x, c = .setPosition x) : Served c s ((s.placed p).enter .idle)
  | placePark (p : Axes Int) (hu : s.engine = .unset) (howed : s.enclosure.parkOwed = true)
      (hp : s.positionAllowed p = true) (hc : ∃ x, c = .setPosition x) :
      Served c s (((s.placed p).withParkOwed false).readyToPark.enter .parking)
  | softReset (hstill : s.engine.isStill = true) (hs : s.engine ≠ .stopped) : Served c s s.softReset
  | append (r : Record) (hid : s.hasId r.id = false) (hlen : s.night.entries.length < listCapacity) :
      Served c s (s.withEntries (s.night.entries ++ [newEntry r]))
  | insert (named : Nat) (r : Record) (hid : s.hasId r.id = false)
      (hlen : s.night.entries.length < listCapacity) :
      Served c s (s.withEntries (insertBefore named (newEntry r) s.night.entries))
  | remove (id : Nat) (e : Entry) (he : s.entryOf id = some e) (ha : e.isActive = false) :
      Served c s { s.withEntries (removeId id s.night.entries) with free := s.free + e.chain.length }
  | purge : Served c s (s.withEntries (s.night.entries.filter fun e => !e.isEnded))
  | segments (id : Nat) (segs : List Segment) (e : Entry) (he : s.entryOf id = some e)
      (hended : e.isEnded = false) (hkind : e.record.kind = .track)
      (hsegs : segmentsFault e.isActive s.time.mountTime 1 e.chain.getLast? segs = none)
      (hfree : segs.length ≤ s.free) : Served c s (s.appendSegments id segs)
  | seek (toRead page : Bool) (index : Nat) (h : index < 128) :
      Served c s
        (s.withModel
          (if toRead then { s.model with readPtr := ⟨page, index⟩ } else { s.model with writePtr := ⟨page, index⟩ }))
  | write (pairs : List Pair) :
      Served c s
        (s.withModel
          { s.model with
            cells := writePairs s.model.cells s.model.writePtr pairs
            writePtr := s.model.writePtr.advance pairs.length })
  | read (n : Nat) : Served c s (s.withModel { s.model with readPtr := s.model.readPtr.advance n })
  | nightStart (h : s.engine = .idle ∨ s.engine = .parked) (hshelter : s.enclosure.shelter = false) :
      Served c s (((State.raise .night (s.withNightFlag true)).withReason none).enter .waiting)
  | stopTarget (o : EndOutcome) (dest : StopDest) (h : s.engine.isTarget = true) : Served c s (s.stopTarget o dest)
  | stopIdle (h : s.engine = .waiting ∨ s.engine = .stopping .waiting) :
      Served c s ((s.withReason none).enter (.stopping .idle))
  | endPark (h : s.engine.isTarget = true) : Served c s ((s.endActive .parked).enterParking)
  | park (h : s.engine = .idle ∨ s.engine = .waiting ∨ ∃ d, s.engine = .stopping d) : Served c s s.enterParking
  | host (d : Axes Int) (h : s.engine.followsTarget = true) (hd : offsetAllowed d = true) :
      Served c s (s.withHost d)
  | lineConfig (id : LineId) (src : Source) (m : LineMode) (high : Bool) (delay width : BitVec 16)
      (hd : delay.toNat ≠ 0) (hw : width.toNat ≠ 0) :
      Served c s
        (s.withLine id ⟨src, m, high, delay.toNat, width.toNat, .quiet, none, false, 0, false⟩)
  | lineSet (id : LineId) (b : Bool) (h : (s.lines.get id).mode = .manual) :
      Served c s (s.withLine id { s.lines.get id with output := b })
  | clear (h : s.engine = .stopped) (hc : c = .faultClear) : Served c s ({ s with faults := ⟨none, none, 0⟩ }.enter .unset)
  | correct (d : AzEl Int) (h : s.engine.followsTarget = true) :
      Served c s
        (s.withGuide
          { s.guide with
            mailbox := some (mergeCorrection s.inForce.guideStepMax d s.guide.mailbox).1
            state := .guiding 0 })
  | zero (h : s.engine.followsTarget = true) : Served c s s.discardMailbox.zeroGuide
  | report (r : EncReport) :
      Served c s { s with enclosure := { s.enclosure with report := some r } }.formShelter

variable {s t u : State} {c : Instr}

/-- The fields of a reply whose number the request does not fix: those of the entries of the list, and those of as many
pairs as a request can ask for (R38, R68). -/
def ReplyFields.fits (s : State) : ReplyFields → Prop
  | .summary r => r.items.length = s.night.entries.length
  | .modelPairs _ pairs _ _ => pairs.length ≤ 60
  | _ => True

/-- What a request does behind its port, and how it answers: a refusal leaves everything as it was (R187). -/
structure ServedBy (c : Instr) (s : State) (r : State × Answer) : Prop where
  refused : 16 ≤ r.2.status.code.toNat → r.1 = s
  effect : ∃ u, Served c s u ∧ FaultMoves u r.1
  fits : r.2.fields.fits s

/-- A request that is refused, or only read. -/
theorem unchanged {r : State × Answer} (h : r.1 = s) (hf : r.2.fields.fits s) : ServedBy c s r :=
  ⟨fun _ => h, ⟨s, .nothing, h ▸ .refl⟩, hf⟩

/-- A request with an effect and fault events after it. -/
theorem accepted {a : Answer} (h : Served c s u) (hm : FaultMoves u t) (ha : decide (a.status.code.toNat < 16) = true)
    (hf : a.fields.fits s) : ServedBy c s (t, a) :=
  ⟨fun h' => absurd (of_decide_eq_true ha) (Nat.not_lt.2 h'), ⟨u, h, hm⟩, hf⟩

/-- A request with an effect and no fault event after it. -/
theorem Served.by {a : Answer} (h : Served c s t) (ha : decide (a.status.code.toNat < 16) = true) (hf : a.fields.fits s) :
    ServedBy c s (t, a) := accepted h .refl ha hf

theorem faultIf_moves (h : s.enable = true ∨ s.engine = .stopped) (b : Bool) (k : FaultKind) :
    FaultMoves s (s.faultIf b k) ∧ ((s.faultIf b k).enable = true ∨ (s.faultIf b k).engine = .stopped) := by
  unfold State.faultIf
  split
  · exact ⟨.single ⟨k, h, rfl⟩, .inr (State.faultEvent_engine s k)⟩
  · exact ⟨.refl, h⟩

/-- The enables rise within a request, and each asserted fault input gives its fault event (R168). -/
theorem enterEnabling_moves (e : Engine) (s : State) : FaultMoves (s.enter e) (s.enterEnabling e) := by
  unfold State.enterEnabling
  dsimp only
  split
  · rename_i h
    obtain ⟨h1, he1⟩ := faultIf_moves (.inl h.2) s.inputs.driveFaultAz.level .driveAz
    obtain ⟨h2, he2⟩ := faultIf_moves he1 s.inputs.driveFaultEl.level .driveEl
    obtain ⟨h3, he3⟩ := faultIf_moves he2 s.inputs.driveFaultRot.level .driveRot
    exact ((h1.trans h2).trans h3).trans (faultIf_moves he3 _ _).1
  · exact .refl

/-! ### Each request -/

theorem noticeAck_served (l : Link) (kinds : BitVec 16) (s : State) : ServedBy c s (noticeAck l kinds s) := by
  unfold noticeAck
  split
  · exact unchanged rfl trivial
  · exact (Served.acknowledge l _).by rfl trivial

theorem noticeMask_served (l : Link) (kinds : BitVec 16) (s : State) : ServedBy c s (noticeMask l kinds s) := by
  unfold noticeMask
  split
  · exact unchanged rfl trivial
  · exact (Served.mask l _).by rfl trivial

theorem setTime_served (v : BitVec 48) (s : State) : ServedBy (.setTime v) s (setTime v s) := by
  unfold setTime
  split
  · exact unchanged rfl trivial
  rename_i hstill
  split
  · rename_i hfree
    exact (Served.setNow v (by simpa using hstill) hfree rfl).by rfl trivial
  rename_i hfree
  split
  · exact unchanged rfl trivial
  · rename_i hv
    exact (Served.setLater v hfree (by simpa using hv) rfl).by rfl trivial

theorem setConfig_served (code : Byte) (value : BitVec 32) (s : State) : ServedBy c s (setConfig code value s) := by
  unfold setConfig
  split
  · exact unchanged rfl trivial
  split
  · exact unchanged rfl trivial
  split
  · exact unchanged rfl trivial
  · rename_i i _ _ hv
    exact (Served.config i _ (by simpa using hv)).by rfl trivial

theorem setPosition_served (p : Axes (BitVec 32)) (s : State) : ServedBy (.setPosition p) s (setPosition p s) := by
  unfold setPosition
  split
  · exact unchanged rfl trivial
  rename_i hs
  split
  · exact unchanged rfl trivial
  rename_i hstill
  split
  · exact unchanged rfl trivial
  rename_i hp
  have hp : s.positionAllowed (signedAxes p) = true := by simpa using hp
  show ServedBy (.setPosition p) s (State.afterPosition (s.placed (signedAxes p)), _)
  unfold State.afterPosition
  split
  · rename_i hu
    split
    · rename_i howed
      exact accepted (.placePark (signedAxes p) hu howed hp ⟨p, rfl⟩) (enterEnabling_moves _ _) rfl trivial
    · rename_i howed
      exact accepted (.placeIdle (signedAxes p) hu (Bool.eq_false_iff.2 howed) hp ⟨p, rfl⟩) (enterEnabling_moves _ _) rfl trivial
  · rename_i hu
    exact (Served.place _ (by simpa using hstill) hs hu hp).by rfl trivial

theorem softReset_served (s : State) : ServedBy c s (softReset s) := by
  unfold softReset
  split
  · exact unchanged rfl trivial
  rename_i hs
  split
  · exact unchanged rfl trivial
  · rename_i hstill
    exact (Served.softReset (by simpa using hstill) hs).by rfl trivial

theorem targetAppend_served (r : TargetRecord) (s : State) : ServedBy c s (targetAppend r s) := by
  unfold targetAppend
  split
  · exact unchanged rfl trivial
  split
  · exact unchanged rfl trivial
  split
  · exact unchanged rfl trivial
  rename_i hid
  split
  · exact unchanged rfl trivial
  · rename_i hlen
    exact (Served.append _ (by simpa using hid) (by omega)).by rfl trivial

theorem targetInsert_served (named : BitVec 16) (r : TargetRecord) (s : State) :
    ServedBy c s (targetInsert named r s) := by
  unfold targetInsert
  split
  · exact unchanged rfl trivial
  split
  · exact unchanged rfl trivial
  split
  · exact unchanged rfl trivial
  split
  · exact unchanged rfl trivial
  split
  · exact unchanged rfl trivial
  rename_i hid
  split
  · exact unchanged rfl trivial
  · rename_i hlen
    exact (Served.insert _ _ (by simpa using hid) (by omega)).by rfl trivial

theorem targetRemove_served (id : BitVec 16) (s : State) : ServedBy c s (targetRemove id s) := by
  unfold targetRemove
  split
  · exact unchanged rfl trivial
  rename_i he
  split
  · exact unchanged rfl trivial
  · rename_i ha
    exact (Served.remove _ _ he (by simpa using ha)).by rfl trivial

theorem segmentAppend_served (id : BitVec 16) (segs : List Segment) (s : State) :
    ServedBy c s (segmentAppend id segs s) := by
  unfold segmentAppend
  split
  · exact unchanged rfl trivial
  split
  · exact unchanged rfl trivial
  rename_i he
  split
  · exact unchanged rfl trivial
  rename_i hended
  split
  · exact unchanged rfl trivial
  rename_i hkind
  split
  · exact unchanged rfl trivial
  rename_i hsegs
  split
  · exact unchanged rfl trivial
  · rename_i hfree
    exact (Served.segments _ _ _ he (by simpa using hended) (by simpa using hkind) hsegs (by omega)).by rfl trivial

theorem modelSeek_served (pointer page index : Byte) (s : State) :
    ServedBy c s (modelSeek pointer page index s) := by
  unfold modelSeek
  split
  · split
    · exact unchanged rfl trivial
    · rename_i h
      exact (Served.seek _ _ _ (by omega)).by rfl trivial
  · exact unchanged rfl trivial

theorem modelWrite_served (pairs : List Pair) (s : State) : ServedBy c s (modelWrite pairs s) := by
  unfold modelWrite
  split
  · exact unchanged rfl trivial
  · exact (Served.write pairs).by rfl trivial

theorem length_readPairs (cells : List (Nat × Pair)) (p : Pointer) (n : Nat) : (readPairs cells p n).length = n := by
  induction n generalizing p with
  | zero => rfl
  | succ n ih => simp [readPairs, ih]

theorem modelRead_served (count : Byte) (s : State) : ServedBy c s (modelRead count s) := by
  unfold modelRead
  split
  · exact unchanged rfl trivial
  · refine (Served.read count.toNat).by rfl ?_
    show (readPairs _ _ count.toNat).length ≤ 60
    rw [length_readPairs]
    omega

theorem nightStart_served (s : State) : ServedBy c s (nightStart s) := by
  unfold nightStart
  split
  · exact unchanged rfl trivial
  split
  · exact unchanged rfl trivial
  split
  · exact unchanged rfl trivial
  rename_i h
  split
  · exact unchanged rfl trivial
  rename_i hshelter
  split
  · exact unchanged rfl trivial
  · exact accepted (.nightStart (by tauto) (by simpa using hshelter)) (enterEnabling_moves _ _) rfl trivial

theorem nightStop_served (s : State) : ServedBy c s (nightStop s) := by
  unfold nightStop
  split
  case h_1 he => exact (Served.stopTarget _ _ (by rw [he]; rfl)).by rfl trivial
  case h_2 he => exact (Served.stopTarget _ _ (by rw [he]; rfl)).by rfl trivial
  case h_3 he => exact (Served.stopTarget _ _ (by rw [he]; rfl)).by rfl trivial
  case h_4 he => exact (Served.stopTarget _ _ (by rw [he]; rfl)).by rfl trivial
  case h_5 he => exact (Served.stopIdle (.inl he)).by rfl trivial
  case h_6 he => exact (Served.stopIdle (.inr he)).by rfl trivial
  all_goals exact unchanged rfl trivial

theorem targetAbort_served (id : BitVec 16) (s : State) : ServedBy c s (targetAbort id s) := by
  unfold targetAbort
  split
  · rename_i h
    exact (Served.stopTarget _ _ h.1).by rfl trivial
  · exact unchanged rfl trivial

theorem park_served (s : State) : ServedBy c s (park s) := by
  unfold park
  split
  case h_1 he => exact (Served.park (.inl he)).by rfl trivial
  case h_2 he => exact (Served.park (.inr (.inl he))).by rfl trivial
  case h_3 he => exact (Served.endPark (by rw [he]; rfl)).by rfl trivial
  case h_4 he => exact (Served.endPark (by rw [he]; rfl)).by rfl trivial
  case h_5 he => exact (Served.endPark (by rw [he]; rfl)).by rfl trivial
  case h_6 he => exact (Served.endPark (by rw [he]; rfl)).by rfl trivial
  case h_7 he => exact (Served.park (.inr (.inr ⟨_, he⟩))).by rfl trivial
  all_goals exact unchanged rfl trivial

theorem offsetSet_served (d : Axes (BitVec 32)) (s : State) : ServedBy c s (offsetSet d s) := by
  unfold offsetSet
  split
  · exact unchanged rfl trivial
  rename_i h
  split
  · exact unchanged rfl trivial
  · rename_i hd
    exact (Served.host _ (by simpa using h) (by simpa using hd)).by rfl trivial

theorem eventConfig_served (line source mode polarity : Byte) (delay width : BitVec 16) (s : State) :
    ServedBy c s (eventConfig line source mode polarity delay width s) := by
  unfold eventConfig
  split
  · split
    · exact unchanged rfl trivial
    · rename_i h
      exact (Served.lineConfig _ _ _ _ delay width (by tauto) (by tauto)).by rfl trivial
  · exact unchanged rfl trivial

theorem eventSet_served (line level : Byte) (s : State) : ServedBy c s (eventSet line level s) := by
  unfold eventSet
  split
  · dsimp only
    split
    · rename_i h
      exact (Served.lineSet _ _ h).by rfl trivial
    · exact unchanged rfl trivial
  · exact unchanged rfl trivial

theorem eventGet_served (line : Byte) (s : State) : ServedBy c s (eventGet line s) := by
  unfold eventGet
  split <;> exact unchanged rfl trivial

theorem getConfig_served (code : Byte) (s : State) : ServedBy c s (getConfig code s) := by
  unfold getConfig
  split <;> exact unchanged rfl trivial

theorem targetGet_served (id : BitVec 16) (s : State) : ServedBy c s (targetGet id s) := by
  unfold targetGet
  split <;> exact unchanged rfl trivial

theorem listSummary_served (s : State) : ServedBy c s (listSummary s) :=
  unchanged rfl (List.length_map _)

theorem faultClear_served (s : State) : ServedBy .faultClear s (faultClear s) := by
  unfold faultClear
  split
  · exact unchanged rfl trivial
  rename_i h
  split
  · exact unchanged rfl trivial
  · exact (Served.clear (by simpa using h) rfl).by rfl trivial

/-- Only in SETTLING, TRACKING and HOLDING is a guide request not refused (R127). -/
theorem followsTarget_of_guideRefusal (h : s.guideRefusal = none) : s.engine.followsTarget = true := by
  unfold State.guideRefusal at h
  split at h
  · cases h
  · rename_i hf
    simpa using hf

/-- A correction that is taken is answered with one of the four statuses that are no refusal (R127, R128). -/
theorem mergeCorrection_status (limit : Int) (d : AzEl Int) (box : Option Mailbox) :
    decide ((mergeCorrection limit d box).2.code.toNat < 16) = true := by
  unfold mergeCorrection
  split
  · dsimp only; split <;> rfl
  · dsimp only; split <;> rfl

theorem guideCorrect_served (d : AzEl (BitVec 16)) (s : State) : ServedBy c s (guideCorrect d s) := by
  unfold guideCorrect
  split
  · exact unchanged rfl trivial
  · rename_i h
    exact (Served.correct (signedPair d) (followsTarget_of_guideRefusal h)).by (mergeCorrection_status _ _ _) trivial

theorem guideZero_served (s : State) : ServedBy c s (guideZero s) := by
  unfold guideZero
  split
  · exact unchanged rfl trivial
  · rename_i h
    exact (Served.zero (followsTarget_of_guideRefusal h)).by rfl trivial

theorem encReport_served (slit : BitVec 32) (flag : Byte) (s : State) : ServedBy c s (encReport slit flag s) := by
  unfold encReport
  split
  · exact unchanged rfl trivial
  split
  · exact unchanged rfl trivial
  · exact (Served.report _).by rfl trivial

/-- What any request does to the parts behind its port. -/
theorem requestEffect_served (i : Instr) (s : State) : ServedBy i s (requestEffect i s) := by
  cases i with
  | noticeAck l kinds => exact noticeAck_served l kinds s
  | noticeMask l kinds => exact noticeMask_served l kinds s
  | setTime v => exact setTime_served v s
  | setPosition p => exact setPosition_served p s
  | setConfig code value => exact setConfig_served code value s
  | getConfig code => exact getConfig_served code s
  | softReset => exact softReset_served s
  | targetAppend r => exact targetAppend_served r s
  | targetInsert named r => exact targetInsert_served named r s
  | targetRemove id => exact targetRemove_served id s
  | listPurge => exact Served.purge.by rfl trivial
  | targetGet id => exact targetGet_served id s
  | listSummary => exact listSummary_served s
  | segmentAppend id segs => exact segmentAppend_served id segs s
  | modelSeek pointer page index => exact modelSeek_served pointer page index s
  | modelWrite pairs => exact modelWrite_served pairs s
  | modelRead count => exact modelRead_served count s
  | nightStart => exact nightStart_served s
  | nightStop => exact nightStop_served s
  | targetAbort id => exact targetAbort_served id s
  | park => exact park_served s
  | offsetSet d => exact offsetSet_served d s
  | eventConfig line source mode polarity delay width =>
    exact eventConfig_served line source mode polarity delay width s
  | eventSet line level => exact eventSet_served line level s
  | eventGet line => exact eventGet_served line s
  | faultClear => exact faultClear_served s
  | guideCorrect d => exact guideCorrect_served d s
  | guideZero => exact guideZero_served s
  | encReport slit flag => exact encReport_served slit flag s
  | _ => exact unchanged rfl trivial

/-! ### The rows of requests, and the bytes of frames -/

/-- A request row is a request on its link, with its KIND and the effect its block gives it (R186). -/
theorem exec_request {i : Instr} {l : Link} {kind : Byte} (h : requestRow i = some (l, kind)) (s : State) :
    exec i s = .next (s.request l kind (requestEffect i)) := by
  cases i <;> cases h <;> rfl

theorem row_of_sized {n : Nat} {p : List Byte} {c i : Instr} (h : sized n p c = .request i) : i = c := by
  unfold sized at h
  split at h
  · cases h; rfl
  · cases h

theorem row_of_orBadLength {o : Option Instr} {i : Instr} (h : orBadLength o = .request i) : o = some i := by
  unfold orBadLength at h
  split at h <;> cases h
  rfl

theorem judgeCommon_row {l : Link} {kind : Nat} {p : List Byte} {i : Instr}
    (h : judgeCommon l kind p = .request i) : requestRow i = some (l, BitVec.ofNat 8 kind) := by
  unfold judgeCommon at h
  split at h
  case h_5 => cases h
  all_goals rw [row_of_sized h]; rfl

theorem judgeSchedule_row {kind : Nat} {p : List Byte} {i : Instr}
    (h : judgeSchedule kind p = .request i) : requestRow i = some (.schedule, BitVec.ofNat 8 kind) := by
  unfold judgeSchedule at h
  split at h
  case h_8 =>
    obtain ⟨r, _, rfl⟩ := Option.map_eq_some_iff.1 (row_of_orBadLength h)
    rfl
  case h_9 =>
    obtain ⟨r, _, rfl⟩ := Option.map_eq_some_iff.1 (row_of_orBadLength h)
    rfl
  case h_14 =>
    dsimp only at h
    split at h <;> cases h
    rfl
  case h_16 =>
    dsimp only at h
    split at h <;> cases h
    rfl
  case h_28 => exact judgeCommon_row h
  all_goals rw [row_of_sized h]; rfl

theorem judgeGuide_row {kind : Nat} {p : List Byte} {i : Instr}
    (h : judgeGuide kind p = .request i) : requestRow i = some (.guide, BitVec.ofNat 8 kind) := by
  unfold judgeGuide at h
  split at h
  case h_4 => exact judgeCommon_row h
  all_goals rw [row_of_sized h]; rfl

theorem judgeEnclosure_row {kind : Nat} {p : List Byte} {i : Instr}
    (h : judgeEnclosure kind p = .request i) : requestRow i = some (.enclosure, BitVec.ofNat 8 kind) := by
  unfold judgeEnclosure at h
  split at h
  case h_3 => exact judgeCommon_row h
  all_goals rw [row_of_sized h]; rfl

/-- A frame judged as a request is judged as one of its own link and KIND (R182, R186). -/
theorem judgeFrame_row {l : Link} {kind : Byte} {p : List Byte} {i : Instr}
    (h : judgeFrame l kind p = .request i) : requestRow i = some (l, kind) := by
  have hkind : BitVec.ofNat 8 kind.toNat = kind := BitVec.ofNat_toNat 8 kind ▸ by simp
  cases l with
  | schedule => rw [judgeSchedule_row h, hkind]
  | guide => rw [judgeGuide_row h, hkind]
  | enclosure => rw [judgeEnclosure_row h, hkind]

/-! ### Changes of a port -/

theorem overrun_lawful {p : Port} (h : p.lawful) : p.overrun.lawful := by
  obtain ⟨_, _, hb, _, ht, _⟩ := h
  exact ⟨by simp [Port.overrun], fun _ => rfl, hb, Nat.min_le_left _ _, ht, trivial⟩

theorem send_lawful {p : Port} (kind : Byte) (a : Answer) (h : p.lawful) : (p.send kind a).lawful := by
  obtain ⟨_, _, hb, ho, ht, _⟩ := h
  exact ⟨by simp [Port.send], fun _ => rfl, hb, ho, ht, trivial⟩

theorem countBadCheck_lawful {p : Port} (h : p.lawful) : p.countBadCheck.lawful := by
  obtain ⟨hg, hh, _, ho, ht, hr⟩ := h
  exact ⟨hg, hh, Nat.min_le_left _ _, ho, ht, hr⟩

theorem abandon_lawful {p : Port} (h : p.lawful) : p.abandon.lawful := by
  obtain ⟨hg, hh, hb, ho, ht, hr⟩ := h
  unfold Port.abandon
  split
  · exact ⟨Nat.zero_le _, fun _ => rfl, hb, ho, Nat.min_le_left _ _, trivial⟩
  · exact ⟨hg, hh, hb, ho, ht, hr⟩

/-- The bytes received are fewer than the payload's length in the payload, and as many in the CHECK (R180). -/
def Receiver.fits : Receiver → Prop
  | .hunt => True
  | .length => True
  | .kind _ => True
  | .payload len _ got => got.length < len.toNat
  | .check len _ got => got.length = len.toNat

theorem fits_of_lawful {p : Port} (h : p.lawful) : p.receiver.fits := by
  obtain ⟨_, _, _, _, _, hr⟩ := h
  cases hp : p.receiver <;> rw [hp] at hr <;> exact hr

theorem receive_lawful {p : Port} {r : Receiver} (h : p.lawful) (hr : r.fits) : (p.receive r).lawful := by
  obtain ⟨_, _, hb, ho, ht, _⟩ := h
  exact ⟨Nat.zero_le _, fun _ => rfl, hb, ho, ht, by cases r <;> exact hr⟩

/-- A change of one port that keeps a lawful port lawful. -/
def PortMove (s t : State) : Prop :=
  ∃ l f, ((s.ports.get l).lawful → (f (s.ports.get l)).lawful) ∧ t = s.onPort l f

/-- Changes of ports one after another. -/
abbrev PortMoves : State → State → Prop := Relation.ReflTransGen PortMove

theorem portMove {l : Link} {f : Port → Port} (h : (s.ports.get l).lawful → (f (s.ports.get l)).lawful) :
    PortMoves s (s.onPort l f) := .single ⟨l, f, h, rfl⟩

theorem reject_moves (l : Link) (kind : Byte) (st : Status) (s : State) : PortMoves s (s.reject l kind st) :=
  portMove (send_lawful _ _)

/-- A byte changes its port, or completes the frame of a request of its link (R180, R182). -/
theorem byteReceived_cases (l : Link) (b : Byte) (s : State) :
    PortMoves s (s.byteReceived l b) ∨
      ∃ i kind, requestRow i = some (l, kind) ∧ s.byteReceived l b = s.request l kind (requestEffect i) := by
  unfold State.byteReceived
  split
  · left
    split
    · exact portMove fun h => receive_lawful h trivial
    · exact .refl
  · exact .inl (portMove fun h => receive_lawful h trivial)
  · rename_i len _
    refine .inl (portMove fun h => receive_lawful h ?_)
    by_cases h0 : len = 0
    · subst h0; rfl
    · rw [if_neg h0]
      exact Nat.pos_of_ne_zero fun h => h0 (BitVec.eq_of_toNat_eq h)
  · rename_i len kind got hr
    refine .inl (portMove fun h => receive_lawful h ?_)
    have hgot : got.length < len.toNat := by simpa [hr, Receiver.fits] using fits_of_lawful h
    have hlen : (got ++ [b]).length = got.length + 1 := by simp
    by_cases hle : len.toNat ≤ (got ++ [b]).length
    · rw [if_pos hle]
      show (got ++ [b]).length = len.toNat
      omega
    · rw [if_neg hle]
      exact Nat.lt_of_not_le hle
  · rename_i len kind got hr
    unfold State.completeFrame
    split
    · exact .inl (portMove overrun_lawful)
    split
    · exact .inl ((portMove countBadCheck_lawful).trans (reject_moves _ _ _ _))
    split
    · exact .inl (reject_moves _ _ _ _)
    · exact .inl (reject_moves _ _ _ _)
    · rename_i i hi
      exact .inr ⟨i, kind, judgeFrame_row hi, rfl⟩

/-! ### What a step keeps -/

/-- A command is a reset's: POWER_ON, the RESET pin or its release (R2, R167). -/
def Resets (a : Option Instr) : Prop :=
  (∃ x, a = some (.powerOn x)) ∨ a = some .resetPin ∨ ∃ x, a = some (.resetPinRelease x)

/-- A command brings a request: as its row, or as a byte of its link (R180, R182). -/
def Carries (a : Option Instr) (c : Instr) : Prop :=
  a = some c ∧ requestRow c ≠ none ∨ ∃ l b kind, a = some (.byteReceived l b) ∧ requestRow c = some (l, kind)

/-- A command, or none, that brings neither a request nor a pulse: with it a demand event can come. -/
def Timed (a : Option Instr) : Prop := a ≠ some .ppsPulse ∧ ∀ c, ¬ Carries a c

theorem timed_none : Timed none := by
  refine ⟨by simp, fun c hc => ?_⟩
  rcases hc with ⟨h, _⟩ | ⟨_, _, _, h, _⟩ <;> cases h

theorem timed_of_row {i : Instr} (hrow : requestRow i = none) (hbyte : ∀ l b, i ≠ .byteReceived l b)
    (hpulse : i ≠ .ppsPulse) : Timed (some i) := by
  refine ⟨fun h => hpulse (Option.some.inj h), fun c hc => ?_⟩
  rcases hc with ⟨h, hc⟩ | ⟨l, b, _, h, _⟩
  · cases h; exact hc hrow
  · exact hbyte l b (Option.some.inj h)

/-- Two predicates of states, for a step that takes the command `a` or none: the first is kept by what the step does
before a request is served, a reset or a pulse taken, and brings about the second, which stands after it. -/
structure StepsInto (a : Option Instr) (P Q : State → Prop) : Prop where
  queue : ∀ s q, P s → P (s.withPending q)
  draw : ∀ s, P s → P { s with orderDraws := s.orderDraws + 1 }
  elapse : ∀ s n, P s → P (s.elapse n)
  expiry : ∀ s, P s → P s.takeExpiry
  pulse : ∀ s, a = some .ppsPulse → P s → Q s.pulse
  event : ∀ s levels order, Timed a → P s → P (s.runEvent levels order)
  weaken : ∀ s, P s → Q s
  power : ∀ s straps low, Resets a → P s → Q (s.powerOnState straps low)
  served : ∀ {c : Instr} s t, Carries a c → Served c s t → P s → Q t
  fault : ∀ s k, s.enable = true ∨ s.engine = .stopped → Q s → Q (s.faultEvent k)
  port : ∀ s t, PortMove s t → Q s → Q t

namespace StepsInto

variable {a : Option Instr} {P Q : State → Prop} (h : StepsInto a P Q)
include h

theorem ports (hm : PortMoves s t) (hs : Q s) : Q t := by
  induction hm with
  | refl => exact hs
  | tail _ hmove ih => exact h.port _ _ hmove ih

theorem servedBy {r : State × Answer} (ha : Carries a c) (hm : ServedBy c s r) (hs : P s) : Q r.1 := by
  obtain ⟨_, ⟨u, hu, hfaults⟩, _⟩ := hm
  have hQu := h.served _ _ ha hu hs
  generalize r.1 = t at hfaults
  clear hu
  induction hfaults with
  | refl => exact hQu
  | tail _ hmove ih =>
    obtain ⟨k, hk, rfl⟩ := hmove
    exact h.fault _ k hk ih

theorem request (l : Link) (kind : Byte) (i : Instr) (ha : Carries a i) (hs : P s) : Q (s.request l kind (requestEffect i)) := by
  rcases s.request_cases l kind (requestEffect i) with hr | hr | hr <;> rw [hr]
  · exact h.weaken _ hs
  · exact h.ports (portMove overrun_lawful) (h.weaken _ hs)
  · exact h.ports (portMove (send_lawful _ _)) (h.servedBy ha (requestEffect_served i s) hs)

theorem waitFor (n : Option Nat) (hs : P s) : P (s.waitFor n) := by
  rcases s.waitFor_cases n with hw | ⟨m, _, _, _, hw⟩ <;> rw [hw]
  · exact hs
  · exact h.elapse _ _ hs

theorem demandEvent (levels : Inputs Bool) (order : List Turn) (ha : Timed a) (hs : P s) : P (s.demandEvent levels order) := by
  unfold State.demandEvent
  split
  · exact hs
  split
  · exact hs
  · exact h.event _ _ _ ha (h.elapse _ _ hs)

theorem demandEventOf (x : Expiry) (levels : Inputs Bool) (order : List Turn) (ha : Timed a) (hs : P s) :
    P (s.demandEventOf x levels order) := by
  unfold State.demandEventOf
  dsimp only
  split
  · exact h.demandEvent _ _ ha hs
  · exact hs

theorem byteReceived (l : Link) (b : Byte) (ha : a = some (.byteReceived l b)) (hs : P s) :
    Q (s.byteReceived l b) := by
  rcases byteReceived_cases l b s with hb | ⟨i, kind, hrow, hb⟩
  · exact h.ports hb (h.weaken _ hs)
  · rw [hb]
    exact h.request _ _ _ (.inr ⟨l, b, kind, ha, hrow⟩) hs

theorem idle (ha : Timed a) (hs : P s) : P s.idle := by
  unfold State.idle
  split
  · exact hs
  split
  · exact h.event _ _ _ ha (h.draw _ hs)
  · exact h.elapse _ _ hs

/-- Every command leads from the first predicate into the second. -/
theorem exec {i : Instr} (ha : a = some i) (hexec : exec i s = .next t) (hs : P s) : Q t := by
  have hw := h.weaken _ hs
  rcases hrow : requestRow i with _ | ⟨l, kind⟩
  case some =>
    rw [exec_request hrow] at hexec
    cases hexec
    exact h.request _ _ _ (.inl ⟨ha, by rw [hrow]; simp⟩) hs
  case none =>
    cases i <;> cases hrow <;> cases hexec
    case powerOn => exact h.power _ _ _ (.inl ⟨_, ha⟩) hs
    case resetPin => exact h.power _ _ _ (.inr (.inl ha)) hs
    case resetPinRelease =>
      split
      · exact h.power _ _ _ (.inr (.inr ⟨_, ha⟩)) hs
      · exact hw
    case demandEvent => exact h.weaken _ (h.demandEvent _ _ (ha ▸ timed_of_row rfl (by simp) (by simp)) hs)
    case mountTimeHold => exact h.weaken _ (h.waitFor _ hs)
    case ppsPulse =>
      split
      · exact hw
      · exact h.pulse _ ha hs
    case slewCorrection => exact h.weaken _ (h.waitFor _ hs)
    case pulseAgeExpiry =>
      split
      · exact hw
      · exact h.weaken _ (h.expiry _ (h.waitFor _ hs))
    case frameTimeout =>
      split
      · exact h.weaken _ (h.waitFor _ hs)
      · exact hw
    case lineBreak =>
      split
      · exact h.ports (portMove abandon_lawful) hw
      · exact hw
    case replyEnd =>
      split
      · exact hw
      · exact h.ports (portMove fun hl => hl) hw
    case waitingScheduleStart => exact h.weaken _ (h.waitFor _ hs)
    case byteReceived =>
      split
      · exact hw
      · exact h.byteReceived _ _ ha hs
    case stepPulse => exact h.weaken _ (h.waitFor _ hs)
    all_goals exact h.weaken _ (h.demandEventOf _ _ _ (ha ▸ timed_of_row rfl (by simp) (by simp)) hs)

end StepsInto

/-- A step leads from the first predicate into the second. -/
theorem StepsInto.step {P Q : State → Prop} (h : StepsInto s.pending.head? P Q) (hstep : step s = .next t) (hs : P s) :
    Q t := by
  unfold Machine.step at hstep
  split at hstep
  · cases hstep
    rename_i hq
    exact h.weaken _ (h.idle (by rw [hq]; exact timed_none) hs)
  · rename_i c rest hq
    exact h.exec (by rw [hq]; rfl) hstep (h.queue _ _ hs)

/-- A predicate of states that each thing a step can do keeps. -/
structure KeptBySteps (P : State → Prop) : Prop where
  queue : ∀ s q, P s → P (s.withPending q)
  draw : ∀ s, P s → P { s with orderDraws := s.orderDraws + 1 }
  power : ∀ s straps low, P s → P (s.powerOnState straps low)
  elapse : ∀ s n, P s → P (s.elapse n)
  expiry : ∀ s, P s → P s.takeExpiry
  pulse : ∀ s, P s → P s.pulse
  port : ∀ s t, PortMove s t → P s → P t
  served : ∀ {c : Instr} s t, Served c s t → P s → P t
  fault : ∀ s k, s.enable = true ∨ s.engine = .stopped → P s → P (s.faultEvent k)
  event : ∀ s levels order, P s → P (s.runEvent levels order)

/-- Every step keeps it. -/
theorem KeptBySteps.step {P : State → Prop} (h : KeptBySteps P) (hstep : step s = .next t) (hs : P s) : P t :=
  StepsInto.step (P := P) (Q := P)
    { h with
      weaken := fun _ hs => hs
      pulse := fun s _ => h.pulse s
      event := fun s levels order _ => h.event s levels order
      power := fun s straps low _ => h.power s straps low
      served := fun s t _ => h.served s t } hstep hs

/-- A demand event keeps what its opening brings into a predicate that its moves keep, and its close brings back. -/
theorem runEvent_keeps {P Q : State → Prop} (hopen : ∀ s levels, P s → Q (s.openEvent levels))
    (hmove : ∀ s t, Move s t → Q s → Q t) (hclose : ∀ s, Q s → P s.closeEvent) (s : State)
    (levels : Inputs Bool) (order : List Turn) (hs : P s) : P (s.runEvent levels order) := by
  obtain ⟨t, ht, he⟩ := runEvent_moves levels order s
  rw [he]
  exact hclose _ (Moves.keep hmove ht (hopen _ _ hs))

end Sys2Proof.Machine

/-! PROOFS. The laws that tie the engine to the enables, the fault record and the shelter (R149, R151, R158, R169):
what each move and each request does to them. -/

namespace Sys2Proof.Machine

variable {s t u : State}

/-! ### What forming the shelter condition can do -/

/-- The state in which an edge of the shelter condition acts: the condition formed, the notice raised (R150). -/
def State.shelterEdge (s : State) : State :=
  State.raise .shelter { s with enclosure := { s.enclosure with shelter := s.shelterSources } }

theorem formShelter_cases (s : State) :
    s.shelterSources = s.enclosure.shelter ∧ s.formShelter = s ∨
      s.shelterSources = false ∧ s.formShelter = s.shelterEdge.withParkOwed false ∨
      s.shelterSources = true ∧ s.enclosure.shelter = false ∧ s.formShelter = s.shelterEdge.shelterRise := by
  unfold State.formShelter
  split
  · rename_i h
    exact .inl ⟨h, rfl⟩
  · rename_i h
    cases hs : s.shelterSources
    · exact .inr (.inl ⟨rfl, by simp [State.shelterEdge, hs]⟩)
    · refine .inr (.inr ⟨rfl, ?_, by simp [State.shelterEdge, hs]⟩)
      rw [hs] at h
      simpa using Ne.symm h

theorem shelterRise_cases (s : State) :
    s.engine.isTarget = true ∧ s.shelterRise = (s.endActive .shelter).enterParking ∨
      (s.engine = .idle ∨ s.engine = .waiting ∨ ∃ d, s.engine = .stopping d) ∧ s.shelterRise = s.enterParking ∨
      (s.engine = .parking ∨ s.engine = .parked) ∧ s.shelterRise = s ∨
      (s.engine = .unset ∨ s.engine = .stopped) ∧ s.shelterRise = s.withParkOwed true := by
  unfold State.shelterRise
  cases s.engine <;> simp [Engine.isTarget]

/-- What forms the shelter condition again keeps what an edge's record and notice, the end of a target, an entry to
PARKING and park owed keep. -/
theorem formShelter_keeps {P : State → Prop} (hs : P s)
    (hedge : ∀ s, P s → P s.shelterEdge) (howed : ∀ s b, P s → P (s.withParkOwed b))
    (hend : ∀ s, s.engine.isTarget = true → P s → P ((s.endActive .shelter).enterParking))
    (hpark : ∀ s, (s.engine = .idle ∨ s.engine = .waiting ∨ ∃ d, s.engine = .stopping d) → P s → P s.enterParking) :
    P s.formShelter := by
  rcases formShelter_cases s with ⟨_, h⟩ | ⟨_, h⟩ | ⟨_, _, h⟩ <;> rw [h]
  · exact hs
  · exact howed _ _ (hedge _ hs)
  · have he := hedge _ hs
    rcases shelterRise_cases s.shelterEdge with ⟨ht, h⟩ | ⟨ht, h⟩ | ⟨_, h⟩ | ⟨_, h⟩ <;> rw [h]
    · exact hend _ ht he
    · exact hpark _ ht he
    · exact he
    · exact howed _ _ he

/-! ### Engine states in which the drives can be off -/

/-- UNSET and STOPPED, in which no stage runs and park can be owed (R72, R151). -/
def Engine.isDown (e : Engine) : Bool := decide (e = .unset) || decide (e = .stopped)

theorem isDown_iff {e : Engine} : e.isDown = true ↔ e = .unset ∨ e = .stopped := by
  simp [Engine.isDown]

theorem isDown_of_isTarget {e : Engine} (h : e.isTarget = true) : e.isDown = false := by
  cases e <;> first | rfl | cases h

theorem isDown_of_followsTarget {e : Engine} (h : e.followsTarget = true) : e.isDown = false := by
  cases e <;> first | rfl | cases h

/-! ### What a move does to the engine, the enables, the fault record and the shelter -/

/-- The engine, the enables, the fault record, the enclosure unit and the inputs stay. -/
structure State.SameDrives (s t : State) : Prop where
  engine : t.engine = s.engine
  enable : t.enable = s.enable
  faults : t.faults = s.faults
  enclosure : t.enclosure = s.enclosure
  inputs : t.inputs = s.inputs

/-- The engine goes from one of its states to another, neither UNSET nor STOPPED; the enables follow, and the fault
record, the enclosure unit and the inputs stay. -/
structure State.Switches (s t : State) : Prop where
  before : s.engine.isDown = false
  after : t.engine.isDown = false
  enable : t.enable = t.engine.drivesOn ∨ t.enable = s.enable ∧ t.engine.drivesOn = s.engine.drivesOn
  faults : t.faults = s.faults
  enclosure : t.enclosure = s.enclosure
  inputs : t.inputs = s.inputs

theorem State.SameDrives.refl (s : State) : s.SameDrives s := ⟨rfl, rfl, rfl, rfl, rfl⟩

theorem State.SameDrives.trans (h : s.SameDrives t) (h' : t.SameDrives u) : s.SameDrives u :=
  ⟨h'.engine.trans h.engine, h'.enable.trans h.enable, h'.faults.trans h.faults, h'.enclosure.trans h.enclosure,
    h'.inputs.trans h.inputs⟩

theorem takeMailbox_sameDrives (s : State) : s.SameDrives s.takeMailbox := by
  unfold State.takeMailbox
  split
  · exact .refl s
  · exact ⟨rfl, rfl, rfl, rfl, rfl⟩

theorem countGuide_sameDrives (s : State) : s.SameDrives s.countGuide := by
  unfold State.countGuide
  split
  · split <;> exact ⟨rfl, rfl, rfl, rfl, rfl⟩
  all_goals exact .refl s

theorem setOnTarget_sameDrives (b : Bool) (s : State) : s.SameDrives (s.setOnTarget b) := by
  constructor <;> simp

theorem evaluateOnTarget_sameDrives (runout : Bool) (s : State) : s.SameDrives (s.evaluateOnTarget runout) := by
  unfold State.evaluateOnTarget
  dsimp only
  split
  · exact (setOnTarget_sameDrives _ s).trans ⟨rfl, rfl, rfl, rfl, rfl⟩
  · exact setOnTarget_sameDrives _ s

theorem aim_sameDrives {a : State × Axes Int × Axes Int} (h : s.aim = some a) : s.SameDrives a.1 := by
  rcases s.aim_cases h with h | ⟨_, _, _, _, h⟩ <;> rw [h] <;> exact ⟨rfl, rfl, rfl, rfl, rfl⟩

/-- The fault record, the enclosure unit and the inputs stay through the end of a target. -/
theorem endActive_drives (o : EndOutcome) (s : State) :
    (s.endActive o).faults = s.faults ∧ (s.endActive o).enclosure = s.enclosure ∧
      (s.endActive o).inputs = s.inputs := by simp

/-- A scan leaves the engine in STOPPING, WAITING or SLEWING, and the fault record, the enclosure unit and the inputs
as they were (R104). -/
theorem scan_switches (b : Bool) (n : Nat) (s : State) :
    (State.scan b n s).engine.isDown = false ∧ (State.scan b n s).enable = (State.scan b n s).engine.drivesOn ∧
      (State.scan b n s).faults = s.faults ∧ (State.scan b n s).enclosure = s.enclosure ∧
      (State.scan b n s).inputs = s.inputs := by
  obtain ⟨s', ⟨hf, hc, hi⟩, h⟩ := State.scan_cases
    (P := fun x => x.faults = s.faults ∧ x.enclosure = s.enclosure ∧ x.inputs = s.inputs) b
    (fun _ _ _ h _ => h) (fun _ _ h _ => h) n s ⟨rfl, rfl, rfl⟩
  rcases h with ⟨r, h⟩ | ⟨e, k, az, _, h⟩ <;> rw [h]
  · unfold State.wait
    dsimp only
    split <;> split <;> exact ⟨rfl, rfl, hf, hc, hi⟩
  · unfold State.start
    dsimp only
    split <;> exact ⟨rfl, rfl, hf, hc, hi⟩

theorem select_switches (b : Bool) (h : s.engine.isDown = false) : s.Switches (s.select b) := by
  obtain ⟨he, hen, hf, hc, hi⟩ := scan_switches b (s.night.entries.length + 1) s
  exact ⟨h, he, .inl hen, hf, hc, hi⟩

theorem endAndSelect_switches (o : EndOutcome) (h : s.engine.isDown = false) : s.Switches (s.endAndSelect o) := by
  unfold State.endAndSelect State.select
  obtain ⟨he, hen, hf, hc, hi⟩ := scan_switches true ((s.endActive o).night.entries.length + 1) (s.endActive o)
  obtain ⟨hf', hc', hi'⟩ := endActive_drives o s
  exact ⟨h, he, .inl hen, by rw [hf, hf'], by rw [hc, hc'], by rw [hi, hi']⟩

theorem capture_switches (h : s.engine.isDown = false) : s.Switches s.capture := by
  unfold State.capture
  dsimp only
  split <;> exact ⟨h, rfl, .inl rfl, rfl, rfl, rfl⟩

theorem arrive_switches (dest : StopDest) (h : s.engine.isDown = false) : s.Switches (s.arrive dest) := by
  cases dest <;> exact ⟨h, rfl, .inl rfl, rfl, rfl, rfl⟩

theorem enterParking_switches (h : s.engine.isDown = false) : s.Switches s.enterParking :=
  ⟨h, rfl, .inl rfl, rfl, rfl, rfl⟩

theorem endActive_enterParking_switches (o : EndOutcome) (h : s.engine.isDown = false) :
    s.Switches (s.endActive o).enterParking :=
  ⟨h, rfl, .inl rfl, by simp, by simp, by simp⟩

theorem stopTarget_switches (o : EndOutcome) (dest : StopDest) (h : s.engine.isDown = false) :
    s.Switches (s.stopTarget o dest) := by
  obtain ⟨hf, hc, hi⟩ := endActive_drives o s
  exact ⟨h, rfl, .inl rfl, hf, hc, hi⟩

/-- What a move does to the engine, the enables, the fault record, the enclosure unit and the inputs. -/
theorem move_drives (h : Move s t) :
    s.SameDrives t ∨ s.Switches t ∨
      (∃ i f, i ≠ .shelter ∧ t = { s with inputs := s.inputs.set i f }) ∨
      (∃ f, t = { s with inputs := s.inputs.set .shelter f }.formShelter) ∨
      (∃ k, (s.enable = true ∨ s.engine = .stopped) ∧ t = s.faultEvent k) ∨ t = s.judgeAlignment := by
  cases h with
  | note => exact .inl ⟨rfl, rfl, rfl, rfl, rfl⟩
  | give => exact .inl ⟨rfl, rfl, rfl, rfl, rfl⟩
  | ranOut => exact .inl ⟨rfl, rfl, rfl, rfl, rfl⟩
  | countLine => exact .inl ⟨rfl, rfl, rfl, rfl, rfl⟩
  | correction => exact .inl ⟨rfl, rfl, rfl, rfl, rfl⟩
  | sample i f h => exact .inr (.inr (.inl ⟨i, f, h, rfl⟩))
  | shelter f => exact .inr (.inr (.inr (.inl ⟨f, rfl⟩)))
  | fault k h => exact .inr (.inr (.inr (.inr (.inl ⟨k, h, rfl⟩))))
  | judge => exact .inr (.inr (.inr (.inr (.inr rfl))))
  | aim h => exact .inl (aim_sameDrives h)
  | slew h => exact .inr (.inl ⟨by rw [h]; rfl, rfl, .inr ⟨rfl, by rw [h]; rfl⟩, rfl, rfl, rfl⟩)
  | fold => exact .inl ⟨rfl, rfl, rfl, rfl, rfl⟩
  | motions => exact .inl ⟨rfl, rfl, rfl, rfl, rfl⟩
  | takeMailbox => exact .inl (takeMailbox_sameDrives s)
  | countGuide => exact .inl (countGuide_sameDrives s)
  | blend => exact .inl ⟨rfl, rfl, rfl, rfl, rfl⟩
  | step => exact .inl ⟨rfl, rfl, rfl, rfl, rfl⟩
  | onTarget => exact .inl (evaluateOnTarget_sameDrives _ s)
  | capture h => exact .inr (.inl (capture_switches (by rw [h]; rfl)))
  | settled h => exact .inr (.inl ⟨by rw [h]; rfl, rfl, .inl rfl, rfl, rfl, rfl⟩)
  | settling h => exact .inr (.inl ⟨by rw [h]; rfl, rfl, .inl rfl, rfl, rfl, rfl⟩)
  | tracking h => exact .inr (.inl ⟨by rw [h]; rfl, rfl, .inl rfl, rfl, rfl, rfl⟩)
  | holding h => exact .inr (.inl ⟨by rw [h]; rfl, rfl, .inl rfl, rfl, rfl, rfl⟩)
  | countHold => exact .inl ⟨rfl, rfl, rfl, rfl, rfl⟩
  | ends o h => exact .inr (.inl (endAndSelect_switches o (isDown_of_isTarget h)))
  | select h => exact .inr (.inl (select_switches false (by rw [h]; rfl)))
  | arrive h => exact .inr (.inl (arrive_switches _ (by rw [h]; rfl)))
  | parkArrives h => exact .inr (.inl ⟨by rw [h]; rfl, rfl, .inl rfl, rfl, rfl, rfl⟩)

/-- What a request does to the engine, the enables, the fault record, the enclosure unit and the inputs. -/
theorem served_drives {c : Instr} (h : Served c s t) :
    s.SameDrives t ∨ s.Switches t ∨
      (∃ x, c = .setPosition x) ∧ s.engine = .unset ∧ s.enclosure.parkOwed = false ∧
        (∃ p, t = (s.placed p).enter .idle) ∨
      (∃ x, c = .setPosition x) ∧ s.engine = .unset ∧ s.enclosure.parkOwed = true ∧
        (∃ p, t = ((s.placed p).withParkOwed false).readyToPark.enter .parking) ∨
      s.engine.isStill = true ∧ s.engine ≠ .stopped ∧ t = s.softReset ∨
      c = .faultClear ∧ s.engine = .stopped ∧ t = { s with faults := ⟨none, none, 0⟩ }.enter .unset ∨
      ∃ r, t = { s with enclosure := { s.enclosure with report := some r } }.formShelter := by
  cases h with
  | setNow v hs =>
    left
    constructor <;> simp
  | segments id segs =>
    left
    unfold State.appendSegments
    dsimp only
    split <;> exact ⟨rfl, rfl, rfl, rfl, rfl⟩
  | placeIdle p hu howed hp hc => exact .inr (.inr (.inl ⟨hc, hu, howed, p, rfl⟩))
  | placePark p hu howed hp hc => exact .inr (.inr (.inr (.inl ⟨hc, hu, howed, p, rfl⟩)))
  | softReset hstill hs => exact .inr (.inr (.inr (.inr (.inl ⟨hstill, hs, rfl⟩))))
  | clear h hc => exact .inr (.inr (.inr (.inr (.inr (.inl ⟨hc, h, rfl⟩)))))
  | report r => exact .inr (.inr (.inr (.inr (.inr (.inr ⟨r, rfl⟩)))))
  | nightStart h => exact .inr (.inl ⟨by rcases h with h | h <;> rw [h] <;> rfl, rfl, .inl rfl, rfl, rfl, rfl⟩)
  | stopTarget o dest h => exact .inr (.inl (stopTarget_switches o dest (isDown_of_isTarget h)))
  | stopIdle h => exact .inr (.inl ⟨by rcases h with h | h <;> rw [h] <;> rfl, rfl, .inl rfl, rfl, rfl, rfl⟩)
  | endPark h => exact .inr (.inl (endActive_enterParking_switches _ (isDown_of_isTarget h)))
  | park h =>
    exact .inr (.inl (enterParking_switches (by rcases h with h | h | ⟨_, h⟩ <;> rw [h] <;> rfl)))
  | _ => exact .inl ⟨rfl, rfl, rfl, rfl, rfl⟩

/-! ### The law of the enables (R158) -/

theorem EnableLaw.of_same (h : s.SameDrives t) (hs : s.EnableLaw) : t.EnableLaw := by
  unfold State.EnableLaw at *
  rw [h.engine, h.enable, hs]

theorem EnableLaw.of_switches (h : s.Switches t) (hs : s.EnableLaw) : t.EnableLaw := by
  unfold State.EnableLaw at *
  rcases h.enable with he | ⟨he, hd⟩
  · exact he
  · rw [he, hs, hd]

theorem enableLaw_enter (e : Engine) (s : State) : (s.enter e).EnableLaw := rfl

theorem enableLaw_faultEvent (k : FaultKind) (hs : s.EnableLaw) : (s.faultEvent k).EnableLaw := by
  unfold State.faultEvent
  split
  · split <;> exact hs
  · dsimp only
    split <;> rfl

theorem enableLaw_formShelter (hs : s.EnableLaw) : s.formShelter.EnableLaw :=
  formShelter_keeps hs (fun _ h => h) (fun _ _ h => h) (fun _ _ _ => enableLaw_enter _ _)
    (fun _ _ _ => enableLaw_enter _ _)

theorem enableLaw_judgeAlignment (hs : s.EnableLaw) : s.judgeAlignment.EnableLaw := by
  unfold State.judgeAlignment
  split
  · exact hs
  · dsimp only
    split <;> exact hs

theorem enableLaw_move (h : Move s t) (hs : s.EnableLaw) : t.EnableLaw := by
  rcases move_drives h with h | h | ⟨_, _, _, rfl⟩ | ⟨_, rfl⟩ | ⟨k, _, rfl⟩ | rfl
  · exact EnableLaw.of_same h hs
  · exact EnableLaw.of_switches h hs
  · exact hs
  · exact enableLaw_formShelter hs
  · exact enableLaw_faultEvent k hs
  · exact enableLaw_judgeAlignment hs

theorem enableLaw_served {c : Instr} (h : Served c s t) (hs : s.EnableLaw) : t.EnableLaw := by
  rcases served_drives h with h | h | ⟨_, _, _, _, rfl⟩ | ⟨_, _, _, _, rfl⟩ | ⟨_, _, rfl⟩ | ⟨_, _, rfl⟩ | ⟨_, rfl⟩
  · exact EnableLaw.of_same h hs
  · exact EnableLaw.of_switches h hs
  · exact enableLaw_enter _ _
  · exact enableLaw_enter _ _
  · exact hs
  · exact enableLaw_enter _ _
  · exact enableLaw_formShelter hs

theorem elapse_sameDrives (n : Nat) (s : State) : s.SameDrives (s.elapse n) := by constructor <;> simp

theorem takeExpiry_sameDrives (s : State) : s.SameDrives s.takeExpiry := by constructor <;> simp

theorem pulse_sameDrives (s : State) : s.SameDrives s.pulse := by
  unfold State.pulse
  dsimp only
  split
  · split <;> constructor <;> simp
  · exact ⟨rfl, rfl, rfl, rfl, rfl⟩

theorem enableLaw_kept : KeptBySteps State.EnableLaw where
  queue _ _ h := h
  draw _ h := h
  power _ _ _ _ := rfl
  elapse s n := EnableLaw.of_same (elapse_sameDrives n s)
  expiry s := EnableLaw.of_same (takeExpiry_sameDrives s)
  pulse s := EnableLaw.of_same (pulse_sameDrives s)
  port := fun _ _ ⟨_, _, _, ht⟩ h => ht ▸ h
  served _ _ := enableLaw_served
  fault _ k _ := enableLaw_faultEvent k
  event := runEvent_keeps (fun _ _ h => h) (fun _ _ => enableLaw_move) (fun _ h => h)

/-! ### The law of the fault record (R169) -/

theorem FaultLaw.of_engine (he : t.engine = .stopped ↔ s.engine = .stopped) (hf : t.faults = s.faults)
    (hs : s.FaultLaw) : t.FaultLaw := by
  unfold State.FaultLaw at *
  rwa [hf, he]

theorem FaultLaw.of_same (h : s.SameDrives t) (hs : s.FaultLaw) : t.FaultLaw :=
  FaultLaw.of_engine (by rw [h.engine]) h.faults hs

theorem ne_stopped_of_isDown {e : Engine} (h : e.isDown = false) : e ≠ .stopped := by
  rintro rfl; cases h

theorem FaultLaw.of_switches (h : s.Switches t) (hs : s.FaultLaw) : t.FaultLaw :=
  FaultLaw.of_engine
    (iff_of_false (ne_stopped_of_isDown h.after) (ne_stopped_of_isDown h.before)) h.faults hs

/-- With no fault in the first slot the record is empty (R169). -/
theorem faults_empty (hs : s.FaultLaw) (he : s.engine ≠ .stopped) : s.faults = ⟨none, none, 0⟩ := by
  obtain ⟨hfirst, hsecond, hover, _⟩ := hs
  have h1 : s.faults.first = none := by simpa using mt hfirst.1 he
  have h2 : s.faults.second = none := by simpa [h1] using hsecond
  have h3 : s.faults.overflow = 0 := by simpa [h2] using hover
  cases hf : s.faults
  simp_all

theorem faultEvent_faults_of_ne (k : FaultKind) (he : s.engine ≠ .stopped) :
    (s.faultEvent k).faults =
      { s.faults with first := some ⟨k, s.time.mountTime, s.engine.state, s.activeId⟩ } := by
  unfold State.faultEvent
  split
  · contradiction
  · dsimp only
    split <;> simp

theorem faultEvent_stopped (k : FaultKind) (he : s.engine = .stopped) :
    s.faultEvent k =
      State.raise .fault
        { s with
          faults :=
            if s.faults.second.isSome then { s.faults with overflow := saturate 255 s.faults.overflow 1 }
            else { s.faults with second := some ⟨k, s.time.mountTime, .stopped, none⟩ } } := by
  unfold State.faultEvent
  rw [he]
  cases h : s.faults.second <;> simp [h]

theorem faultLaw_faultEvent (k : FaultKind) (hs : s.FaultLaw) : (s.faultEvent k).FaultLaw := by
  by_cases he : s.engine = .stopped
  · obtain ⟨hfirst, hsecond, hover, hmax⟩ := hs
    have h1 := hfirst.2 he
    rw [faultEvent_stopped k he]
    unfold State.FaultLaw
    by_cases h2 : s.faults.second.isSome = true <;>
      simp_all [saturate]
  · have hempty := faults_empty hs he
    unfold State.FaultLaw
    rw [faultEvent_faults_of_ne k he, hempty]
    simp

theorem faultLaw_formShelter (hs : s.FaultLaw) : s.formShelter.FaultLaw := by
  refine formShelter_keeps hs (fun _ h => h) (fun _ _ h => h) (fun u ht hu => ?_) (fun u ht hu => ?_)
  · exact FaultLaw.of_switches (endActive_enterParking_switches _ (isDown_of_isTarget ht)) hu
  · exact FaultLaw.of_switches (enterParking_switches (by rcases ht with h | h | ⟨_, h⟩ <;> rw [h] <;> rfl)) hu

theorem faultLaw_judgeAlignment (hs : s.FaultLaw) : s.judgeAlignment.FaultLaw := by
  unfold State.judgeAlignment
  split
  · exact hs
  · dsimp only
    split <;> exact hs

theorem faultLaw_move (h : Move s t) (hs : s.FaultLaw) : t.FaultLaw := by
  rcases move_drives h with h | h | ⟨_, _, _, rfl⟩ | ⟨_, rfl⟩ | ⟨k, _, rfl⟩ | rfl
  · exact FaultLaw.of_same h hs
  · exact FaultLaw.of_switches h hs
  · exact hs
  · exact faultLaw_formShelter hs
  · exact faultLaw_faultEvent k hs
  · exact faultLaw_judgeAlignment hs

theorem faultLaw_served {c : Instr} (h : Served c s t) (hs : s.FaultLaw) : t.FaultLaw := by
  rcases served_drives h with h | h | ⟨_, hu, _, _, rfl⟩ | ⟨_, hu, _, _, rfl⟩ | ⟨_, hns, rfl⟩ | ⟨_, _, rfl⟩ | ⟨_, rfl⟩
  · exact FaultLaw.of_same h hs
  · exact FaultLaw.of_switches h hs
  · exact FaultLaw.of_engine (s := s) (by rw [hu]; simp) (by simp [State.placed]) hs
  · exact FaultLaw.of_engine (s := s) (by rw [hu]; simp) (by simp [State.placed]) hs
  · unfold State.FaultLaw
    simp [State.softReset, hns]
  · unfold State.FaultLaw
    simp
  · exact faultLaw_formShelter hs

theorem faultLaw_kept : KeptBySteps State.FaultLaw where
  queue _ _ h := h
  draw _ h := h
  power _ _ _ _ := by simp [State.FaultLaw, State.powerOnState, State.reset]
  elapse s n := FaultLaw.of_same (elapse_sameDrives n s)
  expiry s := FaultLaw.of_same (takeExpiry_sameDrives s)
  pulse s := FaultLaw.of_same (pulse_sameDrives s)
  port := fun _ _ ⟨_, _, _, ht⟩ h => ht ▸ h
  served _ _ := faultLaw_served
  fault _ k _ := faultLaw_faultEvent k
  event := runEvent_keeps (fun _ _ h => h) (fun _ _ => faultLaw_move) (fun _ h => h)

/-! ### The law of the shelter (R149, R151) -/

theorem ShelterLaw.of_parts (hd : t.engine.isDown = s.engine.isDown) (hc : t.enclosure.shelter = s.enclosure.shelter)
    (ho : t.enclosure.parkOwed = s.enclosure.parkOwed) (hsrc : t.shelterSources = s.shelterSources)
    (hs : s.ShelterLaw) : t.ShelterLaw := by
  unfold State.ShelterLaw at *
  rw [← isDown_iff] at *
  rwa [hc, ho, hsrc, hd]

theorem ShelterLaw.of_same (h : s.SameDrives t) (hs : s.ShelterLaw) : t.ShelterLaw :=
  ShelterLaw.of_parts (by rw [h.engine]) (by rw [h.enclosure]) (by rw [h.enclosure])
    (by simp [State.shelterSources, h.enclosure, h.inputs]) hs

theorem ShelterLaw.of_switches (h : s.Switches t) (hs : s.ShelterLaw) : t.ShelterLaw :=
  ShelterLaw.of_parts (by rw [h.before, h.after]) (by rw [h.enclosure]) (by rw [h.enclosure])
    (by simp [State.shelterSources, h.enclosure, h.inputs]) hs

@[simp] theorem shelterSources_of_parts (hr : t.enclosure.report = s.enclosure.report) (hi : t.inputs = s.inputs) :
    t.shelterSources = s.shelterSources := by
  simp [State.shelterSources, hr, hi]

theorem faultEvent_enclosure (k : FaultKind) (he : s.engine ≠ .stopped) :
    (s.faultEvent k).enclosure =
      { s.enclosure with parkOwed := s.enclosure.shelter || s.enclosure.parkOwed } := by
  unfold State.faultEvent
  split
  · contradiction
  · dsimp only
    split
    · rename_i h
      have h : s.enclosure.shelter = true := by simpa using h
      simp [h]
    · rename_i h
      have h : s.enclosure.shelter = false := by simpa using h
      have howed : (s.enclosure.shelter || s.enclosure.parkOwed) = s.enclosure.parkOwed := by simp [h]
      rw [howed]
      simp only [State.give_enclosure, State.raise_enclosure, State.withReason_enclosure,
        State.withNightFlag_enclosure, State.dropPulses_enclosure, State.enter_enclosure, State.zeroGuide_enclosure,
        State.endActive_enclosure]

theorem shelterLaw_faultEvent (k : FaultKind) (hs : s.ShelterLaw) : (s.faultEvent k).ShelterLaw := by
  by_cases he : s.engine = .stopped
  · rw [faultEvent_stopped k he]
    exact hs
  · obtain ⟨hsrc, howed⟩ := hs
    have hc := faultEvent_enclosure k he
    have hsame : (s.faultEvent k).shelterSources = s.shelterSources := by
      simp [State.shelterSources, hc]
    unfold State.ShelterLaw
    rw [hsame, hc, State.faultEvent_engine]
    cases hsh : s.enclosure.shelter <;> simp_all

/-- Forming the condition again brings the law about, where it held but for the sources (R149 to R152). -/
theorem shelterLaw_formShelter
    (howed : s.enclosure.parkOwed = true ↔
      s.enclosure.shelter = true ∧ (s.engine = .unset ∨ s.engine = .stopped)) : s.formShelter.ShelterLaw := by
  have hedge : s.shelterEdge.shelterSources = s.shelterSources := rfl
  rcases formShelter_cases s with ⟨hsrc, h⟩ | ⟨hsrc, h⟩ | ⟨hsrc, hoff, h⟩ <;> rw [h]
  · exact ⟨hsrc.symm, howed⟩
  · refine ⟨rfl, ?_⟩
    show false = true ↔ s.shelterSources = true ∧ _
    simp [hsrc]
  · have hno : s.enclosure.parkOwed = false := by
      rw [hoff] at howed
      simpa using howed
    have hlaw : s.shelterEdge.engine.isDown = false → s.shelterEdge.ShelterLaw := fun hd => by
      refine ⟨rfl, ?_⟩
      show s.enclosure.parkOwed = true ↔ s.shelterSources = true ∧ (s.engine = .unset ∨ s.engine = .stopped)
      have hup : s.engine.isDown = false := hd
      rw [← isDown_iff, hno, hup]
      simp
    rcases shelterRise_cases s.shelterEdge with ⟨ht, h⟩ | ⟨ht, h⟩ | ⟨ht, h⟩ | ⟨ht, h⟩ <;> rw [h]
    · have hd := isDown_of_isTarget ht
      exact ShelterLaw.of_switches (endActive_enterParking_switches _ hd) (hlaw hd)
    · have hd : s.shelterEdge.engine.isDown = false := by rcases ht with h | h | ⟨_, h⟩ <;> rw [h] <;> rfl
      exact ShelterLaw.of_switches (enterParking_switches hd) (hlaw hd)
    · exact hlaw (by rcases ht with h | h <;> rw [h] <;> rfl)
    · refine ⟨rfl, ?_⟩
      show true = true ↔ s.shelterSources = true ∧ (s.engine = .unset ∨ s.engine = .stopped)
      exact iff_of_true rfl ⟨hsrc, ht⟩

theorem judgeAlignment_shelter (s : State) :
    s.judgeAlignment.engine = s.engine ∧ s.judgeAlignment.enclosure.shelter = s.enclosure.shelter ∧
      s.judgeAlignment.enclosure.parkOwed = s.enclosure.parkOwed ∧
      s.judgeAlignment.shelterSources = s.shelterSources := by
  unfold State.judgeAlignment
  split
  · exact ⟨rfl, rfl, rfl, rfl⟩
  · rename_i r hr
    dsimp only
    split <;> refine ⟨rfl, rfl, rfl, ?_⟩ <;> simp [State.shelterSources, State.ranOut, hr]

theorem shelterLaw_judgeAlignment (hs : s.ShelterLaw) : s.judgeAlignment.ShelterLaw := by
  obtain ⟨he, hc, ho, hsrc⟩ := judgeAlignment_shelter s
  exact ShelterLaw.of_parts (by rw [he]) hc ho hsrc hs

theorem shelterLaw_move (h : Move s t) (hs : s.ShelterLaw) : t.ShelterLaw := by
  rcases move_drives h with h | h | ⟨i, f, hi, rfl⟩ | ⟨_, rfl⟩ | ⟨k, _, rfl⟩ | rfl
  · exact ShelterLaw.of_same h hs
  · exact ShelterLaw.of_switches h hs
  · exact ShelterLaw.of_parts (s := s) rfl rfl rfl (by cases i <;> first | rfl | contradiction) hs
  · exact shelterLaw_formShelter hs.2
  · exact shelterLaw_faultEvent k hs
  · exact shelterLaw_judgeAlignment hs

theorem shelterLaw_served {c : Instr} (h : Served c s t) (hs : s.ShelterLaw) : t.ShelterLaw := by
  rcases served_drives h with h | h | ⟨_, hu, ho, _, rfl⟩ | ⟨_, hu, ho, _, rfl⟩ | ⟨_, _, rfl⟩ | ⟨_, hst, rfl⟩ | ⟨_, rfl⟩
  · exact ShelterLaw.of_same h hs
  · exact ShelterLaw.of_switches h hs
  · refine ⟨by simpa [State.placed, State.shelterSources] using hs.1, ?_⟩
    simp [State.placed, ho]
  · refine ⟨by simpa [State.placed, State.shelterSources] using hs.1, ?_⟩
    simp [State.placed]
  · exact hs
  · exact ShelterLaw.of_parts (s := s) (by rw [hst]; rfl) rfl rfl rfl hs
  · exact shelterLaw_formShelter hs.2

theorem shelterLaw_kept : KeptBySteps State.ShelterLaw where
  queue _ _ h := h
  draw _ h := h
  power _ _ _ _ := by simp [State.ShelterLaw, State.powerOnState, State.reset, State.shelterSources,
    Enclosure.initial, Inputs.const]
  elapse s n := ShelterLaw.of_same (elapse_sameDrives n s)
  expiry s := ShelterLaw.of_same (takeExpiry_sameDrives s)
  pulse s := ShelterLaw.of_same (pulse_sameDrives s)
  port := fun _ _ ⟨_, _, _, ht⟩ h => ht ▸ h
  served _ _ := shelterLaw_served
  fault _ k _ := shelterLaw_faultEvent k
  event := runEvent_keeps (fun _ _ h => h) (fun _ _ => shelterLaw_move) (fun _ h => h)

end Sys2Proof.Machine

/-! PROOFS. The law of a chain (R43): when a chain with one more segment is lawful, the checks of SEGMENT_APPEND
(R51, R52), and the releases of R47 and R48, which leave a chain lawful. -/

namespace Sys2Proof.Machine

/-! ### One segment more -/

/-- A segment within the ranges of R41: aligned, not empty, and ending by the largest mount time. -/
def segmentOk (g : Segment) : Prop := segStart g % 1000 = 0 ∧ 1 ≤ g.len.toNat ∧ segEnd g ≤ maxTime

/-- A segment may stand after another (R43): it starts later, with no gap, and ends no earlier. -/
def follows (p g : Segment) : Prop := segStart p < segStart g ∧ segStart g ≤ segEnd p ∧ segEnd p ≤ segEnd g

theorem chainLawful_singleton (g : Segment) : chainLawful [g] ↔ segmentOk g := by
  simp [chainLawful, segmentOk]

theorem chainLawful_cons_cons (g h : Segment) (rest : List Segment) :
    chainLawful (g :: h :: rest) ↔ segmentOk g ∧ follows g h ∧ chainLawful (h :: rest) := Iff.rfl

theorem chainLawful_tail {g : Segment} {rest : List Segment} (h : chainLawful (g :: rest)) : chainLawful rest := by
  obtain ⟨_, _, htail⟩ := h
  exact htail

/-- A chain with one segment more is lawful exactly when the chain is, the segment lies within its ranges and it may
follow the last one (R43). -/
theorem chainLawful_append_singleton (chain : List Segment) (g : Segment) :
    chainLawful (chain ++ [g]) ↔
      chainLawful chain ∧ segmentOk g ∧ ∀ p, chain.getLast? = some p → follows p g := by
  induction chain with
  | nil => simp [chainLawful_singleton, chainLawful]
  | cons a rest ih =>
    cases rest with
    | nil => simp [chainLawful_cons_cons, chainLawful_singleton]; tauto
    | cons b rest =>
      rw [List.cons_append, List.cons_append, chainLawful_cons_cons, ← List.cons_append, ih, chainLawful_cons_cons,
        List.getLast?_cons_cons]
      tauto

theorem chainLawful_of_append {chain segs : List Segment} (h : chainLawful (chain ++ segs)) : chainLawful chain := by
  induction segs using List.reverseRecOn with
  | nil => simpa using h
  | append_singleton segs g ih =>
    rw [← List.append_assoc, chainLawful_append_singleton] at h
    exact ih h.1

/-! ### The checks of SEGMENT_APPEND (R51, R52) -/

/-- The ORDER check of a segment against its predecessor fails. -/
theorem orderFails_iff (prev : Option Segment) (g : Segment) :
    prev.any (fun p =>
        decide (segStart g ≤ segStart p) || decide (segEnd p < segStart g) || decide (segEnd g < segEnd p)) = true ↔
      ¬ ∀ p, prev = some p → follows p g := by
  cases prev with
  | none => simp
  | some p => simp [follows]; omega

/-- The four checks in their order, each outcome with what it means. -/
theorem segmentFault_spec (active : Bool) (t : Nat) (prev : Option Segment) (g : Segment) :
    let aligned := segStart g % 1000 = 0
    let fits := g.len.toNat ≠ 0 ∧ segEnd g ≤ 281474976710655
    let ordered := ∀ p, prev = some p → follows p g
    ¬ aligned ∧ segmentFault active t prev g = some .align ∨
      aligned ∧ ¬ fits ∧ segmentFault active t prev g = some .badValue ∨
      aligned ∧ fits ∧ ¬ ordered ∧ segmentFault active t prev g = some .order ∨
      aligned ∧ fits ∧ ordered ∧ (active = true ∧ segStart g ≤ t) ∧ segmentFault active t prev g = some .late ∨
      aligned ∧ fits ∧ ordered ∧ (active = true → t < segStart g) ∧ segmentFault active t prev g = none := by
  intro aligned fits ordered
  unfold segmentFault
  by_cases ha : aligned
  swap
  · exact .inl ⟨ha, if_pos ha⟩
  rw [if_neg (not_not.2 ha)]
  by_cases hf : fits
  swap
  · refine .inr (.inl ⟨ha, hf, if_pos ?_⟩)
    simp only [fits, maxTime] at hf ⊢
    omega
  rw [if_neg (by simp only [fits, maxTime] at hf ⊢; omega)]
  by_cases ho : ordered
  swap
  · exact .inr (.inr (.inl ⟨ha, hf, ho, if_pos ((orderFails_iff prev g).2 ho)⟩))
  rw [if_neg (mt (orderFails_iff prev g).1 (not_not.2 ho))]
  by_cases hl : active = true ∧ segStart g ≤ t
  · exact .inr (.inr (.inr (.inl ⟨ha, hf, ho, hl, if_pos hl⟩)))
  · exact .inr (.inr (.inr (.inr ⟨ha, hf, ho, fun h => Nat.lt_of_not_le fun hle => hl ⟨h, hle⟩, if_neg hl⟩)))

theorem segmentOk_iff (g : Segment) :
    segmentOk g ↔ segStart g % 1000 = 0 ∧ g.len.toNat ≠ 0 ∧ segEnd g ≤ 281474976710655 := by
  simp only [segmentOk, maxTime]
  omega

theorem segmentFault_none_iff (active : Bool) (t : Nat) (prev : Option Segment) (g : Segment) :
    segmentFault active t prev g = none ↔
      segmentOk g ∧ (∀ p, prev = some p → follows p g) ∧ (active = true → t < segStart g) := by
  rw [segmentOk_iff]
  rcases segmentFault_spec active t prev g with ⟨ha, h⟩ | ⟨_, hf, h⟩ | ⟨_, _, ho, h⟩ | ⟨_, _, _, ⟨hact, hle⟩, h⟩ |
    ⟨ha, hf, ho, hl, h⟩ <;> rw [h]
  · exact iff_of_false (by simp) fun hc => ha hc.1.1
  · exact iff_of_false (by simp) fun hc => hf hc.1.2
  · exact iff_of_false (by simp) fun hc => ho hc.2.1
  · exact iff_of_false (by simp) fun hc => absurd (hc.2.2 hact) (Nat.not_lt.2 hle)
  · exact iff_of_true rfl ⟨⟨ha, hf⟩, ho, hl⟩

/-- Segments pass exactly when the chain with them stays lawful and, for an ACTIVE entry, all start later than now. -/
theorem segmentsFault_none_iff (active : Bool) (t place : Nat) (chain segs : List Segment)
    (hchain : chainLawful chain) :
    segmentsFault active t place chain.getLast? segs = none ↔
      chainLawful (chain ++ segs) ∧ (active = true → ∀ g ∈ segs, t < segStart g) := by
  induction segs generalizing chain place with
  | nil => simp [segmentsFault, hchain]
  | cons g rest ih =>
    have hlast : some g = (chain ++ [g]).getLast? := by simp
    have happend : chain ++ g :: rest = chain ++ [g] ++ rest := by simp
    have hnone := segmentFault_none_iff active t chain.getLast? g
    unfold segmentsFault
    split
    · rename_i st hst
      refine iff_of_false (by simp) fun ⟨hlaw, hlate⟩ => ?_
      rw [happend] at hlaw
      obtain ⟨_, hok, hfol⟩ := (chainLawful_append_singleton chain g).1 (chainLawful_of_append hlaw)
      rw [hnone.2 ⟨hok, hfol, fun h => hlate h g (by simp)⟩] at hst
      cases hst
    · rename_i hst
      obtain ⟨hok, hfol, hlate⟩ := hnone.1 hst
      rw [hlast, ih _ _ ((chainLawful_append_singleton chain g).2 ⟨hchain, hok, hfol⟩), happend]
      simp only [List.mem_cons, forall_eq_or_imp]
      tauto

/-- The first segment that fails: those before it pass, and it fails after them. -/
theorem segmentsFault_some {active : Bool} {t place place' : Nat} {prev : Option Segment} {segs : List Segment}
    {st : Status} (h : segmentsFault active t place prev segs = some (st, place')) :
    ∃ before g after, segs = before ++ g :: after ∧ place' = place + before.length ∧
      segmentsFault active t place prev before = none ∧
      segmentFault active t ((prev.toList ++ before).getLast?) g = some st := by
  induction segs generalizing place prev with
  | nil => cases h
  | cons g rest ih =>
    unfold segmentsFault at h
    split at h
    · rename_i st' hst
      cases h
      exact ⟨[], g, rest, rfl, rfl, rfl, by cases prev <;> simpa using hst⟩
    · rename_i hst
      obtain ⟨before, g', after, rfl, rfl, hpass, hfault⟩ := ih h
      refine ⟨g :: before, g', after, rfl, by simp only [List.length_cons]; omega, ?_, ?_⟩
      · unfold segmentsFault
        rw [hst]
        exact hpass
      · have hlast : (prev.toList ++ g :: before).getLast? = ((some g).toList ++ before).getLast? := by
          cases prev <;> simp
        rw [hlast]
        exact hfault

theorem getLast?_toList_append (chain before : List Segment) :
    (chain.getLast?.toList ++ before).getLast? = (chain ++ before).getLast? := by
  cases before with
  | nil => cases h : chain.getLast? <;> simp [h]
  | cons g rest => rw [List.getLast?_append_of_ne_nil _ (by simp), List.getLast?_append_of_ne_nil _ (by simp)]

/-- Settles O18: the segments pass by the law of the chain; where one fails, the four checks name which. -/
theorem segmentsChecked : Obligations.SegmentsChecked := by
  intro active t chain segs hchain
  refine ⟨segmentsFault_none_iff active t 1 chain segs hchain, fun st place h => ?_⟩
  obtain ⟨before, g, after, hsegs, hplace, hpass, hfault⟩ := segmentsFault_some h
  rw [getLast?_toList_append] at hfault
  have hbefore := ((segmentsFault_none_iff active t 1 chain before hchain).1 hpass).1
  refine ⟨before, g, after, hsegs, by omega, hpass, ?_⟩
  intro aligned fits ordered
  have hlaw : chainLawful (chain ++ before ++ [g]) ↔ aligned ∧ fits ∧ ordered := by
    rw [chainLawful_append_singleton, segmentOk_iff, and_iff_right hbefore]
    exact and_assoc
  have hspec :
      ¬ aligned ∧ some st = some .align ∨ aligned ∧ ¬ fits ∧ some st = some .badValue ∨
        aligned ∧ fits ∧ ¬ ordered ∧ some st = some .order ∨
        aligned ∧ fits ∧ ordered ∧ (active = true ∧ segStart g ≤ t) ∧ some st = some .late ∨
        aligned ∧ fits ∧ ordered ∧ (active = true → t < segStart g) ∧ some st = none :=
    hfault ▸ segmentFault_spec active t (chain ++ before).getLast? g
  clear_value aligned fits ordered
  rcases hspec with ⟨ha, hs⟩ | ⟨ha, hf, hs⟩ | ⟨ha, hf, ho, hs⟩ | ⟨ha, hf, ho, hl, hs⟩ | ⟨_, _, _, _, hs⟩ <;>
    cases hs
  · exact ⟨by simpa using ha, by simp [ha], by simp [ha], by simp [ha], hlaw, by simp⟩
  · exact ⟨by simpa using ha, by simp [ha, hf], by simp [hf], by simp [hf], hlaw, by simp⟩
  · exact ⟨by simpa using ha, by simp [hf], by simp [ha, hf, ho], by simp [ho], hlaw, by simp⟩
  · exact ⟨by simpa using ha, by simp [hf], by simp [ho], by simp [ha, hf, ho, hl], hlaw, by simp⟩

/-! ### Releases (R47, R48) -/

theorem chainLawful_dropPassed (t : Nat) {chain : List Segment} (h : chainLawful chain) :
    chainLawful (dropPassed t chain) := by
  induction chain with
  | nil => exact h
  | cons g rest ih =>
    unfold dropPassed
    split
    · exact ih (chainLawful_tail h)
    · exact h

/-- The ends of a lawful chain never fall (R43). -/
theorem segEnd_le_of_mem {g : Segment} {rest : List Segment} (h : chainLawful (g :: rest)) :
    ∀ x ∈ rest, segEnd g ≤ segEnd x := by
  induction rest generalizing g with
  | nil => simp
  | cons a rest ih =>
    obtain ⟨_, ⟨_, _, hle⟩, htail⟩ := (chainLawful_cons_cons g a rest).1 h
    intro x hx
    rcases List.mem_cons.1 hx with rfl | hx
    · exact hle
    · exact hle.trans (ih htail x hx)

theorem dropStale_of_none {t : Nat} {chain : List Segment} (h : ∀ x ∈ chain, t < segEnd x ∧ begun t x = false) :
    dropStale t chain = chain := by
  induction chain with
  | nil => rfl
  | cons g rest ih =>
    have hrest : ∀ x ∈ rest, t < segEnd x ∧ begun t x = false := fun x hx => h x (List.mem_cons_of_mem _ hx)
    have hany : rest.any (begun t) = false := by simpa using fun x hx => (hrest x hx).2
    have hg := (h g (by simp)).1
    rw [dropStale, if_neg (by rw [hany]; simp; omega), ih hrest]

/-- The stale segments of a lawful chain stand at its head (R48), so what is left is lawful. -/
theorem chainLawful_dropStale (t : Nat) {chain : List Segment} (h : chainLawful chain) :
    chainLawful (dropStale t chain) := by
  induction chain with
  | nil => exact h
  | cons g rest ih =>
    unfold dropStale
    split
    · exact ih (chainLawful_tail h)
    · rename_i hfresh
      obtain ⟨hend, hany⟩ := not_or.1 hfresh
      have hany : ∀ x ∈ rest, begun t x = false := by simpa using hany
      rw [dropStale_of_none fun x hx => ⟨(Nat.lt_of_not_le hend).trans_le (segEnd_le_of_mem h x hx), hany x hx⟩]
      exact h

end Sys2Proof.Machine

/-! PROOFS. The entries and the segment pool (R18, R20, R25, R41 to R43): every change of them is an edit of one entry,
a new entry, or entries taken out. -/

namespace Sys2Proof.Machine

variable {s t u : State}

/-! ### Edits of one entry -/

/-- The entries with the free count of the pool. -/
abbrev Pool := List Entry × Nat

/-- The entries and the free count of a state. -/
def State.pool (s : State) : Pool := (s.night.entries, s.free)

/-- How one entry may change: it keeps its record, it is not ENDED before, its chain stays or is released in part or
whole, whole where it ends, and with `ordered` it does not go back (R25, R26). -/
structure EntryEdit (ordered : Prop) (e e' : Entry) : Prop where
  record : e'.record = e.record
  open_ : e.isEnded = false
  chain : e'.chain = e.chain ∨ e'.chain = [] ∨ (∃ t, e'.chain = dropPassed t e.chain) ∨ ∃ t, e'.chain = dropStale t e.chain
  ended : e'.isEnded = true → e'.chain = []
  rank : ordered → e.status.rank ≤ e'.status.rank

/-- The first entry that passes a test is edited, and what its chain loses returns to the pool (R42). -/
structure PoolEdit (ordered : Prop) (x y : Pool) (p : Entry → Bool) (f : Entry → Entry) : Prop where
  entries : y.1 = updateFirst p f x.1
  found : ∀ e, x.1.find? p = some e → EntryEdit ordered e (f e) ∧ y.2 + (f e).chain.length = x.2 + e.chain.length
  missed : x.1.find? p = none → y.2 = x.2

/-- Edits one after another. -/
abbrev PoolEdits (ordered : Prop) : Pool → Pool → Prop :=
  Relation.ReflTransGen fun x y => ∃ p f, PoolEdit ordered x y p f

theorem updateFirst_of_find?_none {α : Type} {p : α → Bool} {f : α → α} {l : List α} (h : l.find? p = none) :
    updateFirst p f l = l := by
  induction l with
  | nil => rfl
  | cons a rest ih =>
    rw [List.find?_cons] at h
    split at h
    · cases h
    · rename_i ha
      rw [updateFirst, ha, ih h]
      rfl

/-- Where an element passes a test, the list is those before the first one, it, and those after it. -/
theorem updateFirst_of_find?_some {α : Type} {p : α → Bool} {l : List α} {a : α} (h : l.find? p = some a) :
    ∃ before after, l = before ++ a :: after ∧ (∀ x ∈ before, p x = false) ∧ p a = true ∧
      ∀ f, updateFirst p f l = before ++ f a :: after := by
  induction l with
  | nil => cases h
  | cons b rest ih =>
    rw [List.find?_cons] at h
    split at h
    · rename_i hb
      cases h
      exact ⟨[], rest, rfl, by simp, hb, fun f => by simp [updateFirst, hb]⟩
    · rename_i hb
      obtain ⟨before, after, rfl, hbefore, ha, hf⟩ := ih h
      refine ⟨b :: before, after, rfl, ?_, ha, fun f => ?_⟩
      · simpa [hb] using hbefore
      · rw [updateFirst, hb, hf f]
        rfl

theorem map_record_updateFirst {p : Entry → Bool} {f : Entry → Entry} {l : List Entry}
    (h : ∀ e, l.find? p = some e → (f e).record = e.record) :
    (updateFirst p f l).map (fun e => e.record.id) = l.map fun e => e.record.id := by
  rcases hfind : l.find? p with _ | e
  · rw [updateFirst_of_find?_none hfind]
  · obtain ⟨before, after, hl, _, _, hf⟩ := updateFirst_of_find?_some hfind
    rw [hf f, hl]
    simp [h e hfind]

theorem chainTotal_append (x y : List Entry) : chainTotal (x ++ y) = chainTotal x + chainTotal y := by
  induction x with
  | nil => simp [chainTotal]
  | cons e rest ih => simp only [List.cons_append, chainTotal, ih]; omega

section
variable {ordered : Prop} {x y : Pool} {p : Entry → Bool} {f : Entry → Entry}

theorem PoolEdit.ids (h : PoolEdit ordered x y p f) :
    y.1.map (fun e => e.record.id) = x.1.map fun e => e.record.id := by
  rw [h.entries, map_record_updateFirst fun e he => (h.found e he).1.record]

theorem PoolEdit.length (h : PoolEdit ordered x y p f) : y.1.length = x.1.length := by
  simpa using congrArg List.length h.ids

theorem PoolEdit.total (h : PoolEdit ordered x y p f) : y.2 + chainTotal y.1 = x.2 + chainTotal x.1 := by
  rw [h.entries]
  rcases hfind : x.1.find? p with _ | e
  · rw [updateFirst_of_find?_none hfind, h.missed hfind]
  · obtain ⟨before, after, hl, _, _, hf⟩ := updateFirst_of_find?_some hfind
    have hlen := (h.found e hfind).2
    rw [hf f, hl, chainTotal_append, chainTotal_append]
    simp only [chainTotal]
    omega

/-- Each entry after an edit is one before it, or the edited one. -/
theorem PoolEdit.mem (h : PoolEdit ordered x y p f) {e' : Entry} (he' : e' ∈ y.1) :
    e' ∈ x.1 ∨ ∃ e ∈ x.1, EntryEdit ordered e e' := by
  rw [h.entries] at he'
  rcases hfind : x.1.find? p with _ | e
  · rw [updateFirst_of_find?_none hfind] at he'
    exact .inl he'
  · obtain ⟨before, after, hl, _, _, hf⟩ := updateFirst_of_find?_some hfind
    rw [hf f] at he'
    rw [hl]
    rcases List.mem_append.1 he' with h' | h'
    · exact .inl (by simp [h'])
    · rcases List.mem_cons.1 h' with rfl | h'
      · exact .inr ⟨e, by simp, (h.found e hfind).1⟩
      · exact .inl (by simp [h'])

end

/-! ### The laws, of entries and a free count -/

/-- The law of the list (R18). -/
def listLaw (x : Pool) : Prop := x.1.length ≤ 64 ∧ (x.1.map fun e => e.record.id).Nodup

/-- The law of the pool (R42). -/
def poolLaw (x : Pool) : Prop := x.2 + chainTotal x.1 = 512 ∧ ∀ e ∈ x.1, e.isEnded = true → e.chain = []

/-- The law of the chains (R20, R43). -/
def chainLaw (x : Pool) : Prop := ∀ e ∈ x.1, chainLawful e.chain ∧ (e.record.kind ≠ .track → e.chain = [])

variable {ordered : Prop} {x y : Pool}

theorem dropPassed_nil (t : Nat) : dropPassed t [] = [] := rfl

theorem dropStale_nil (t : Nat) : dropStale t [] = [] := rfl

theorem EntryEdit.chain_empty {e e' : Entry} (h : EntryEdit ordered e e') (he : e.chain = []) : e'.chain = [] := by
  rcases h.chain with hc | hc | ⟨t, hc⟩ | ⟨t, hc⟩ <;> rw [hc]
  · exact he
  · rw [he, dropPassed_nil]
  · rw [he, dropStale_nil]

theorem EntryEdit.chain_lawful {e e' : Entry} (h : EntryEdit ordered e e') (he : chainLawful e.chain) :
    chainLawful e'.chain := by
  rcases h.chain with hc | hc | ⟨t, hc⟩ | ⟨t, hc⟩ <;> rw [hc]
  · exact he
  · trivial
  · exact chainLawful_dropPassed t he
  · exact chainLawful_dropStale t he

/-- What one edit keeps, edits one after another keep. -/
theorem PoolEdits.keep {P : Pool → Prop} (hP : ∀ x y p f, PoolEdit ordered x y p f → P x → P y)
    (h : PoolEdits ordered x y) (hx : P x) : P y := by
  induction h with
  | refl => exact hx
  | tail _ hedit ih =>
    obtain ⟨p, f, he⟩ := hedit
    exact hP _ _ p f he ih

theorem listLaw_edits (h : PoolEdits ordered x y) (hx : listLaw x) : listLaw y := by
  refine PoolEdits.keep (P := listLaw) (fun x y p f he ⟨hlen, hnodup⟩ => ?_) h hx
  exact ⟨he.length ▸ hlen, he.ids ▸ hnodup⟩

theorem poolLaw_edits (h : PoolEdits ordered x y) (hx : poolLaw x) : poolLaw y := by
  refine PoolEdits.keep (P := poolLaw) (fun x y p f he ⟨htotal, hended⟩ => ⟨he.total ▸ htotal, fun e' he' h' => ?_⟩) h hx
  rcases he.mem he' with hold | ⟨e, _, hedit⟩
  · exact hended e' hold h'
  · exact hedit.ended h'

theorem chainLaw_edits (h : PoolEdits ordered x y) (hx : chainLaw x) : chainLaw y := by
  refine PoolEdits.keep (P := chainLaw) (fun x y p f he hlaw e' he' => ?_) h hx
  rcases he.mem he' with hold | ⟨e, hmem, hedit⟩
  · exact hlaw e' hold
  · obtain ⟨hl, hk⟩ := hlaw e hmem
    exact ⟨hedit.chain_lawful hl, fun h' => hedit.chain_empty (hk (hedit.record ▸ h'))⟩

/-! ### The edits that the operations make -/

theorem PoolEdit.edits {p : Entry → Bool} {f : Entry → Entry} (h : PoolEdit ordered x y p f) :
    PoolEdits ordered x y := .single ⟨p, f, h⟩

theorem edits_of_eq (h : y = x) : PoolEdits ordered x y := h ▸ .refl

theorem isEnded_of_isActive {e : Entry} (h : e.isActive = true) : e.isEnded = false := by
  unfold Entry.isActive at h
  unfold Entry.isEnded
  split at h <;> simp_all

theorem isEnded_of_isPending {e : Entry} (h : e.isPending = true) : e.isEnded = false := by
  unfold Entry.isPending at h
  unfold Entry.isEnded
  split at h <;> simp_all

theorem rank_of_isPending {e : Entry} (h : e.isPending = true) : e.status.rank = 0 := by
  unfold Entry.isPending at h
  split at h <;> simp_all [EntryStatus.rank]

theorem rank_le_ended (e : Entry) : e.status.rank ≤ 5 := by
  rcases e.status with _ | p | o
  · exact Nat.zero_le _
  · cases p <;> decide
  · exact Nat.le_refl _

theorem length_dropPassed_le (t : Nat) (chain : List Segment) : (dropPassed t chain).length ≤ chain.length := by
  induction chain with
  | nil => exact Nat.le_refl _
  | cons g rest ih =>
    unfold dropPassed
    split
    · exact ih.trans (Nat.le_succ _)
    · exact Nat.le_refl _

theorem length_dropStale_le (t : Nat) (chain : List Segment) : (dropStale t chain).length ≤ chain.length := by
  induction chain with
  | nil => exact Nat.le_refl _
  | cons g rest ih =>
    unfold dropStale
    split
    · exact ih.trans (Nat.le_succ _)
    · exact Nat.succ_le_succ ih

/-- A change of the ACTIVE entry that keeps its record and chain, leaves it ACTIVE, and does not take it back. -/
theorem onActive_edits {f : Entry → Entry} (hrecord : ∀ e, (f e).record = e.record)
    (hchain : ∀ e, (f e).chain = e.chain) (hactive : ∀ e, e.isActive = true → (f e).isActive = true)
    (hrank : ordered → ∀ e, s.activeEntry = some e → e.status.rank ≤ (f e).status.rank) :
    PoolEdits ordered s.pool (s.onActive f).pool := by
  refine PoolEdit.edits (p := Entry.isActive) (f := f) ⟨rfl, fun e he => ⟨⟨hrecord e, ?_, .inl (hchain e), ?_, ?_⟩, ?_⟩, fun _ => rfl⟩
  · exact isEnded_of_isActive (List.find?_some he)
  · intro h
    rw [isEnded_of_isActive (hactive e (List.find?_some he))] at h
    cases h
  · exact fun h => hrank h e he
  · show s.free + (f e).chain.length = _
    rw [hchain]
    rfl

theorem onTally_edits (g : Tally → Tally) (s : State) : PoolEdits ordered s.pool (s.onActive (Entry.onTally g)).pool :=
  onActive_edits (fun _ => rfl) (fun _ => rfl) (fun _ h => h) fun _ _ _ => Nat.le_refl _

theorem discardMailbox_edits (s : State) : PoolEdits ordered s.pool s.discardMailbox.pool := onTally_edits _ s

/-- The end of the ACTIVE entry: its discards counted, and it ends with its chain released (R28, R49). -/
theorem endActive_edits (o : EndOutcome) (s : State) : PoolEdits ordered s.pool (s.endActive o).pool := by
  rcases he : s.activeEntry with _ | e
  · rw [State.endActive_none s o he]
  have hpool : (s.endActive o).pool =
      (updateFirst Entry.isActive (Entry.finish o s.time.mountTime) s.discardMailbox.night.entries,
        s.free + e.chain.length) := by
    unfold State.endActive State.pool
    rw [he]
    simp only [State.setOnTarget_night, State.setOnTarget_free]
    rfl
  refine (discardMailbox_edits s).tail ⟨Entry.isActive, Entry.finish o s.time.mountTime, ?_⟩
  rw [hpool]
  have hfind : s.discardMailbox.night.entries.find? Entry.isActive =
      some (e.onTally fun y => { y with guideDiscarded := count32 y.guideDiscarded s.guide.held }) := by
    show (updateFirst Entry.isActive _ s.night.entries).find? Entry.isActive = _
    rw [find?_updateFirst (by intro x hx; exact hx)]
    rw [show s.night.entries.find? Entry.isActive = some e from he]
    rfl
  refine ⟨rfl, fun e' he' => ?_, fun h => ?_⟩
  · have he' : some _ = some e' := hfind.symm.trans he'
    cases he'
    refine ⟨⟨rfl, isEnded_of_isActive (List.find?_some hfind), .inr (.inl rfl), fun _ => rfl, fun _ => rank_le_ended _⟩, ?_⟩
    show s.free + e.chain.length + 0 = s.free + e.chain.length
    rfl
  · have h : some _ = none := hfind.symm.trans h
    cases h

theorem endPending_edits (o : EndOutcome) {e : Entry} (he : s.firstPending = some e) :
    PoolEdits ordered s.pool (s.endPending o e).pool := by
  refine PoolEdit.edits (p := Entry.isPending) (f := Entry.finish o s.time.mountTime) ⟨rfl, fun e' he' => ?_, fun h => ?_⟩
  · cases he.symm.trans he'
    exact ⟨⟨rfl, isEnded_of_isPending (List.find?_some he), .inr (.inl rfl), fun _ => rfl, fun _ => rank_le_ended _⟩, rfl⟩
  · cases he.symm.trans h

theorem releaseStale_edits {e : Entry} (he : s.firstPending = some e) :
    PoolEdits ordered s.pool (s.releaseStale e).pool := by
  refine PoolEdit.edits (p := Entry.isPending) (f := Entry.releaseStale s.time.mountTime)
    ⟨rfl, fun e' he' => ?_, fun h => ?_⟩
  · cases he.symm.trans he'
    have hopen := isEnded_of_isPending (List.find?_some he)
    refine ⟨⟨rfl, hopen, .inr (.inr (.inr ⟨_, rfl⟩)), fun h => ?_, fun _ => Nat.le_refl _⟩, ?_⟩
    · rw [show (e.releaseStale s.time.mountTime).isEnded = e.isEnded from rfl, hopen] at h
      cases h
    · have hle := length_dropStale_le s.time.mountTime e.chain
      show s.free + (e.chain.length - (dropStale s.time.mountTime e.chain).length) +
        (dropStale s.time.mountTime e.chain).length = s.free + e.chain.length
      omega
  · cases he.symm.trans h

theorem start_edits {e : Entry} (k az : Int) (keep : Bool) (he : s.firstPending = some e) :
    PoolEdits ordered s.pool (s.start e k az keep).pool := by
  have hpool : (s.start e k az keep).pool =
      (updateFirst Entry.isPending (Entry.activate s.time.mountTime k) s.night.entries, s.free) := by
    cases keep <;> rfl
  rw [hpool]
  refine PoolEdit.edits (p := Entry.isPending) (f := Entry.activate s.time.mountTime k) ⟨rfl, fun e' he' => ?_, fun _ => rfl⟩
  cases he.symm.trans he'
  have hp := List.find?_some he
  refine ⟨⟨rfl, isEnded_of_isPending hp, .inl rfl, fun h => ?_, fun _ => ?_⟩, rfl⟩
  · cases h
  · rw [rank_of_isPending hp]
    exact Nat.zero_le _

theorem wait_pool (r : WaitReason) (b : Bool) (s : State) : (s.wait r b).pool = s.pool := by
  unfold State.wait
  dsimp only
  split <;> split <;> rfl

theorem select_edits (b : Bool) (s : State) : PoolEdits ordered s.pool (s.select b).pool := by
  obtain ⟨s', hs', h⟩ := State.scan_cases (P := fun x => PoolEdits ordered s.pool x.pool) b
    (fun _ _ _ h he => h.trans (endPending_edits _ he)) (fun _ _ h he => h.trans (releaseStale_edits he))
    (s.night.entries.length + 1) s .refl
  unfold State.select
  rcases h with ⟨r, h⟩ | ⟨e, k, az, he, h⟩ <;> rw [h]
  · rwa [wait_pool]
  · exact hs'.trans (start_edits k az _ he)

theorem endAndSelect_edits (o : EndOutcome) (s : State) : PoolEdits ordered s.pool (s.endAndSelect o).pool :=
  (endActive_edits o s).trans (select_edits true _)

theorem aim_edits {a : State × Axes Int × Axes Int} (h : s.aim = some a) : PoolEdits ordered s.pool a.1.pool := by
  rcases s.aim_cases h with h | ⟨e, g, he, _, h⟩ <;> rw [h]
  refine PoolEdit.edits (p := Entry.isActive) (f := fun e => { e with chain := dropPassed s.time.mountTime e.chain })
    ⟨rfl, fun e' he' => ?_, fun h => ?_⟩
  · cases he.symm.trans he'
    have hopen := isEnded_of_isActive (List.find?_some he)
    refine ⟨⟨rfl, hopen, .inr (.inr (.inl ⟨_, rfl⟩)), fun h => ?_, fun _ => Nat.le_refl _⟩, ?_⟩
    · rw [show Entry.isEnded { e with chain := dropPassed s.time.mountTime e.chain } = e.isEnded from rfl, hopen] at h
      cases h
    · have hle := length_dropPassed_le s.time.mountTime e.chain
      show s.free + (e.chain.length - (dropPassed s.time.mountTime e.chain).length) +
        (dropPassed s.time.mountTime e.chain).length = s.free + e.chain.length
      omega
  · cases he.symm.trans h

theorem takeMailbox_edits (s : State) : PoolEdits ordered s.pool s.takeMailbox.pool := by
  unfold State.takeMailbox
  split
  · exact .refl
  · exact onTally_edits _ s

theorem countGuide_pool (s : State) : s.countGuide.pool = s.pool := by
  unfold State.countGuide
  split
  · split <;> rfl
  all_goals rfl

theorem setOnTarget_pool (b : Bool) (s : State) : (s.setOnTarget b).pool = s.pool := by
  simp [State.pool]

theorem evaluateOnTarget_edits (runout : Bool) (s : State) :
    PoolEdits ordered s.pool (s.evaluateOnTarget runout).pool := by
  unfold State.evaluateOnTarget
  dsimp only
  rw [← setOnTarget_pool (s.onTargetNow runout) s]
  split
  · exact onTally_edits _ _
  · exact .refl

theorem judgeAlignment_pool (s : State) : s.judgeAlignment.pool = s.pool := by
  unfold State.judgeAlignment
  split
  · rfl
  · dsimp only
    split <;> rfl

theorem stopTarget_edits (o : EndOutcome) (dest : StopDest) (s : State) :
    PoolEdits ordered s.pool (s.stopTarget o dest).pool := by
  have hpool : (s.stopTarget o dest).pool = (s.endActive o).pool := by simp [State.pool, State.stopTarget]
  rw [hpool]
  exact endActive_edits o s

theorem endActive_enterParking_edits (o : EndOutcome) (s : State) :
    PoolEdits ordered s.pool (s.endActive o).enterParking.pool := by
  have hpool : (s.endActive o).enterParking.pool = (s.endActive o).pool := by
    simp [State.pool, State.enterParking, State.readyToPark]
  rw [hpool]
  exact endActive_edits o s

theorem faultEvent_edits (k : FaultKind) (s : State) : PoolEdits ordered s.pool (s.faultEvent k).pool := by
  unfold State.faultEvent
  split
  · split <;> exact .refl
  · dsimp only
    have hend := endActive_edits (ordered := ordered) .fault
      { s with faults := { s.faults with first := some ⟨k, s.time.mountTime, s.engine.state, s.activeId⟩ } }
    split <;> simpa [State.pool] using hend

theorem formShelter_edits (s : State) : PoolEdits ordered s.pool s.formShelter.pool :=
  formShelter_keeps (P := fun x => PoolEdits ordered s.pool x.pool) .refl (fun _ h => h) (fun _ _ h => h)
    (fun _ _ h => h.trans (endActive_enterParking_edits _ _)) (fun _ _ h => h)

/-- In a lawful cycle the ACTIVE entry's phase is the engine's (R26). -/
theorem rank_of_activeEntry {e : Entry} {p : Phase} (hcycle : s.CycleLaw) (he : s.activeEntry = some e)
    (hp : s.engine.phase = some p) : e.status = .active p := by
  obtain ⟨_, hphase, _⟩ := hcycle
  have hactive := List.find?_some he
  unfold Entry.isActive at hactive
  split at hactive <;> try cases hactive
  rename_i q hq
  have := hphase e (List.mem_of_find?_eq_some he) q hq
  rw [hp] at this
  cases this
  exact hq

/-- Every move edits the entries and the pool; in a lawful cycle no entry goes back. -/
theorem move_edits (h : Move s t) (hcycle : ordered → s.CycleLaw) : PoolEdits ordered s.pool t.pool := by
  cases h with
  | shelter f => exact formShelter_edits { s with inputs := s.inputs.set .shelter f }
  | fault k => exact faultEvent_edits k s
  | judge => exact edits_of_eq (judgeAlignment_pool s)
  | aim h => exact aim_edits h
  | takeMailbox => exact takeMailbox_edits s
  | countGuide => exact edits_of_eq (countGuide_pool s)
  | step => exact onTally_edits _ s
  | onTarget runout => exact evaluateOnTarget_edits runout s
  | capture h =>
    have hedit := onActive_edits (ordered := ordered) (s := s)
      (f := fun e => { e.withPhase .settling with results := { e.results with capturedAt := some s.time.mountTime } })
      (fun _ => rfl) (fun _ => rfl) (fun _ _ => rfl) (fun ho e he => by
        rw [rank_of_activeEntry (p := .slewing) (hcycle ho) he (by rw [h]; rfl)]
        exact Nat.le_of_ble_eq_true rfl)
    unfold State.capture
    dsimp only
    split <;> exact hedit
  | settled h =>
    exact onActive_edits (s := s)
      (f := fun e => { e.withPhase .tracking with results := { e.results with trackingFrom := some s.time.mountTime } })
      (fun _ => rfl) (fun _ => rfl) (fun _ _ => rfl) (fun ho e he => by
        rw [rank_of_activeEntry (p := .settling) (hcycle ho) he (by rw [h]; rfl)]
        exact Nat.le_of_ble_eq_true rfl)
  | holding h =>
    exact onActive_edits (s := s) (f := Entry.withPhase .holding)
      (fun _ => rfl) (fun _ => rfl) (fun _ _ => rfl) (fun ho e he => by
        rw [rank_of_activeEntry (p := .tracking) (hcycle ho) he (by rw [h]; rfl)]
        exact Nat.le_of_ble_eq_true rfl)
  | countHold => exact onTally_edits _ s
  | ends o => exact endAndSelect_edits o s
  | select => exact select_edits false s
  | @arrive dest =>
    cases dest <;> exact .refl
  | _ => exact .refl

end Sys2Proof.Machine

/-! PROOFS. The laws of the list, the pool and the chains (O19) along a step. -/

namespace Sys2Proof.Machine

variable {s t : State}

/-! ### Requests that change the list -/

theorem hasId_iff (s : State) (id : Nat) : s.hasId id = true ↔ id ∈ s.night.entries.map fun e => e.record.id := by
  simp [State.hasId]

theorem insertBefore_perm {named : Nat} (x : Entry) {l : List Entry} :
    insertBefore named x l = l ∨ (insertBefore named x l).Perm (x :: l) := by
  induction l with
  | nil => exact .inl rfl
  | cons e rest ih =>
    unfold insertBefore
    split
    · exact .inr (.refl _)
    · rcases ih with h | h
      · exact .inl (by rw [h])
      · exact .inr ((h.cons e).trans (.swap x e rest))

theorem removeId_of_entryOf {id : Nat} {e : Entry} {l : List Entry}
    (h : l.find? (fun e => decide (e.record.id = id)) = some e) : l.Perm (e :: removeId id l) := by
  induction l with
  | nil => cases h
  | cons a rest ih =>
    rw [List.find?_cons] at h
    unfold removeId
    split at h
    · rename_i ha
      cases h
      rw [if_pos (by simpa using ha)]
    · rename_i ha
      rw [if_neg (by simpa using ha)]
      exact ((ih h).cons a).trans (.swap e a _)

theorem chainTotal_eq_sum (l : List Entry) : chainTotal l = (l.map fun e => e.chain.length).sum := by
  induction l with
  | nil => rfl
  | cons e rest ih => simp [chainTotal, ih]

theorem chainTotal_perm {x y : List Entry} (h : x.Perm y) : chainTotal x = chainTotal y := by
  rw [chainTotal_eq_sum, chainTotal_eq_sum]
  exact (h.map _).sum_eq

theorem mem_insertBefore {named : Nat} {x e : Entry} {l : List Entry} (h : e ∈ insertBefore named x l) :
    e = x ∨ e ∈ l := by
  rcases insertBefore_perm (named := named) x (l := l) with hl | hl
  · exact .inr (hl ▸ h)
  · exact List.mem_cons.1 (hl.mem_iff.1 h)

theorem mem_of_mem_removeId {id : Nat} {e : Entry} {l : List Entry} (h : e ∈ removeId id l) : e ∈ l := by
  induction l with
  | nil => cases h
  | cons a rest ih =>
    unfold removeId at h
    split at h
    · exact List.mem_cons_of_mem _ h
    · rcases List.mem_cons.1 h with rfl | h
      · simp
      · exact List.mem_cons_of_mem _ (ih h)

theorem removeId_sublist (id : Nat) (l : List Entry) : (removeId id l).Sublist l := by
  induction l with
  | nil => exact .refl _
  | cons a rest ih =>
    unfold removeId
    split
    · exact List.sublist_cons_self a rest
    · exact ih.cons_cons a

/-- The segments of a request join the chain of the first entry with the id (R53). -/
theorem appendSegments_pool (id : Nat) (segs : List Segment) (s : State) :
    (s.appendSegments id segs).pool =
      (updateId id (fun e => { e with chain := e.chain ++ segs }) s.night.entries, s.free - segs.length) := by
  unfold State.appendSegments
  dsimp only
  split <;> rfl

/-- What a request does to the entries and the pool: an edit, none left, a new entry, an entry or the ENDED ones taken
out, or segments at the end of a chain. -/
theorem served_pool {c : Instr} (h : Served c s t) (ordered : Prop) :
    PoolEdits ordered s.pool t.pool ∨ t.pool = ([], 512) ∨
      (∃ r, s.hasId r.id = false ∧ s.night.entries.length < 64 ∧
        (t.pool = (s.night.entries ++ [newEntry r], s.free) ∨
          ∃ named, t.pool = (insertBefore named (newEntry r) s.night.entries, s.free))) ∨
      (∃ id e, s.entryOf id = some e ∧ e.isActive = false ∧
        t.pool = (removeId id s.night.entries, s.free + e.chain.length)) ∨
      t.pool = (s.night.entries.filter (fun e => !e.isEnded), s.free) ∨
      ∃ id segs e, s.entryOf id = some e ∧ e.isEnded = false ∧ e.record.kind = .track ∧
        segmentsFault e.isActive s.time.mountTime 1 e.chain.getLast? segs = none ∧ segs.length ≤ s.free ∧
        t.pool = (updateId id (fun e => { e with chain := e.chain ++ segs }) s.night.entries, s.free - segs.length) := by
  cases h with
  | softReset => exact .inr (.inl rfl)
  | append r hid hlen => exact .inr (.inr (.inl ⟨r, hid, hlen, .inl rfl⟩))
  | insert named r hid hlen => exact .inr (.inr (.inl ⟨r, hid, hlen, .inr ⟨named, rfl⟩⟩))
  | remove id e he ha => exact .inr (.inr (.inr (.inl ⟨id, e, he, ha, rfl⟩)))
  | purge => exact .inr (.inr (.inr (.inr (.inl rfl))))
  | segments id segs e he hended hkind hsegs hfree =>
    exact .inr (.inr (.inr (.inr (.inr ⟨id, segs, e, he, hended, hkind, hsegs, hfree, appendSegments_pool id segs s⟩))))
  | setNow => exact .inl (edits_of_eq (by simp [State.pool]))
  | stopTarget o dest => exact .inl (stopTarget_edits o dest s)
  | endPark => exact .inl (endActive_enterParking_edits _ s)
  | zero => exact .inl (discardMailbox_edits s)
  | report r =>
    exact .inl (formShelter_edits { s with enclosure := { s.enclosure with report := some r } })
  | place => exact .inl (edits_of_eq (by simp [State.pool, State.placed]))
  | placeIdle => exact .inl (edits_of_eq (by simp [State.pool, State.placed]))
  | placePark => exact .inl (edits_of_eq (by simp [State.pool, State.placed, State.readyToPark]))
  | _ => exact .inl .refl

theorem entryOf_find (s : State) (id : Nat) :
    s.entryOf id = s.night.entries.find? fun e => decide (e.record.id = id) := rfl

theorem listLaw_served {c : Instr} (h : Served c s t) (hs : listLaw s.pool) : listLaw t.pool := by
  obtain ⟨hlen, hnodup⟩ := hs
  have hfresh (r : Record) (hid : s.hasId r.id = false) (hl : s.night.entries.length < 64) (l : List Entry)
      (hp : l.Perm (newEntry r :: s.night.entries)) : listLaw (l, s.free) := by
    refine ⟨?_, ?_⟩
    · rw [hp.length_eq]
      exact hl
    · rw [(hp.map _).nodup_iff, List.map_cons, List.nodup_cons]
      exact ⟨fun hmem => absurd ((hasId_iff s r.id).2 hmem) (by simp [hid]), hnodup⟩
  rcases served_pool h False with h | h | ⟨r, hid, hl, h | ⟨named, h⟩⟩ | ⟨id, e, _, _, h⟩ | h |
    ⟨id, segs, e, he, _, _, _, _, h⟩
  · exact listLaw_edits h ⟨hlen, hnodup⟩
  · rw [h]
    exact ⟨by simp, by simp⟩
  · rw [h]
    exact hfresh r hid hl _ (List.perm_append_singleton _ _)
  · rw [h]
    rcases insertBefore_perm (named := named) (newEntry r) (l := s.night.entries) with hi | hi
    · rw [hi]
      exact ⟨hlen, hnodup⟩
    · exact hfresh r hid hl _ hi
  · rw [h]
    have hsub := removeId_sublist id s.night.entries
    exact ⟨hsub.length_le.trans hlen, (hsub.map _).nodup hnodup⟩
  · rw [h]
    have hsub := List.filter_sublist (p := fun e : Entry => !e.isEnded) (l := s.night.entries)
    exact ⟨hsub.length_le.trans hlen, (hsub.map _).nodup hnodup⟩
  · rw [h]
    have hids := map_record_updateFirst (p := fun e => decide (e.record.id = id))
      (f := fun e : Entry => { e with chain := e.chain ++ segs }) (l := s.night.entries) fun _ _ => rfl
    refine ⟨?_, ?_⟩
    · have := congrArg List.length hids
      simp only [List.length_map] at this
      exact (show (updateId _ _ _).length = _ from this) ▸ hlen
    · exact (show (updateId _ _ _).map _ = _ from hids) ▸ hnodup

theorem poolLaw_served {c : Instr} (h : Served c s t) (hs : poolLaw s.pool) : poolLaw t.pool := by
  obtain ⟨htotal, hended⟩ := hs
  have htotal : s.free + chainTotal s.night.entries = 512 := htotal
  have hended : ∀ e ∈ s.night.entries, e.isEnded = true → e.chain = [] := hended
  rcases served_pool h False with h | h | ⟨r, _, _, h | ⟨named, h⟩⟩ | ⟨id, e, he, _, h⟩ | h |
    ⟨id, segs, e, he, hopen, _, _, hfree, h⟩
  · exact poolLaw_edits h ⟨htotal, hended⟩
  · rw [h]
    exact ⟨rfl, by simp⟩
  · rw [h]
    refine ⟨by simpa [chainTotal_append, chainTotal, newEntry] using htotal, fun e he => ?_⟩
    rcases List.mem_append.1 he with he | he
    · exact hended e he
    · rw [List.mem_singleton.1 he]
      exact fun _ => rfl
  · rw [h]
    refine ⟨?_, fun e he => ?_⟩
    · rcases insertBefore_perm (named := named) (newEntry r) (l := s.night.entries) with hi | hi
      · show s.free + chainTotal (insertBefore _ _ _) = 512
        rwa [hi]
      · show s.free + chainTotal (insertBefore _ _ _) = 512
        rw [chainTotal_perm hi]
        simpa [chainTotal, newEntry] using htotal
    · rcases mem_insertBefore he with rfl | he
      · exact fun _ => rfl
      · exact hended e he
  · rw [h]
    refine ⟨?_, fun e he => hended e (mem_of_mem_removeId he)⟩
    have hperm := chainTotal_perm (removeId_of_entryOf he)
    simp only [chainTotal] at hperm
    show s.free + e.chain.length + chainTotal (removeId id s.night.entries) = 512
    omega
  · rw [h]
    refine ⟨?_, fun e he => hended e (List.mem_of_mem_filter he)⟩
    have hkept : ∀ l : List Entry, (∀ e ∈ l, e.isEnded = true → e.chain = []) →
        chainTotal (l.filter fun e => !e.isEnded) = chainTotal l := by
      intro l hl
      induction l with
      | nil => rfl
      | cons a rest ih =>
        have hrest := ih fun e he => hl e (List.mem_cons_of_mem _ he)
        by_cases ha : a.isEnded = true
        · simp [ha, chainTotal, hrest, hl a (by simp) ha]
        · simp [ha, chainTotal, hrest]
    show s.free + chainTotal _ = 512
    rw [hkept _ hended]
    exact htotal
  · rw [h]
    obtain ⟨before, after, hl, _, _, hf⟩ := updateFirst_of_find?_some he
    have hf := hf fun e : Entry => { e with chain := e.chain ++ segs }
    have hu : updateId id (fun e => { e with chain := e.chain ++ segs }) s.night.entries = _ := hf
    rw [hl] at htotal hended
    rw [hu]
    refine ⟨?_, fun e' he' => ?_⟩
    · rw [chainTotal_append] at htotal ⊢
      simp only [chainTotal, List.length_append] at htotal ⊢
      omega
    · rcases List.mem_append.1 he' with h' | h'
      · exact hended e' (by simp [h'])
      · rcases List.mem_cons.1 h' with rfl | h'
        · intro hend
          have hend : e.isEnded = true := hend
          rw [hopen] at hend
          cases hend
        · exact hended e' (by simp [h'])

theorem chainLaw_served {c : Instr} (h : Served c s t) (hs : chainLaw s.pool) : chainLaw t.pool := by
  have hs' : ∀ e ∈ s.night.entries, chainLawful e.chain ∧ (e.record.kind ≠ .track → e.chain = []) := hs
  have hnew (r : Record) : chainLawful (newEntry r).chain ∧ ((newEntry r).record.kind ≠ .track → (newEntry r).chain = []) :=
    ⟨trivial, fun _ => rfl⟩
  rcases served_pool h False with h | h | ⟨r, _, _, h | ⟨named, h⟩⟩ | ⟨id, e, he, _, h⟩ | h |
    ⟨id, segs, e, he, _, hkind, hsegs, _, h⟩
  · exact chainLaw_edits h hs
  · rw [h]
    exact fun _ he => absurd he (by simp)
  · rw [h]
    intro e he
    rcases List.mem_append.1 he with he | he
    · exact hs' e he
    · exact List.mem_singleton.1 he ▸ hnew r
  · rw [h]
    intro e he
    rcases mem_insertBefore he with rfl | he
    · exact hnew r
    · exact hs' e he
  · rw [h]
    exact fun e he => hs' e (mem_of_mem_removeId he)
  · rw [h]
    exact fun e he => hs' e (List.mem_of_mem_filter he)
  · rw [h]
    obtain ⟨before, after, hl, _, _, hf⟩ := updateFirst_of_find?_some he
    have hu : updateId id (fun e => { e with chain := e.chain ++ segs }) s.night.entries = _ :=
      hf fun e : Entry => { e with chain := e.chain ++ segs }
    rw [hl] at hs'
    rw [hu]
    intro e' he'
    rcases List.mem_append.1 he' with h' | h'
    · exact hs' e' (by simp [h'])
    · rcases List.mem_cons.1 h' with rfl | h'
      · have hchain := (hs' e (by simp)).1
        exact ⟨((segmentsFault_none_iff _ _ _ _ _ hchain).1 hsegs).1, fun h => absurd hkind h⟩
      · exact hs' e' (by simp [h'])

/-! ### The laws along a step -/

/-- A law of the entries and the free count that edits and requests keep is kept by every step. -/
theorem pool_kept {L : Pool → Prop} (hreset : L ([], 512)) (hedits : ∀ x y, PoolEdits False x y → L x → L y)
    (hserved : ∀ {c : Instr} s t, Served c s t → L s.pool → L t.pool) : KeptBySteps fun s => L s.pool where
  queue _ _ h := h
  draw _ h := h
  power _ _ _ _ := hreset
  elapse s n h := (show (s.elapse n).pool = s.pool by simp [State.pool]) ▸ h
  expiry s h := (show s.takeExpiry.pool = s.pool by simp [State.pool]) ▸ h
  pulse s h := by
    have hp : s.pulse.pool = s.pool := by
      unfold State.pulse
      dsimp only
      split
      · split <;> simp [State.pool]
      · rfl
    rwa [hp]
  port := fun _ _ ⟨_, _, _, ht⟩ h => ht ▸ h
  served := hserved
  fault s k _ h := hedits _ _ (faultEvent_edits k s) h
  event := runEvent_keeps (fun _ _ h => h) (fun _ _ hm h => hedits _ _ (move_edits hm (fun h => h.elim)) h)
    (fun _ h => h)

/-- Settles O19: the three laws hold of the entries and the free count, which every step edits. -/
theorem listAndPoolLawsKept : Obligations.ListAndPoolLawsKept := fun _ _ hstep =>
  ⟨(pool_kept (L := listLaw) ⟨by simp, by simp⟩ (fun _ _ => listLaw_edits) fun _ _ => listLaw_served).step hstep,
    (pool_kept (L := poolLaw) ⟨rfl, by simp⟩ (fun _ _ => poolLaw_edits) fun _ _ => poolLaw_served).step hstep,
    (pool_kept (L := chainLaw) (by simp [chainLaw]) (fun _ _ => chainLaw_edits) fun _ _ => chainLaw_served).step hstep⟩

end Sys2Proof.Machine

/-! PROOFS. The law of the target cycle (R25, R26, R145): the phases of the ACTIVE entries along the moves and the
requests, and that entries move one way. -/

namespace Sys2Proof.Machine

variable {s t u : State}

/-! ### The phases of the ACTIVE entries -/

/-- The phase of an entry while it is ACTIVE (R26). -/
def Entry.phase? (e : Entry) : Option Phase :=
  match e.status with
  | .active p => some p
  | .pending => none
  | .ended _ => none

/-- The phases of the ACTIVE entries, from the head on. -/
def phases (l : List Entry) : List Phase := l.filterMap Entry.phase?

/-- The phases of a state's ACTIVE entries. -/
def State.phases (s : State) : List Phase := Machine.phases s.night.entries

theorem phase?_eq_some {e : Entry} {p : Phase} : e.phase? = some p ↔ e.status = .active p := by
  unfold Entry.phase?
  split <;> simp_all

theorem isActive_eq (e : Entry) : e.isActive = e.phase?.isSome := by
  unfold Entry.isActive Entry.phase?
  cases e.status <;> rfl

theorem phase?_of_isPending {e : Entry} (h : e.isPending = true) : e.phase? = none := by
  unfold Entry.isPending at h
  unfold Entry.phase?
  split at h <;> simp_all

theorem phase?_of_isEnded {e : Entry} (h : e.isEnded = true) : e.phase? = none := by
  unfold Entry.isEnded at h
  unfold Entry.phase?
  split at h <;> simp_all

theorem isTarget_eq (e : Engine) : e.isTarget = e.phase.isSome := by cases e <;> rfl

theorem isTracking_of_phase {e e' : Engine} (h : e'.phase = e.phase) : e'.isTracking = e.isTracking := by
  cases e <;> cases e' <;> first | rfl | cases h

theorem length_active (l : List Entry) : (l.filter Entry.isActive).length = (phases l).length := by
  induction l with
  | nil => rfl
  | cons e rest ih =>
    unfold phases at *
    rcases h : e.phase? with _ | p <;> simp [isActive_eq, h, ih]

/-- The law of the cycle in phases: those of the ACTIVE entries are the engine's one or none (R25, R26). -/
theorem cycleLaw_iff :
    s.CycleLaw ↔ s.phases = s.engine.phase.toList ∧ (s.onTarget = true → s.engine.isTracking = true) := by
  have hmem (p : Phase) : p ∈ s.phases ↔ ∃ e ∈ s.night.entries, e.status = .active p := by
    simp [State.phases, phases, phase?_eq_some]
  unfold State.CycleLaw
  rw [length_active, isTarget_eq, show phases s.night.entries = s.phases from rfl]
  constructor
  · rintro ⟨hlen, hphase, hon⟩
    refine ⟨?_, hon⟩
    rcases hp : s.engine.phase with _ | p
    · rw [hp] at hlen
      simpa using hlen
    · rw [hp] at hlen
      obtain ⟨q, hq⟩ := List.length_eq_one_iff.1 (by simpa using hlen)
      obtain ⟨e, he, hstatus⟩ := (hmem q).1 (by rw [hq]; simp)
      have := hphase e he q hstatus
      rw [hp] at this
      cases this
      exact hq
  · rintro ⟨hphases, hon⟩
    refine ⟨?_, fun e he p hp => ?_, hon⟩
    · rw [hphases]
      cases s.engine.phase <;> rfl
    · have := (hmem p).2 ⟨e, he, hp⟩
      rw [hphases] at this
      simpa using this

theorem CycleLaw.of_parts (hp : t.phases = s.phases) (he : t.engine.phase = s.engine.phase)
    (ho : t.onTarget = s.onTarget) (hs : s.CycleLaw) : t.CycleLaw := by
  rw [cycleLaw_iff] at *
  rwa [hp, he, ho, isTracking_of_phase he]

/-! ### The phases after an update of one entry -/

theorem phases_append (x y : List Entry) : phases (x ++ y) = phases x ++ phases y := List.filterMap_append

theorem phases_cons (e : Entry) (l : List Entry) : phases (e :: l) = e.phase?.toList ++ phases l := by
  unfold phases
  rcases h : e.phase? with _ | p <;> simp [h]

theorem phases_eq_nil {l : List Entry} (h : ∀ e ∈ l, e.isActive = false) : phases l = [] := by
  unfold phases
  rw [List.filterMap_eq_nil_iff]
  intro e he
  have := h e he
  rw [isActive_eq] at this
  simpa using this

/-- The phases after the first ACTIVE entry is replaced: its new phase stands for its old one. -/
theorem phases_updateActive (f : Entry → Entry) (l : List Entry) :
    phases (updateFirst Entry.isActive f l) =
      ((l.find? Entry.isActive).bind fun e => (f e).phase?).toList ++ (phases l).tail := by
  rcases hfind : l.find? Entry.isActive with _ | e
  · rw [updateFirst_of_find?_none hfind]
    rw [phases_eq_nil fun e he => by simpa using List.find?_eq_none.1 hfind e he]
    rfl
  · obtain ⟨before, after, hl, hbefore, he, hf⟩ := updateFirst_of_find?_some hfind
    rw [hf f, hl, phases_append, phases_append, phases_cons, phases_cons, phases_eq_nil hbefore]
    rw [isActive_eq] at he
    obtain ⟨p, hp⟩ := Option.isSome_iff_exists.1 he
    simp [hp]

/-- A change of the ACTIVE entry that keeps its phase keeps the phases. -/
theorem phases_updateActive_same {f : Entry → Entry} (hf : ∀ e, (f e).phase? = e.phase?) (l : List Entry) :
    phases (updateFirst Entry.isActive f l) = phases l := by
  rw [phases_updateActive]
  rcases hfind : l.find? Entry.isActive with _ | e
  · rw [phases_eq_nil fun e he => by simpa using List.find?_eq_none.1 hfind e he]
    rfl
  · obtain ⟨before, after, hl, hbefore, he, _⟩ := updateFirst_of_find?_some hfind
    rw [hl, phases_append, phases_cons, phases_eq_nil hbefore]
    rw [isActive_eq] at he
    obtain ⟨p, hp⟩ := Option.isSome_iff_exists.1 he
    simp [hf, hp]

/-- A change of the first PENDING entry that leaves it out of the ACTIVE ones keeps the phases. -/
theorem phases_updatePending {f : Entry → Entry} (hf : ∀ e, e.isPending = true → (f e).phase? = none)
    (l : List Entry) : phases (updateFirst Entry.isPending f l) = phases l := by
  rcases hfind : l.find? Entry.isPending with _ | e
  · rw [updateFirst_of_find?_none hfind]
  · obtain ⟨before, after, hl, _, he, hupd⟩ := updateFirst_of_find?_some hfind
    rw [hupd f, hl, phases_append, phases_append, phases_cons, phases_cons, hf e he, phase?_of_isPending he]

theorem onTally_phases (g : Tally → Tally) (s : State) : (s.onActive (Entry.onTally g)).phases = s.phases :=
  phases_updateActive_same (f := Entry.onTally g) (fun _ => rfl) _

theorem discardMailbox_phases (s : State) : s.discardMailbox.phases = s.phases := onTally_phases _ s

theorem endActive_phases (o : EndOutcome) (s : State) : (s.endActive o).phases = s.phases.tail := by
  rcases he : s.activeEntry with _ | e
  · rw [State.endActive_none s o he]
    have : s.phases = [] := phases_eq_nil fun e h => by simpa using List.find?_eq_none.1 he e h
    rw [this]
    rfl
  · have hentries : (s.endActive o).night.entries =
        updateFirst Entry.isActive (Entry.finish o s.time.mountTime) s.discardMailbox.night.entries := by
      unfold State.endActive
      rw [he]
      simp only [State.setOnTarget_night]
      rfl
    unfold State.phases
    rw [hentries, phases_updateActive]
    rw [show phases s.discardMailbox.night.entries = s.phases from discardMailbox_phases s]
    have hnone (e' : Entry) : (Entry.finish o s.time.mountTime e').phase? = none := rfl
    simp [hnone, State.phases]

/-- With an ACTIVE entry or ON_TARGET not asserted, the end of the ACTIVE entry leaves it not asserted (R146). -/
theorem endActive_onTarget (o : EndOutcome) (h : s.onTarget = true → s.phases ≠ []) :
    (s.endActive o).onTarget = false := by
  rcases he : s.activeEntry with _ | e
  · rw [State.endActive_none s o he]
    have hp : s.phases = [] := phases_eq_nil fun e h => by simpa using List.find?_eq_none.1 he e h
    simpa [hp] using h
  · exact (State.endActive_some s o he).1

/-! ### The end of a target in a lawful cycle -/

/-- The end of the ACTIVE entry, in a lawful cycle, leaves no entry ACTIVE and ON_TARGET not asserted. -/
theorem endActive_clears (o : EndOutcome) (hs : s.CycleLaw) :
    (s.endActive o).phases = [] ∧ (s.endActive o).onTarget = false := by
  obtain ⟨hphases, hon⟩ := cycleLaw_iff.1 hs
  refine ⟨?_, endActive_onTarget o fun h => ?_⟩
  · rw [endActive_phases, hphases]
    cases s.engine.phase <;> rfl
  · rw [hphases]
    have := hon h
    cases he : s.engine <;> simp_all [Engine.isTracking, Engine.phase]

/-- With no entry ACTIVE and ON_TARGET not asserted, every engine state but the target states is lawful. -/
theorem cycleLaw_of_clear (hp : s.phases = []) (ho : s.onTarget = false) (he : s.engine.isTarget = false) :
    s.CycleLaw := by
  rw [cycleLaw_iff, hp, ho]
  rw [isTarget_eq] at he
  refine ⟨?_, by simp⟩
  cases h : s.engine.phase <;> simp_all

theorem clear_of_cycleLaw (hs : s.CycleLaw) (he : s.engine.isTarget = false) :
    s.phases = [] ∧ s.onTarget = false := by
  obtain ⟨hphases, hon⟩ := cycleLaw_iff.1 hs
  constructor
  · rw [hphases]
    cases h : s.engine <;> simp_all [Engine.isTarget, Engine.phase]
  · cases h : s.engine <;> simp_all [Engine.isTarget, Engine.isTracking]

/-- Selection from no entry ACTIVE ends in a wait, or starts one entry, which is then SLEWING (R27, R104). -/
theorem cycleLaw_scan (b : Bool) (n : Nat) (hp : s.phases = []) (ho : s.onTarget = false) :
    (State.scan b n s).CycleLaw := by
  obtain ⟨s', ⟨hp', ho'⟩, h⟩ := State.scan_cases (P := fun x => x.phases = [] ∧ x.onTarget = false) b
    (fun s e o h _ => ⟨(phases_updatePending (f := Entry.finish o s.time.mountTime) (fun _ _ => rfl) _).trans h.1, h.2⟩)
    (fun s e h _ =>
      ⟨(phases_updatePending (f := Entry.releaseStale s.time.mountTime)
        (fun _ he => phase?_of_isPending (by exact he)) _).trans h.1, h.2⟩) n s ⟨hp, ho⟩
  rcases h with ⟨r, h⟩ | ⟨e, k, az, he, h⟩ <;> rw [h]
  · refine cycleLaw_of_clear ?_ ?_ ?_
    · have hnight : (s'.wait r b).night = s'.night := by
        unfold State.wait; dsimp only; split <;> split <;> rfl
      unfold State.phases
      rw [hnight]
      exact hp'
    · unfold State.wait; dsimp only; split <;> split <;> exact ho'
    · unfold State.wait; dsimp only; split <;> split <;> rfl
  · obtain ⟨before, after, hl, _, hpend, hupd⟩ := updateFirst_of_find?_some he
    have hentries (keep : Bool) : (s'.start e k az keep).night.entries =
        before ++ Entry.activate s'.time.mountTime k e :: after := by
      rw [← hupd]
      cases keep <;> rfl
    have hon (keep : Bool) : (s'.start e k az keep).onTarget = s'.onTarget := by cases keep <;> rfl
    have hengine (keep : Bool) : (s'.start e k az keep).engine = .slewing 0 (az + k * fullTurn) := by
      cases keep <;> rfl
    rw [State.phases, hl, phases_append, phases_cons, phase?_of_isPending hpend] at hp'
    simp only [Option.toList_none, List.nil_append, List.append_eq_nil_iff] at hp'
    rw [cycleLaw_iff, State.phases, hentries, phases_append, phases_cons, hp'.1, hp'.2, hon, ho', hengine]
    exact ⟨rfl, by simp⟩

theorem cycleLaw_endAndSelect (o : EndOutcome) (hs : s.CycleLaw) : (s.endAndSelect o).CycleLaw := by
  obtain ⟨hp, ho⟩ := endActive_clears o hs
  exact cycleLaw_scan _ _ hp ho

theorem cycleLaw_endActive_enterParking (o : EndOutcome) (hs : s.CycleLaw) :
    (s.endActive o).enterParking.CycleLaw := by
  obtain ⟨hp, ho⟩ := endActive_clears o hs
  exact cycleLaw_of_clear (by simpa [State.phases, State.enterParking, State.readyToPark] using hp)
    (by simpa [State.enterParking] using ho) rfl

theorem cycleLaw_stopTarget (o : EndOutcome) (dest : StopDest) (hs : s.CycleLaw) : (s.stopTarget o dest).CycleLaw := by
  obtain ⟨hp, ho⟩ := endActive_clears o hs
  exact cycleLaw_of_clear (by simpa [State.phases, State.stopTarget] using hp)
    (by simpa [State.stopTarget] using ho) rfl

theorem cycleLaw_faultEvent (k : FaultKind) (hs : s.CycleLaw) : (s.faultEvent k).CycleLaw := by
  unfold State.faultEvent
  split
  · split <;> exact hs
  · dsimp only
    have hcycle : ({ s with
        faults := { s.faults with first := some ⟨k, s.time.mountTime, s.engine.state, s.activeId⟩ } } : State).CycleLaw := hs
    obtain ⟨hp, ho⟩ := endActive_clears .fault hcycle
    split <;> exact cycleLaw_of_clear (by simpa [State.phases] using hp) (by simpa using ho) (by simp [Engine.isTarget])

/-- From an engine state that is no target state, any other such state is lawful. -/
theorem cycleLaw_enter {e : Engine} (hs : s.CycleLaw) (h : s.engine.isTarget = false) (he : e.isTarget = false)
    (hp : t.phases = s.phases) (ho : t.onTarget = s.onTarget) (ht : t.engine = e) : t.CycleLaw := by
  obtain ⟨hp', ho'⟩ := clear_of_cycleLaw hs h
  exact cycleLaw_of_clear (hp.trans hp') (ho.trans ho') (ht ▸ he)

theorem cycleLaw_formShelter (hs : s.CycleLaw) : s.formShelter.CycleLaw :=
  formShelter_keeps hs (fun _ h => h) (fun _ _ h => h) (fun _ _ h => cycleLaw_endActive_enterParking _ h)
    (fun _ he h => cycleLaw_enter h (by rcases he with he | he | ⟨_, he⟩ <;> rw [he] <;> rfl) rfl rfl rfl rfl)

/-! ### The law of the cycle along the moves -/

theorem evaluateOnTarget_phases (runout : Bool) (s : State) : (s.evaluateOnTarget runout).phases = s.phases := by
  unfold State.evaluateOnTarget
  dsimp only
  have h : (s.setOnTarget (s.onTargetNow runout)).phases = s.phases := by simp [State.phases]
  split
  · rw [onTally_phases, h]
  · exact h

theorem evaluateOnTarget_onTarget (runout : Bool) (s : State) :
    (s.evaluateOnTarget runout).onTarget = s.onTargetNow runout := by
  unfold State.evaluateOnTarget
  dsimp only
  split <;> simp

theorem isTracking_of_onTargetNow {runout : Bool} (h : s.onTargetNow runout = true) : s.engine.isTracking = true := by
  unfold State.onTargetNow at h
  simp only [Bool.and_eq_true] at h
  exact h.1.1.1.1

theorem cycleLaw_evaluateOnTarget (runout : Bool) (hs : s.CycleLaw) : (s.evaluateOnTarget runout).CycleLaw := by
  have he := (evaluateOnTarget_sameDrives runout s).engine
  rw [cycleLaw_iff, evaluateOnTarget_phases, evaluateOnTarget_onTarget, he]
  exact ⟨(cycleLaw_iff.1 hs).1, isTracking_of_onTargetNow⟩

/-- The ACTIVE entry takes the phase that the engine enters (R26). -/
theorem cycleLaw_phase {p : Phase} {f : Entry → Entry} (hs : s.CycleLaw) (ht : s.engine.isTarget = true)
    (hf : ∀ e, (f e).phase? = some p)
    (hentries : t.night.entries = updateFirst Entry.isActive f s.night.entries) (hp : t.engine.phase = some p)
    (ho : t.onTarget = true → t.engine.isTracking = true) : t.CycleLaw := by
  refine cycleLaw_iff.2 ⟨?_, ho⟩
  obtain ⟨hphases, _⟩ := cycleLaw_iff.1 hs
  rw [isTarget_eq] at ht
  obtain ⟨q, hq⟩ := Option.isSome_iff_exists.1 ht
  rw [hq] at hphases
  have hactive : ∃ e, s.activeEntry = some e := by
    rcases he : s.activeEntry with _ | e
    · have : s.phases = [] := phases_eq_nil fun e h => by simpa using List.find?_eq_none.1 he e h
      rw [this] at hphases
      cases hphases
    · exact ⟨e, rfl⟩
  obtain ⟨e, he⟩ := hactive
  rw [State.phases, hentries, phases_updateActive, show s.night.entries.find? Entry.isActive = some e from he,
    show phases s.night.entries = s.phases from rfl, hphases, hp]
  simp [hf]

theorem onTarget_false_of (hs : s.CycleLaw) (h : s.engine.isTracking = false) : s.onTarget = false := by
  have := (cycleLaw_iff.1 hs).2
  rw [h] at this
  simpa using this

theorem countGuide_onTarget (s : State) : s.countGuide.onTarget = s.onTarget := by
  unfold State.countGuide
  split
  · split <;> rfl
  all_goals rfl

theorem takeMailbox_phases (s : State) : s.takeMailbox.phases = s.phases := by
  unfold State.takeMailbox
  split
  · rfl
  · exact onTally_phases _ s

theorem takeMailbox_onTarget (s : State) : s.takeMailbox.onTarget = s.onTarget := by
  unfold State.takeMailbox
  split <;> rfl

theorem judgeAlignment_cycle (s : State) :
    s.judgeAlignment.phases = s.phases ∧ s.judgeAlignment.onTarget = s.onTarget ∧
      s.judgeAlignment.engine = s.engine := by
  unfold State.judgeAlignment
  split
  · exact ⟨rfl, rfl, rfl⟩
  · dsimp only
    split <;> exact ⟨rfl, rfl, rfl⟩

theorem cycleLaw_aim {a : State × Axes Int × Axes Int} (h : s.aim = some a) (hs : s.CycleLaw) : a.1.CycleLaw := by
  rcases s.aim_cases h with h | ⟨_, _, _, _, h⟩ <;> rw [h]
  · exact hs
  · exact CycleLaw.of_parts (s := s)
      (phases_updateActive_same (f := fun e => { e with chain := dropPassed s.time.mountTime e.chain })
        (fun _ => rfl) _) rfl rfl hs

theorem cycleLaw_move (h : Move s t) (hs : s.CycleLaw) : t.CycleLaw := by
  cases h with
  | shelter f => exact cycleLaw_formShelter (s := { s with inputs := s.inputs.set .shelter f }) hs
  | fault k => exact cycleLaw_faultEvent k hs
  | judge =>
    obtain ⟨hp, ho, he⟩ := judgeAlignment_cycle s
    exact CycleLaw.of_parts hp (by rw [he]) ho hs
  | aim h => exact cycleLaw_aim h hs
  | slew h => exact CycleLaw.of_parts (s := s) rfl (by rw [h]; rfl) rfl hs
  | takeMailbox =>
    exact CycleLaw.of_parts (takeMailbox_phases s) (by rw [(takeMailbox_sameDrives s).engine]) (takeMailbox_onTarget s) hs
  | countGuide =>
    exact CycleLaw.of_parts (congrArg (fun x : Pool => phases x.1) (countGuide_pool s))
      (by rw [(countGuide_sameDrives s).engine]) (countGuide_onTarget s) hs
  | step => exact CycleLaw.of_parts (s := s) (onTally_phases _ s) rfl rfl hs
  | onTarget runout => exact cycleLaw_evaluateOnTarget runout hs
  | capture h =>
    have hoff : s.onTarget = false := onTarget_false_of hs (by rw [h]; rfl)
    have hlaw (g : State → State) (hg : ∀ x, (g x).night = x.night ∧ (g x).engine = x.engine ∧ (g x).onTarget = x.onTarget) :
        (g (State.give .capture ((s.enter (.settling 0)).onActive fun e =>
          { e.withPhase .settling with results := { e.results with capturedAt := some s.time.mountTime } }))).CycleLaw := by
      obtain ⟨hn, he, ho⟩ := hg (State.give .capture ((s.enter (.settling 0)).onActive fun e =>
          { e.withPhase .settling with results := { e.results with capturedAt := some s.time.mountTime } }))
      refine cycleLaw_phase (p := .settling) hs (by rw [h]; rfl) (fun _ => rfl) (by rw [hn]; rfl) (by rw [he]; rfl) ?_
      rw [ho]
      exact fun hon => absurd (hoff.symm.trans hon) (by simp)
    unfold State.capture
    dsimp only
    split
    · exact hlaw (State.withGuideState .seeking) fun _ => ⟨rfl, rfl, rfl⟩
    · exact hlaw id fun _ => ⟨rfl, rfl, rfl⟩
  | settled h =>
    have hoff : s.onTarget = false := onTarget_false_of hs (by rw [h]; rfl)
    exact cycleLaw_phase (p := .tracking) hs (by rw [h]; rfl) (fun _ => rfl) rfl rfl
      fun hon => absurd (hoff.symm.trans hon) (by simp)
  | settling h => exact CycleLaw.of_parts (s := s) rfl (by rw [h]; rfl) rfl hs
  | tracking h => exact CycleLaw.of_parts (s := s) rfl (by rw [h]; rfl) rfl hs
  | holding h => exact cycleLaw_phase (p := .holding) hs (by rw [h]; rfl) (fun _ => rfl) rfl rfl fun _ => rfl
  | countHold => exact CycleLaw.of_parts (s := s) (onTally_phases _ s) rfl rfl hs
  | ends o => exact cycleLaw_endAndSelect o hs
  | select h =>
    obtain ⟨hp, ho⟩ := clear_of_cycleLaw hs (by rw [h]; rfl)
    exact cycleLaw_scan _ _ hp ho
  | @arrive dest h =>
    have hno : s.engine.isTarget = false := by rw [h]; rfl
    cases dest
    · exact cycleLaw_enter hs hno (e := .waiting) rfl rfl rfl rfl
    · exact cycleLaw_enter hs hno (e := .idle) rfl rfl rfl rfl
  | parkArrives h => exact cycleLaw_enter hs (by rw [h]; rfl) (e := .parked) rfl rfl rfl rfl
  | _ => exact hs

/-! ### The law of the cycle along the requests -/

theorem isTarget_of_isStill {e : Engine} (h : e.isStill = true) : e.isTarget = false := by
  cases e <;> first | rfl | cases h

theorem phases_insertBefore (named : Nat) (r : Record) (l : List Entry) :
    phases (insertBefore named (newEntry r) l) = phases l := by
  induction l with
  | nil => rfl
  | cons e rest ih =>
    unfold insertBefore
    split
    · rw [phases_cons]
      rfl
    · rw [phases_cons, phases_cons, ih]

theorem phases_removeId {id : Nat} {e : Entry} {l : List Entry}
    (h : l.find? (fun e => decide (e.record.id = id)) = some e) (he : e.isActive = false) :
    phases (removeId id l) = phases l := by
  induction l with
  | nil => cases h
  | cons a rest ih =>
    rw [List.find?_cons] at h
    unfold removeId
    split at h
    · rename_i ha
      cases h
      rw [if_pos (by simpa using ha), phases_cons]
      rw [isActive_eq] at he
      cases hp : e.phase? <;> simp_all
    · rename_i ha
      rw [if_neg (by simpa using ha), phases_cons, phases_cons, ih h]

theorem phases_filter_open (l : List Entry) : phases (l.filter fun e => !e.isEnded) = phases l := by
  induction l with
  | nil => rfl
  | cons e rest ih =>
    by_cases he : e.isEnded = true
    · simp [he, phases_cons, phase?_of_isEnded he, ih]
    · simp [he, phases_cons, ih]

theorem phases_updateId {id : Nat} {f : Entry → Entry} (hf : ∀ e, (f e).phase? = e.phase?) (l : List Entry) :
    phases (updateId id f l) = phases l := by
  unfold updateId
  induction l with
  | nil => rfl
  | cons e rest ih =>
    unfold updateFirst
    split
    · rw [phases_cons, phases_cons, hf]
    · rw [phases_cons, phases_cons, ih]

theorem cycleLaw_served {c : Instr} (h : Served c s t) (hs : s.CycleLaw) : t.CycleLaw := by
  cases h with
  | setNow v => exact CycleLaw.of_parts (s := s) (by simp [State.phases]) (by simp) (by simp) hs
  | place p hstill =>
    exact CycleLaw.of_parts (s := s) (by simp [State.phases, State.placed]) (by simp [State.placed])
      (by simp [State.placed]) hs
  | placeIdle p hu =>
    exact cycleLaw_enter hs (by rw [hu]; rfl) (e := .idle) rfl (by simp [State.phases, State.placed])
      (by simp [State.placed]) (by simp)
  | placePark p hu =>
    exact cycleLaw_enter hs (by rw [hu]; rfl) (e := .parking) rfl
      (by simp [State.phases, State.placed, State.readyToPark]) (by simp [State.placed]) (by simp)
  | softReset hstill =>
    have hno := isTarget_of_isStill hstill
    exact cycleLaw_of_clear rfl (clear_of_cycleLaw hs hno).2 hno
  | append r =>
    refine CycleLaw.of_parts (s := s) ?_ rfl rfl hs
    show phases (s.night.entries ++ [newEntry r]) = _
    rw [phases_append, show phases [newEntry r] = [] from rfl, List.append_nil]
    rfl
  | insert named r => exact CycleLaw.of_parts (s := s) (phases_insertBefore named r _) rfl rfl hs
  | remove id e he ha => exact CycleLaw.of_parts (s := s) (phases_removeId he ha) rfl rfl hs
  | purge => exact CycleLaw.of_parts (s := s) (phases_filter_open _) rfl rfl hs
  | segments id segs =>
    have hp := appendSegments_pool id segs s
    refine CycleLaw.of_parts (s := s) ?_ ?_ ?_ hs
    · show phases (s.appendSegments id segs).pool.1 = _
      rw [hp]
      exact phases_updateId (f := fun e => { e with chain := e.chain ++ segs }) (fun _ => rfl) _
    · unfold State.appendSegments; dsimp only; split <;> rfl
    · unfold State.appendSegments; dsimp only; split <;> rfl
  | nightStart h =>
    exact cycleLaw_enter hs (by rcases h with h | h <;> rw [h] <;> rfl) (e := .waiting) rfl rfl rfl rfl
  | stopTarget o dest => exact cycleLaw_stopTarget o dest hs
  | stopIdle h =>
    exact cycleLaw_enter hs (by rcases h with h | h <;> rw [h] <;> rfl) (e := .stopping .idle) rfl rfl rfl rfl
  | endPark => exact cycleLaw_endActive_enterParking _ hs
  | park h =>
    exact cycleLaw_enter hs (by rcases h with h | h | ⟨_, h⟩ <;> rw [h] <;> rfl) (e := .parking) rfl rfl rfl rfl
  | clear h => exact cycleLaw_enter hs (by rw [h]; rfl) (e := .unset) rfl rfl rfl rfl
  | zero => exact CycleLaw.of_parts (s := s) (discardMailbox_phases s) rfl rfl hs
  | report r =>
    exact cycleLaw_formShelter (s := { s with enclosure := { s.enclosure with report := some r } }) hs
  | _ => exact hs

theorem pulse_cycle (s : State) :
    s.pulse.night = s.night ∧ s.pulse.engine = s.engine ∧ s.pulse.onTarget = s.onTarget := by
  unfold State.pulse
  dsimp only
  split
  · split <;> simp
  · exact ⟨rfl, rfl, rfl⟩

theorem cycleLaw_kept : KeptBySteps State.CycleLaw where
  queue _ _ h := h
  draw _ h := h
  power _ _ _ _ := cycleLaw_of_clear rfl rfl rfl
  elapse s n := CycleLaw.of_parts (s := s) (by simp [State.phases]) (by simp) (by simp)
  expiry s := CycleLaw.of_parts (s := s) (by simp [State.phases]) (by simp) (by simp)
  pulse s := by
    obtain ⟨hn, he, ho⟩ := pulse_cycle s
    exact CycleLaw.of_parts (s := s) (by unfold State.phases; rw [hn]) (by rw [he]) ho
  port := fun _ _ ⟨_, _, _, ht⟩ h => ht ▸ h
  served _ _ := cycleLaw_served
  fault _ k _ := cycleLaw_faultEvent k
  event := runEvent_keeps (fun _ _ h => h) (fun _ _ => cycleLaw_move) (fun _ h => h)

/-- Settles O59: each of the four laws is kept by every move and every request. -/
theorem engineLawsKept : Obligations.EngineLawsKept := fun _ _ hstep =>
  ⟨cycleLaw_kept.step hstep, enableLaw_kept.step hstep, faultLaw_kept.step hstep, shelterLaw_kept.step hstep⟩

end Sys2Proof.Machine

/-! PROOFS. Entries move one way (R25, R26): along a step an entry that stays keeps its record, does not go back, and
does not change once ENDED. -/

namespace Sys2Proof.Machine

variable {s t : State}

/-- One entry after another moment of it: the record is kept, it has not gone back, and once ENDED it is the same. -/
def MovedOn (e e' : Entry) : Prop :=
  e'.record = e.record ∧ e.status.rank ≤ e'.status.rank ∧ (e.isEnded = true → e' = e)

theorem MovedOn.refl (e : Entry) : MovedOn e e := ⟨rfl, Nat.le_refl _, fun _ => rfl⟩

theorem MovedOn.trans {e e' e'' : Entry} (h : MovedOn e e') (h' : MovedOn e' e'') : MovedOn e e'' := by
  obtain ⟨hr, hrank, hend⟩ := h
  obtain ⟨hr', hrank', hend'⟩ := h'
  refine ⟨hr'.trans hr, hrank.trans hrank', fun he => ?_⟩
  have h1 := hend he
  rw [h1] at hend'
  exact hend' he

theorem EntryEdit.movedOn {e e' : Entry} (h : EntryEdit True e e') : MovedOn e e' :=
  ⟨h.record, h.rank trivial, fun he => by rw [h.open_] at he; cases he⟩

/-- Every entry of `y` is one of `x` that moved on. -/
def AllMovedOn (x y : List Entry) : Prop := ∀ e' ∈ y, ∃ e ∈ x, MovedOn e e'

/-- Every entry of `y` is one of `x` that moved on, or has an id that none of `x` has. -/
def MovedOnOrNew (x y : List Entry) : Prop :=
  ∀ e' ∈ y, (∃ e ∈ x, MovedOn e e') ∨ ∀ e ∈ x, e.record.id ≠ e'.record.id

theorem AllMovedOn.weaken {x y : List Entry} (h : AllMovedOn x y) : MovedOnOrNew x y := fun e' he' => .inl (h e' he')

theorem MovedOnOrNew.edit {x : List Entry} {y z : Pool} {p : Entry → Bool} {f : Entry → Entry}
    (hedit : PoolEdit True y z p f) (h : MovedOnOrNew x y.1) : MovedOnOrNew x z.1 := by
  intro e' he'
  rcases hedit.mem he' with hold | ⟨e, he, hmoved⟩
  · exact h e' hold
  · rcases h e he with ⟨e0, he0, h0⟩ | hnew
    · exact .inl ⟨e0, he0, h0.trans hmoved.movedOn⟩
    · exact .inr (by rw [hmoved.record]; exact hnew)

/-- Edits keep that every entry has moved on, and they keep the ids. -/
theorem AllMovedOn.edits {x : List Entry} {y z : Pool} (hedits : PoolEdits True y z)
    (h : AllMovedOn x y.1 ∧ y.1.map (fun e => e.record.id) = x.map fun e => e.record.id) :
    AllMovedOn x z.1 ∧ z.1.map (fun e => e.record.id) = x.map fun e => e.record.id := by
  refine PoolEdits.keep (P := fun y => AllMovedOn x y.1 ∧ y.1.map (fun e => e.record.id) = x.map fun e => e.record.id)
    (fun y z p f hedit ⟨hmoved, hids⟩ => ⟨fun e' he' => ?_, hedit.ids.trans hids⟩) hedits h
  rcases hedit.mem he' with hold | ⟨e, he, hm⟩
  · exact hmoved e' hold
  · obtain ⟨e0, he0, h0⟩ := hmoved e he
    exact ⟨e0, he0, h0.trans hm.movedOn⟩

/-- What stands before a request is served: a lawful cycle, the ids of the start, every entry moved on. -/
def BeforeRequest (s₀ s : State) : Prop :=
  s.CycleLaw ∧ AllMovedOn s₀.night.entries s.night.entries ∧
    s.night.entries.map (fun e => e.record.id) = s₀.night.entries.map fun e => e.record.id

/-- What stands after it: a lawful cycle, every entry moved on or new. -/
def AfterRequest (s₀ s : State) : Prop := s.CycleLaw ∧ MovedOnOrNew s₀.night.entries s.night.entries

theorem new_of_hasId {s₀ : State} (h : BeforeRequest s₀ s) {r : Record} (hid : s.hasId r.id = false) :
    ∀ e ∈ s₀.night.entries, e.record.id ≠ (newEntry r).record.id := by
  obtain ⟨_, _, hids⟩ := h
  intro e he heq
  have : s.hasId r.id = true := by
    rw [hasId_iff, hids]
    exact List.mem_map.2 ⟨e, he, heq⟩
  rw [hid] at this
  cases this

theorem afterRequest_served {c : Instr} {s₀ : State} (h : Served c s t) (hs : BeforeRequest s₀ s) : AfterRequest s₀ t := by
  refine ⟨cycleLaw_served h hs.1, ?_⟩
  have hmoved : MovedOnOrNew s₀.night.entries s.night.entries := hs.2.1.weaken
  have hentries {l : List Entry} {n : Nat} (hp : t.pool = (l, n)) : t.night.entries = l := congrArg Prod.fst hp
  rcases served_pool h True with hp | hp | ⟨r, hid, _, hp | ⟨named, hp⟩⟩ | ⟨id, e, _, _, hp⟩ | hp |
    ⟨id, segs, e, he, hopen, _, _, _, hp⟩
  · exact (AllMovedOn.edits hp ⟨hs.2.1, hs.2.2⟩).1.weaken
  · rw [hentries hp]
    exact fun _ he => absurd he (by simp)
  · rw [hentries hp]
    intro e' he'
    rcases List.mem_append.1 he' with he' | he'
    · exact hmoved e' he'
    · exact .inr (List.mem_singleton.1 he' ▸ new_of_hasId hs hid)
  · rw [hentries hp]
    intro e' he'
    rcases mem_insertBefore he' with rfl | he'
    · exact .inr (new_of_hasId hs hid)
    · exact hmoved e' he'
  · rw [hentries hp]
    exact fun e' he' => hmoved e' (mem_of_mem_removeId he')
  · rw [hentries hp]
    exact fun e' he' => hmoved e' (List.mem_of_mem_filter he')
  · rw [hentries hp]
    obtain ⟨before, after, hl, _, _, hf⟩ := updateFirst_of_find?_some he
    have hu : updateId id (fun e => { e with chain := e.chain ++ segs }) s.night.entries = _ :=
      hf fun e : Entry => { e with chain := e.chain ++ segs }
    rw [hu]
    rw [hl] at hmoved
    intro e' he'
    rcases List.mem_append.1 he' with h' | h'
    · exact hmoved e' (by simp [h'])
    · rcases List.mem_cons.1 h' with rfl | h'
      · rcases hmoved e (by simp) with ⟨e0, he0, h0⟩ | hnew
        · refine .inl ⟨e0, he0, h0.trans ⟨rfl, Nat.le_refl _, fun hend => ?_⟩⟩
          rw [hopen] at hend
          cases hend
        · exact .inr hnew
      · exact hmoved e' (by simp [h'])

theorem beforeRequest_of_pool {s₀ : State} (hc : s.CycleLaw → t.CycleLaw) (hp : t.night = s.night)
    (h : BeforeRequest s₀ s) : BeforeRequest s₀ t := by
  obtain ⟨hcycle, hmoved⟩ := h
  unfold BeforeRequest
  rw [hp]
  exact ⟨hc hcycle, hmoved⟩

theorem beforeRequest_move {s₀ : State} (hm : Move s t) (h : BeforeRequest s₀ s) : BeforeRequest s₀ t :=
  ⟨cycleLaw_move hm h.1, AllMovedOn.edits (move_edits hm fun _ => h.1) h.2⟩

theorem movesOn (s₀ : State) (a : Option Instr) : StepsInto a (BeforeRequest s₀) (AfterRequest s₀) where
  queue _ _ h := h
  draw _ h := h
  elapse s n := beforeRequest_of_pool (cycleLaw_kept.elapse s n) (by simp)
  expiry s := beforeRequest_of_pool (cycleLaw_kept.expiry s) (by simp)
  pulse s _ h :=
    have h := beforeRequest_of_pool (cycleLaw_kept.pulse s) (pulse_cycle s).1 h
    ⟨h.1, h.2.1.weaken⟩
  event s levels order _ := runEvent_keeps (fun _ _ h => h) (fun _ _ => beforeRequest_move) (fun _ h => h) s levels order
  weaken _ h := ⟨h.1, h.2.1.weaken⟩
  power s straps low _ h := ⟨cycleLaw_kept.power s straps low h.1, fun _ he => absurd he (by simp [State.powerOnState, State.reset])⟩
  served _ _ _ := afterRequest_served
  fault s k _ h := by
    refine ⟨cycleLaw_faultEvent k h.1, ?_⟩
    exact PoolEdits.keep (P := fun y => MovedOnOrNew s₀.night.entries y.1) (fun _ _ _ _ he h => h.edit he)
      (faultEvent_edits k s) h.2
  port := fun _ _ ⟨_, _, _, ht⟩ h => ht ▸ h

/-- Settles O15: an entry after a step with the id of one before is that entry moved on, since ids are not shared. -/
theorem entriesMoveOneWay : Obligations.EntriesMoveOneWay := by
  intro s t ⟨_, hnodup⟩ hcycle hstep e he e' he' hid
  have hafter := (movesOn s _).step hstep ⟨hcycle, fun e he => ⟨e, he, .refl e⟩, rfl⟩
  rcases hafter.2 e' he' with ⟨e0, he0, hmoved⟩ | hnew
  · have : e0 = e := List.inj_on_of_nodup_map hnodup he0 he (by rw [← hmoved.1, hid])
    exact this ▸ hmoved
  · exact absurd hid.symm (hnew e he)

end Sys2Proof.Machine

/-! PROOFS. The configuration (R86, R89, R113, R122, R190): which values are allowed, and how the items stand after a
change of one. -/

namespace Sys2Proof.Machine

variable {s t : State}

/-! ### One item changed -/

theorem Axes.get_set_same {α : Type} (x : Axes α) (ax : Axis) (v : α) : (x.set ax v).get ax = v := by cases ax <;> rfl

theorem Axes.get_set_ne {α : Type} (x : Axes α) {ax ax' : Axis} (v : α) (h : ax' ≠ ax) :
    (x.set ax v).get ax' = x.get ax' := by
  cases ax <;> cases ax' <;> first | rfl | contradiction

/-- The value of an item after another, or it, is replaced. -/
theorem Items.get_set {α : Type} (x : Items α) (i j : Item) (v : α) :
    (x.set i v).get j = if j = i then v else x.get j := by
  rcases i with ax | ax | ax | ax | ax | _ | _ | ax <;> rcases j with ax' | ax' | ax' | ax' | ax' | _ | _ | ax' <;>
    first
    | rfl
    | (by_cases h : ax' = ax
       · subst h
         simp [Items.set, Items.get, Axes.get_set_same]
       · simp [Items.set, Items.get, Axes.get_set_ne _ _ h, h])

theorem Items.get_orElse {α : Type} (x : Items (Option α)) (y : Items α) (i : Item) :
    (x.orElse y).get i = (x.get i).getD (y.get i) := by
  rcases i with ax | ax | ax | ax | ax | _ | _ | ax <;> first | rfl | (cases ax <;> rfl)

theorem Items.get_const {α : Type} (v : α) (i : Item) : (Items.const v).get i = v := by
  rcases i with ax | ax | ax | ax | ax | _ | _ | ax <;> first | rfl | (cases ax <;> rfl)

/-! ### The laws of the items -/

/-- The cross-checks between items (R86, R89, R122). -/
def crossLawful (v : Item → Int) : Prop :=
  ∀ ax : Axis, v (.vmax ax) ≤ v (.stepMax ax) ∧ v (.lower ax) < v (.upper ax) ∧
    v (.lower ax) ≤ v (.park ax) ∧ v (.park ax) ≤ v (.upper ax)

/-- The items with one value changed (R190). -/
def changed (f : Item → Int) (i : Item) (v : Int) : Item → Int := fun j => if j = i then v else f j

theorem itemsLawful_changed {f : Item → Int} (h : itemsLawful f) (i : Item) (v : Int) :
    itemsLawful (changed f i v) ↔ (i.range.1 ≤ v ∧ v ≤ i.range.2) ∧ crossLawful (changed f i v) := by
  refine and_congr_left fun _ => ⟨fun hr => by simpa [changed] using hr i, fun hv j => ?_⟩
  unfold changed
  split
  · rename_i hj
    rw [hj]
    exact hv
  · exact h.1 j

/-- The cross-check that a change of an item has to pass (R86, R89, R122). -/
def changePasses (f : Item → Int) (v : Int) : Item → Prop
  | .lower ax => v < f (.upper ax) ∧ v ≤ f (.park ax)
  | .upper ax => f (.lower ax) < v ∧ f (.park ax) ≤ v
  | .stepMax ax => f (.vmax ax) ≤ v
  | .vmax ax => v ≤ f (.stepMax ax)
  | .park ax => f (.lower ax) ≤ v ∧ v ≤ f (.upper ax)
  | _ => True

theorem crossLawful_changed {f : Item → Int} (h : crossLawful f) (i : Item) (v : Int) :
    crossLawful (changed f i v) ↔ changePasses f v i := by
  rcases i with ax | ax | ax | ax | ax | _ | _ | ax
  case lower =>
    refine ⟨fun hc => by have := hc ax; simp [changed] at this; exact ⟨this.2.1, this.2.2.1⟩, fun hv ax' => ?_⟩
    have := h ax'
    by_cases hax : ax' = ax
    · subst hax; obtain ⟨h1, h2⟩ := hv; simp [changed]; tauto
    · simpa [changed, hax] using this
  case upper =>
    refine ⟨fun hc => by have := hc ax; simp [changed] at this; exact ⟨this.2.1, this.2.2.2⟩, fun hv ax' => ?_⟩
    have := h ax'
    by_cases hax : ax' = ax
    · subst hax; obtain ⟨h1, h2⟩ := hv; simp [changed]; tauto
    · simpa [changed, hax] using this
  case stepMax =>
    refine ⟨fun hc => by have := hc ax; simp [changed] at this; exact this.1, fun hv ax' => ?_⟩
    have := h ax'
    have hv : f (.vmax ax) ≤ v := hv
    by_cases hax : ax' = ax
    · subst hax; simp [changed]; tauto
    · simpa [changed, hax] using this
  case vmax =>
    refine ⟨fun hc => by have := hc ax; simp [changed] at this; exact this.1, fun hv ax' => ?_⟩
    have := h ax'
    have hv : v ≤ f (.stepMax ax) := hv
    by_cases hax : ax' = ax
    · subst hax; simp [changed]; tauto
    · simpa [changed, hax] using this
  case park =>
    refine ⟨fun hc => by have := hc ax; simp [changed] at this; exact this.2.2, fun hv ax' => ?_⟩
    have := h ax'
    by_cases hax : ax' = ax
    · subst hax; obtain ⟨h1, h2⟩ := hv; simp [changed]; tauto
    · simpa [changed, hax] using this
  all_goals exact iff_of_true (fun ax' => by simpa [changed] using h ax') trivial

/-! ### The checks of a value (R190) -/

/-- A changed limit does not exclude E, but in UNSET (R86). -/
def State.emittedHeld (s : State) (i : Item) (v : Int) : Prop :=
  ∀ ax : Axis, (i = .lower ax ∨ i = .upper ax) → s.engine ≠ .unset →
    changed s.latest i v (.lower ax) ≤ (s.axes.get ax).emitted ∧
      (s.axes.get ax).emitted ≤ changed s.latest i v (.upper ax)

theorem crossCheck_iff (h : crossLawful s.latest) (i : Item) (v : Int) :
    s.crossCheck i v = true ↔ changePasses s.latest v i ∧ s.emittedHeld i v := by
  rcases i with ax | ax | ax | ax | ax | _ | _ | ax
  case lower =>
    have hheld : s.emittedHeld (.lower ax) v ↔ s.engine = .unset ∨
        v ≤ (s.axes.get ax).emitted ∧ (s.axes.get ax).emitted ≤ s.latest (.upper ax) := by
      simp [State.emittedHeld, changed]
      tauto
    rw [hheld]
    have := h ax
    simp only [State.crossCheck, State.limitsAllowed, changePasses, Bool.and_eq_true, Bool.or_eq_true, decide_eq_true_eq]
    tauto
  case upper =>
    have hheld : s.emittedHeld (.upper ax) v ↔ s.engine = .unset ∨
        s.latest (.lower ax) ≤ (s.axes.get ax).emitted ∧ (s.axes.get ax).emitted ≤ v := by
      simp [State.emittedHeld, changed]
      tauto
    rw [hheld]
    have := h ax
    simp only [State.crossCheck, State.limitsAllowed, changePasses, Bool.and_eq_true, Bool.or_eq_true, decide_eq_true_eq]
    tauto
  all_goals simp [State.crossCheck, changePasses, State.emittedHeld]

/-- A value is allowed exactly when the items stay lawful with it and it does not exclude E (R86, R190). -/
theorem valueAllowed_iff (h : itemsLawful s.latest) (i : Item) (v : Int) :
    s.valueAllowed i v = true ↔ itemsLawful (changed s.latest i v) ∧ s.emittedHeld i v := by
  rw [itemsLawful_changed h, crossLawful_changed h.2]
  simp only [State.valueAllowed, Bool.and_eq_true, decide_eq_true_eq, crossCheck_iff h.2]
  tauto

theorem valueAllowed_of_range {i : Item} {v : Int} (h : v < i.range.1 ∨ i.range.2 < v) : s.valueAllowed i v = false := by
  unfold State.valueAllowed
  rcases h with h | h
  · rw [decide_eq_false (Int.not_le.2 h)]; rfl
  · rw [decide_eq_false (p := v ≤ _) (Int.not_le.2 h)]; simp

theorem limitRange_within (ax : Axis) : -2147483648 ≤ (limitRange ax).1 ∧ (limitRange ax).2 ≤ 2147483647 := by
  cases ax <;> decide

theorem valueAllowed_park (h : itemsLawful s.latest) (ax : Axis) (v : Int) :
    s.valueAllowed (.park ax) v = true ↔ s.latest (.lower ax) ≤ v ∧ v ≤ s.latest (.upper ax) := by
  have hl : (limitRange ax).1 ≤ s.latest (.lower ax) := (h.1 (.lower ax)).1
  have hu : s.latest (.upper ax) ≤ (limitRange ax).2 := (h.1 (.upper ax)).2
  obtain ⟨h1, h2⟩ := limitRange_within ax
  simp only [State.valueAllowed, State.crossCheck, Bool.and_eq_true, decide_eq_true_eq]
  simp only [Item.range]
  omega

/-- Settles O25: the ranges are those written out, and a value is allowed by the law of the items with it. -/
theorem configValueChecks : Obligations.ConfigValueChecks := by
  refine ⟨fun _ => ⟨rfl, rfl, rfl, rfl, rfl⟩, rfl, rfl, rfl, rfl, rfl, rfl, rfl, rfl, rfl, rfl, rfl, rfl, rfl, rfl, rfl,
    rfl, fun s i v h => ⟨valueAllowed_of_range, fun ax => ⟨?_, ?_, ?_⟩, valueAllowed_iff h i v⟩⟩
  · rintro rfl
    exact valueAllowed_park h ax v
  · rintro rfl
    simp only [State.valueAllowed, State.crossCheck, Bool.and_eq_true, decide_eq_true_eq, and_assoc]
    rfl
  · rintro rfl
    simp only [State.valueAllowed, State.crossCheck, Bool.and_eq_true, decide_eq_true_eq, and_assoc]
    rfl

end Sys2Proof.Machine

/-! PROOFS. The laws of the configuration, of the emitted position, of the guide quantities and of the offsets (R79 to
R90, R113, R122, R130, R135, R190) along a step. -/

namespace Sys2Proof.Machine

variable {s t u : State}

/-! ### The configuration along the moves -/

theorem latest_of_none (h : s.pendingItems = Items.const none) : s.latest = s.inForce.get := by
  funext i
  rw [State.latest, h, Items.get_const]
  rfl

theorem latest_of_items (hf : t.inForce = s.inForce) (hp : t.pendingItems = s.pendingItems) : t.latest = s.latest := by
  funext i
  rw [State.latest, State.latest, hf, hp]

theorem ConfigLaw.of_items (hf : t.inForce = s.inForce) (hp : t.pendingItems = s.pendingItems) (hs : s.ConfigLaw) :
    t.ConfigLaw := by
  unfold State.ConfigLaw
  rw [latest_of_items hf hp, hf]
  exact hs

/-- Within a demand event no value waits, and those in force are lawful (R190). -/
def State.ItemsSettled (s : State) : Prop := itemsLawful s.inForce.get ∧ s.pendingItems = Items.const none

theorem ItemsSettled.configLaw (h : s.ItemsSettled) : s.ConfigLaw := ⟨h.1, by rw [latest_of_none h.2]; exact h.1⟩

theorem openEvent_inForce (levels : Inputs Bool) (s : State) : (s.openEvent levels).inForce.get = s.latest := by
  funext i
  exact Items.get_orElse s.pendingItems s.inForce i

theorem itemsSettled_openEvent (levels : Inputs Bool) (hs : s.ConfigLaw) : (s.openEvent levels).ItemsSettled :=
  ⟨by rw [openEvent_inForce]; exact hs.2, rfl⟩

theorem takeMailbox_items (s : State) :
    s.takeMailbox.inForce = s.inForce ∧ s.takeMailbox.pendingItems = s.pendingItems := by
  constructor <;> simp

theorem move_items (h : Move s t) : t.inForce = s.inForce ∧ t.pendingItems = s.pendingItems := by
  cases h with
  | shelter f => constructor <;> simp
  | fault k => constructor <;> simp
  | judge => constructor <;> simp
  | aim h => exact ⟨State.aim_inForce s h, State.aim_pendingItems s h⟩
  | takeMailbox => constructor <;> simp
  | countGuide => constructor <;> simp
  | step => constructor <;> simp
  | onTarget => constructor <;> simp
  | capture => constructor <;> simp
  | settled => constructor <;> simp
  | holding => constructor <;> simp
  | countHold => constructor <;> simp
  | ends => constructor <;> simp
  | select => constructor <;> simp
  | arrive => constructor <;> simp
  | parkArrives => constructor <;> simp
  | _ => exact ⟨rfl, rfl⟩

theorem served_inForce {c : Instr} (h : Served c s t) : t.inForce = s.inForce := by
  cases h with
  | setNow => simp
  | place => simp [State.placed]
  | placeIdle => simp [State.placed]
  | placePark => simp [State.placed]
  | segments id segs => unfold State.appendSegments; dsimp only; split <;> rfl
  | stopTarget o dest => simp [State.stopTarget]
  | endPark => simp
  | report => simp
  | _ => rfl

/-- Only SET_CONFIG changes what is pending, and that to a value that is allowed (R190). -/
theorem served_pendingItems {c : Instr} (h : Served c s t) :
    t.pendingItems = s.pendingItems ∨
      ∃ i v, s.valueAllowed i v = true ∧ t = { s with pendingItems := s.pendingItems.set i (some v) } := by
  cases h with
  | config i v hv => exact .inr ⟨i, v, hv, rfl⟩
  | setNow => exact .inl (by simp)
  | place => exact .inl (by simp [State.placed])
  | placeIdle => exact .inl (by simp [State.placed])
  | placePark => exact .inl (by simp [State.placed])
  | segments id segs => left; unfold State.appendSegments; dsimp only; split <;> rfl
  | stopTarget o dest => exact .inl (by simp [State.stopTarget])
  | endPark => exact .inl (by simp)
  | report => exact .inl (by simp)
  | _ => exact .inl rfl

theorem latest_set (s : State) (i : Item) (v : Int) :
    ({ s with pendingItems := s.pendingItems.set i (some v) } : State).latest = changed s.latest i v := by
  funext j
  show ((s.pendingItems.set i (some v)).get j).getD (s.inForce.get j) = _
  rw [Items.get_set]
  unfold changed
  split <;> rfl

theorem configLaw_served {c : Instr} (h : Served c s t) (hs : s.ConfigLaw) : t.ConfigLaw := by
  rcases served_pendingItems h with hp | ⟨i, v, hv, rfl⟩
  · exact ConfigLaw.of_items (served_inForce h) hp hs
  · refine ⟨hs.1, ?_⟩
    rw [latest_set]
    exact ((valueAllowed_iff hs.2 i v).1 hv).1

/-! ### The state in which a law of the demand is kept -/

/-- The laws that the laws of the demand rest on. -/
structure State.Grounded (s : State) : Prop where
  config : s.ConfigLaw
  cycle : s.CycleLaw
  enables : s.EnableLaw

theorem Grounded.stepRange (h : s.Grounded) (i : Item) : i.range.1 ≤ s.inForce.get i ∧ s.inForce.get i ≤ i.range.2 :=
  h.config.1.1 i

/-- A demand event's moves find the items settled. -/
structure State.InEvent (s : State) : Prop where
  items : s.ItemsSettled
  cycle : s.CycleLaw
  enables : s.EnableLaw

theorem InEvent.grounded (h : s.InEvent) : s.Grounded := ⟨ItemsSettled.configLaw h.items, h.cycle, h.enables⟩

theorem inEvent_move (h : Move s t) (hs : s.InEvent) : t.InEvent := by
  obtain ⟨hf, hp⟩ := move_items h
  refine ⟨?_, cycleLaw_move h hs.cycle, enableLaw_move h hs.enables⟩
  unfold State.ItemsSettled
  rw [hf, hp]
  exact hs.items

/-- The engine, the axes, the guide unit and the items stay. -/
structure State.SameDemand (s t : State) : Prop where
  engine : t.engine = s.engine
  axes : t.axes = s.axes
  guide : t.guide = s.guide
  inForce : t.inForce = s.inForce
  pendingItems : t.pendingItems = s.pendingItems

/-- A law of the engine, the axes, the guide unit and the items that each thing a step can do keeps, where the laws it
rests on stand. -/
structure DemandLaw (X : State → Prop) : Prop where
  frame : ∀ s t, s.SameDemand t → X s → X t
  power : ∀ s straps low, X (State.powerOnState straps low s)
  opens : ∀ s levels, s.Grounded → X s → X (s.openEvent levels)
  move : ∀ s t, Move s t → s.InEvent → X s → X t
  served : ∀ {c : Instr} s t, Served c s t → s.Grounded → X s → X t
  fault : ∀ s k, s.enable = true ∨ s.engine = .stopped → s.Grounded → X s → X (s.faultEvent k)

theorem grounded_of_same (hs : s.Grounded) (hc : s.CycleLaw → t.CycleLaw) (hd : s.SameDrives t)
    (hf : t.inForce = s.inForce) (hp : t.pendingItems = s.pendingItems) : t.Grounded :=
  ⟨ConfigLaw.of_items hf hp hs.config, hc hs.cycle, EnableLaw.of_same hd hs.enables⟩

theorem pulse_sameDemand (s : State) : s.SameDemand s.pulse := by
  unfold State.pulse
  dsimp only
  split
  · split <;> constructor <;> simp
  · exact ⟨rfl, rfl, rfl, rfl, rfl⟩

theorem DemandLaw.kept {X : State → Prop} (h : DemandLaw X) : KeptBySteps fun s => s.Grounded ∧ X s where
  queue s _ hs := ⟨⟨hs.1.config, hs.1.cycle, hs.1.enables⟩, h.frame s _ ⟨rfl, rfl, rfl, rfl, rfl⟩ hs.2⟩
  draw s hs := ⟨⟨hs.1.config, hs.1.cycle, hs.1.enables⟩, h.frame s _ ⟨rfl, rfl, rfl, rfl, rfl⟩ hs.2⟩
  power s straps low hs := by
    have hreset : itemsLawful Items.defaults.get := by
      refine ⟨fun i => ?_, fun ax => by cases ax <;> decide⟩
      rcases i with ax | ax | ax | ax | ax | _ | _ | ax <;> first | decide | (cases ax <;> decide)
    refine ⟨⟨?_, cycleLaw_kept.power s straps low hs.1.cycle, rfl⟩, h.power s straps low⟩
    exact ItemsSettled.configLaw ⟨hreset, rfl⟩
  elapse s n hs :=
    ⟨grounded_of_same hs.1 (cycleLaw_kept.elapse s n) (elapse_sameDrives n s) (by simp) (by simp),
      h.frame _ _ ⟨by simp, by simp, by simp, by simp, by simp⟩ hs.2⟩
  expiry s hs :=
    ⟨grounded_of_same hs.1 (cycleLaw_kept.expiry s) (takeExpiry_sameDrives s) (by simp) (by simp),
      h.frame _ _ ⟨by simp, by simp, by simp, by simp, by simp⟩ hs.2⟩
  pulse s hs := by
    have hsame := pulse_sameDemand s
    exact ⟨grounded_of_same hs.1 (cycleLaw_kept.pulse s) (pulse_sameDrives s) hsame.inForce hsame.pendingItems,
      h.frame _ _ hsame hs.2⟩
  port := fun s _ ⟨_, _, _, ht⟩ hs =>
    ht ▸ ⟨⟨hs.1.config, hs.1.cycle, hs.1.enables⟩, h.frame s _ ⟨rfl, rfl, rfl, rfl, rfl⟩ hs.2⟩
  served s t hst hs :=
    ⟨⟨configLaw_served hst hs.1.config, cycleLaw_served hst hs.1.cycle, enableLaw_served hst hs.1.enables⟩,
      h.served s t hst hs.1 hs.2⟩
  fault s k hk hs :=
    ⟨⟨ConfigLaw.of_items (by simp) (by simp) hs.1.config, cycleLaw_faultEvent k hs.1.cycle,
      enableLaw_faultEvent k hs.1.enables⟩, h.fault s k hk hs.1 hs.2⟩
  event := runEvent_keeps (Q := fun s => s.InEvent ∧ X s)
    (fun s levels hs =>
      ⟨⟨itemsSettled_openEvent levels hs.1.config, hs.1.cycle, hs.1.enables⟩, h.opens s levels hs.1 hs.2⟩)
    (fun s t hm hs => ⟨inEvent_move hm hs.1, h.move s t hm hs.1 hs.2⟩)
    (fun s hs =>
      ⟨⟨ItemsSettled.configLaw hs.1.items, hs.1.cycle, hs.1.enables⟩, h.frame s _ ⟨rfl, rfl, rfl, rfl, rfl⟩ hs.2⟩)

/-! ### What the operations do to the axes -/

theorem fold_fold (a : AxisState) : a.fold.fold = a.fold := rfl

theorem map_fold_fold (x : Axes AxisState) : (x.map AxisState.fold).map AxisState.fold = x.map AxisState.fold := rfl

/-- The end of the ACTIVE entry folds every axis, or finds no entry ACTIVE (R91). -/
theorem endActive_axes (o : EndOutcome) (s : State) :
    (s.endActive o).axes = s.axes.map AxisState.fold ∨ s.activeEntry = none ∧ s.endActive o = s := by
  rcases he : s.activeEntry with _ | e
  · exact .inr ⟨rfl, State.endActive_none s o he⟩
  · exact .inl (State.endActive_some s o he).2.2.1

theorem scan_axes (b : Bool) (n : Nat) (s : State) : (State.scan b n s).axes = s.axes := by
  obtain ⟨s', hs', h⟩ := State.scan_cases (P := fun x => x.axes = s.axes) b
    (fun _ _ _ h _ => h) (fun _ _ h _ => h) n s rfl
  rcases h with ⟨r, h⟩ | ⟨e, k, az, _, h⟩ <;> rw [h]
  · unfold State.wait; dsimp only; split <;> split <;> exact hs'
  · unfold State.start; dsimp only; split <;> exact hs'

theorem takeMailbox_axes (s : State) : s.takeMailbox.axes = s.axes := by
  unfold State.takeMailbox; split <;> rfl

theorem countGuide_axes (s : State) : s.countGuide.axes = s.axes := by
  unfold State.countGuide
  split
  · split <;> rfl
  all_goals rfl

theorem setOnTarget_axes (b : Bool) (s : State) : (s.setOnTarget b).axes = s.axes := by simp

theorem evaluateOnTarget_axes (runout : Bool) (s : State) : (s.evaluateOnTarget runout).axes = s.axes := by
  unfold State.evaluateOnTarget
  dsimp only
  split <;> exact setOnTarget_axes _ s

theorem aim_axes {a : State × Axes Int × Axes Int} (h : s.aim = some a) : a.1.axes = s.axes := by
  rcases s.aim_cases h with h | ⟨_, _, _, _, h⟩
  · rw [h]
  · rw [h]; rfl

theorem capture_axes (s : State) : s.capture.axes = s.axes := by
  unfold State.capture; dsimp only; split <;> rfl

/-- Every axis folded, or left as it was. -/
def FoldedOrSame (s t : State) : Prop := t.axes = s.axes ∨ t.axes = s.axes.map AxisState.fold

theorem endAndSelect_folds (o : EndOutcome) (s : State) : FoldedOrSame s (s.endAndSelect o) := by
  unfold State.endAndSelect State.select FoldedOrSame
  rw [scan_axes]
  rcases endActive_axes o s with h | ⟨_, h⟩
  · exact .inr h
  · rw [h]
    exact .inl rfl

theorem endActive_enterParking_axes (o : EndOutcome) (s : State) :
    (s.endActive o).enterParking.axes = s.axes.map AxisState.fold := by
  show (s.endActive o).axes.map AxisState.fold = _
  rcases endActive_axes o s with h | ⟨_, h⟩ <;> rw [h]
  rfl

theorem faultEvent_folds (k : FaultKind) (s : State) : FoldedOrSame s (s.faultEvent k) := by
  unfold State.faultEvent
  split
  · left
    split <;> rfl
  · dsimp only
    have h := endActive_axes .fault
      { s with faults := { s.faults with first := some ⟨k, s.time.mountTime, s.engine.state, s.activeId⟩ } }
    unfold FoldedOrSame
    rcases h with h | ⟨_, h⟩
    · right
      split <;> simpa using h
    · left
      rw [h]
      split <;> simp

theorem formShelter_folds (s : State) : FoldedOrSame s s.formShelter := by
  refine formShelter_keeps (P := FoldedOrSame s) (.inl rfl) (fun _ h => h) (fun _ _ h => h) (fun u _ h => ?_) (fun u _ h => ?_)
  · right
    rw [endActive_enterParking_axes]
    rcases h with h | h <;> rw [h]
    rfl
  · right
    show u.axes.map AxisState.fold = _
    rcases h with h | h <;> rw [h]
    rfl

/-- What a move does to the axes: nothing, the fold, new motions, the blend or the step. -/
theorem move_axes (h : Move s t) :
    FoldedOrSame s t ∨ (∃ m, t.axes = s.axes.map₂ AxisState.withMotion m) ∨
      (∃ runout, t = { s with axes := (s.wantedOf runout).map₂ (AxisState.blend s.inForce.cstep) s.axes }) ∨
      t = s.limitStage.stepStage := by
  cases h with
  | shelter f => exact .inl (formShelter_folds { s with inputs := s.inputs.set .shelter f })
  | fault k => exact .inl (faultEvent_folds k s)
  | judge => exact .inl (.inl (by simp))
  | aim h => exact .inl (.inl (aim_axes h))
  | fold => exact .inl (.inr rfl)
  | motions m => exact .inr (.inl ⟨m, rfl⟩)
  | takeMailbox => exact .inl (.inl (takeMailbox_axes s))
  | countGuide => exact .inl (.inl (countGuide_axes s))
  | blend runout => exact .inr (.inr (.inl ⟨runout, rfl⟩))
  | step => exact .inr (.inr (.inr rfl))
  | onTarget runout => exact .inl (.inl (evaluateOnTarget_axes runout s))
  | capture => exact .inl (.inl (capture_axes s))
  | ends o => exact .inl (endAndSelect_folds o s)
  | select => exact .inl (.inl (scan_axes _ _ s))
  | @arrive dest => exact .inl (.inl (by cases dest <;> rfl))
  | parkArrives =>
    exact .inr (.inl ⟨Axes.of fun ax => ⟨s.inForce.park.get ax * fineUnits, 0⟩, rfl⟩)
  | _ => exact .inl (.inl rfl)

/-! ### The law of the emitted position (R88) -/

theorem emitted_of_folded (h : FoldedOrSame s t) (ax : Axis) : (t.axes.get ax).emitted = (s.axes.get ax).emitted := by
  rcases h with h | h <;> rw [h]
  cases ax <;> rfl

theorem magnitude_le_iff (m x : Int) : magnitude x ≤ m ↔ -m ≤ x ∧ x ≤ m := by
  unfold magnitude; omega

theorem clamp_mem {a b : Int} (hab : a ≤ b) (x : Int) : a ≤ clamp a b x ∧ clamp a b x ≤ b := by
  unfold clamp; split <;> [omega; (split <;> omega)]

theorem clampAbs_mem {m : Int} (hm : 0 ≤ m) (x : Int) : -m ≤ clampAbs m x ∧ clampAbs m x ≤ m :=
  clamp_mem (by omega) x

/-- A step toward a demand, of at most `m`, stays between where it starts and the demand. -/
theorem stepped_mem {lower upper d e m : Int} (hm : 0 ≤ m) (hd : lower ≤ d ∧ d ≤ upper) (he : lower ≤ e ∧ e ≤ upper) :
    lower ≤ e + clampAbs m (d - e) ∧ e + clampAbs m (d - e) ≤ upper := by
  unfold clampAbs clamp; split <;> [omega; (split <;> omega)]

theorem step_axis (s : State) (ax : Axis) :
    (s.limitStage.stepStage.axes.get ax) =
      ((s.axes.get ax).limit (s.inForce.lower.get ax) (s.inForce.upper.get ax)).step (s.limitStage.stepCount ax) := by
  cases ax <;> rfl

theorem emitted_step (hs : s.InEvent) (hlaw : s.EmittedLaw) (hu : s.engine ≠ .unset) (ax : Axis) :
    s.latest (.lower ax) ≤ (s.limitStage.stepStage.axes.get ax).emitted ∧
      (s.limitStage.stepStage.axes.get ax).emitted ≤ s.latest (.upper ax) := by
  have he := hlaw hu ax
  have hitems := hs.items.1
  rw [latest_of_none hs.items.2] at he ⊢
  have hrange : s.inForce.lower.get ax ≤ s.inForce.upper.get ax := Int.le_of_lt (hitems.2 ax).2.1
  have hmax : (1 : Int) ≤ s.inForce.stepMax.get ax := (hitems.1 (.stepMax ax)).1
  have hd := clamp_mem hrange (s.axes.get ax).sum
  have he : s.inForce.lower.get ax ≤ (s.axes.get ax).emitted ∧ (s.axes.get ax).emitted ≤ s.inForce.upper.get ax := he
  rw [step_axis]
  show s.inForce.lower.get ax ≤ (s.axes.get ax).emitted + s.limitStage.stepCount ax ∧
    (s.axes.get ax).emitted + s.limitStage.stepCount ax ≤ s.inForce.upper.get ax
  unfold State.stepCount
  split
  · simpa using he
  · have haxis : s.limitStage.axes.get ax =
        (s.axes.get ax).limit (s.inForce.lower.get ax) (s.inForce.upper.get ax) := by cases ax <;> rfl
    rw [haxis]
    exact stepped_mem (by exact Int.le_trans (by decide) hmax) hd he

theorem ne_unset_of_enable (hs : s.EnableLaw) (h : s.enable = true ∨ s.engine = .stopped) : s.engine ≠ .unset := by
  rintro hu
  rw [hu] at h
  rw [hs, hu] at h
  simp [Engine.drivesOn] at h

theorem ne_unset_of_isDown {e : Engine} (h : e.isDown = false) : e ≠ .unset := by rintro rfl; cases h

theorem formShelter_unset (s : State) : s.engine = .unset → s.formShelter.engine = .unset := by
  intro hu
  have hkeep (u : State) : u.engine = s.engine → u.engine = .unset := fun h => h.trans hu
  refine formShelter_keeps (P := fun x => x.engine = .unset) hu (fun _ h => h) (fun _ _ h => h) (fun u ht h => ?_)
    (fun u ht h => ?_)
  · rw [h] at ht; cases ht
  · rw [h] at ht
    rcases ht with ht | ht | ⟨_, ht⟩ <;> cases ht

/-- A move does not leave UNSET (R95). -/
theorem move_unset (h : Move s t) (hs : s.EnableLaw) (hu : s.engine = .unset) : t.engine = .unset := by
  rcases move_drives h with h | h | ⟨_, _, _, rfl⟩ | ⟨_, rfl⟩ | ⟨k, hk, rfl⟩ | rfl
  · rw [h.engine, hu]
  · exact absurd hu (ne_unset_of_isDown h.before)
  · exact hu
  · exact formShelter_unset _ hu
  · exact absurd hu (ne_unset_of_enable hs hk)
  · rw [(judgeAlignment_cycle s).2.2, hu]

theorem EmittedLaw.of_axes (hu : s.engine = .unset → t.engine = .unset) (hl : t.latest = s.latest)
    (ha : ∀ ax, (t.axes.get ax).emitted = (s.axes.get ax).emitted) (hs : s.EmittedLaw) : t.EmittedLaw := by
  intro ht ax
  rw [hl, ha]
  exact hs (mt hu ht) ax

theorem emittedLaw_move (h : Move s t) (hs : s.InEvent) (hlaw : s.EmittedLaw) : t.EmittedLaw := by
  obtain ⟨hf, hp⟩ := move_items h
  have hl := latest_of_items hf hp
  have hu := move_unset h hs.enables
  rcases move_axes h with ha | ⟨m, ha⟩ | ⟨runout, rfl⟩ | rfl
  · exact EmittedLaw.of_axes hu hl (emitted_of_folded ha) hlaw
  · exact EmittedLaw.of_axes hu hl (fun ax => by rw [ha]; cases ax <;> rfl) hlaw
  · exact EmittedLaw.of_axes (s := s) hu hl (fun ax => by cases ax <;> rfl) hlaw
  · intro ht ax
    rw [hl]
    exact emitted_step hs hlaw ht ax

theorem positionAllowed_iff (s : State) (p : Axes Int) :
    s.positionAllowed p = true ↔ ∀ ax, s.latest (.lower ax) ≤ p.get ax ∧ p.get ax ≤ s.latest (.upper ax) := by
  unfold State.positionAllowed
  rw [axes_all_iff]
  refine forall_congr' fun ax => ?_
  have hget : (Axes.of fun ax => decide (s.latest (.lower ax) ≤ p.get ax) && decide (p.get ax ≤ s.latest (.upper ax))).get ax =
      (decide (s.latest (.lower ax) ≤ p.get ax) && decide (p.get ax ≤ s.latest (.upper ax))) := by cases ax <;> rfl
  rw [hget, id_eq, Bool.and_eq_true, decide_eq_true_eq, decide_eq_true_eq]

theorem placed_axis (p : Axes Int) (s : State) (ax : Axis) :
    (s.placed p).axes.get ax = AxisState.place (p.get ax) := by cases ax <;> rfl

theorem emittedLaw_placed {p : Axes Int} (hp : s.positionAllowed p = true) (hl : t.latest = s.latest)
    (ha : ∀ ax, (t.axes.get ax).emitted = p.get ax) : t.EmittedLaw := by
  intro _ ax
  rw [hl, ha]
  exact (positionAllowed_iff s p).1 hp ax

theorem emittedLaw_faultEvent (k : FaultKind) (hk : s.enable = true ∨ s.engine = .stopped) (hs : s.EnableLaw)
    (hlaw : s.EmittedLaw) : (s.faultEvent k).EmittedLaw :=
  EmittedLaw.of_axes (fun hu => absurd hu (ne_unset_of_enable hs hk)) (latest_of_items (by simp) (by simp))
    (emitted_of_folded (faultEvent_folds k s)) hlaw

theorem stopTarget_folds (o : EndOutcome) (dest : StopDest) (s : State) : FoldedOrSame s (s.stopTarget o dest) := by
  have h : (s.stopTarget o dest).axes = (s.endActive o).axes := by simp [State.stopTarget]
  unfold FoldedOrSame
  rw [h]
  rcases endActive_axes o s with h | ⟨_, h⟩
  · exact .inr h
  · rw [h]
    exact .inl rfl

theorem emittedLaw_served {c : Instr} (h : Served c s t) (hs : s.Grounded) (hlaw : s.EmittedLaw) : t.EmittedLaw := by
  have hl : t.pendingItems = s.pendingItems → t.latest = s.latest := latest_of_items (served_inForce h)
  rcases served_pendingItems h with hp | ⟨i, v, hv, rfl⟩
  swap
  · intro hu ax
    have hheld := ((valueAllowed_iff hs.config.2 i v).1 hv).2 ax
    rw [latest_set]
    by_cases hi : i = .lower ax ∨ i = .upper ax
    · exact hheld hi hu
    · obtain ⟨h1, h2⟩ := not_or.1 hi
      simpa [changed, Ne.symm h1, Ne.symm h2] using hlaw hu ax
  replace hl := hl hp
  cases h with
  | place p hstill hst hu hpos => exact emittedLaw_placed hpos hl fun ax => by rw [placed_axis]; rfl
  | placeIdle p hu howed hpos => exact emittedLaw_placed hpos hl fun ax => by cases ax <;> rfl
  | placePark p hu howed hpos => exact emittedLaw_placed hpos hl fun ax => by cases ax <;> rfl
  | softReset => exact EmittedLaw.of_axes (s := s) id hl (fun ax => by cases ax <;> rfl) hlaw
  | setNow => exact EmittedLaw.of_axes (s := s) (by simp) hl (fun ax => by simp) hlaw
  | segments id segs =>
    exact EmittedLaw.of_axes (s := s) (by unfold State.appendSegments; dsimp only; split <;> exact fun h => h) hl
      (fun ax => by unfold State.appendSegments; dsimp only; split <;> rfl) hlaw
  | nightStart h => exact EmittedLaw.of_axes (s := s) (by rcases h with h | h <;> rw [h] <;> simp) hl (fun _ => rfl) hlaw
  | stopTarget o dest h =>
    exact EmittedLaw.of_axes (s := s) (fun hu => by rw [hu] at h; cases h) hl (emitted_of_folded (stopTarget_folds o dest s)) hlaw
  | stopIdle h => exact EmittedLaw.of_axes (s := s) (by rcases h with h | h <;> rw [h] <;> simp) hl (fun _ => rfl) hlaw
  | endPark h =>
    exact EmittedLaw.of_axes (s := s) (fun hu => by rw [hu] at h; cases h) hl
      (emitted_of_folded (.inr (endActive_enterParking_axes _ s))) hlaw
  | park h =>
    exact EmittedLaw.of_axes (s := s) (fun hu => by rw [hu] at h; simp at h) hl (emitted_of_folded (s := s) (.inr rfl)) hlaw
  | host d => exact EmittedLaw.of_axes (s := s) id hl (fun ax => by cases ax <;> rfl) hlaw
  | clear => exact fun h => absurd rfl h
  | report r =>
    exact EmittedLaw.of_axes (s := s) (formShelter_unset { s with enclosure := { s.enclosure with report := some r } })
      hl (emitted_of_folded (formShelter_folds { s with enclosure := { s.enclosure with report := some r } })) hlaw
  | config => exact EmittedLaw.of_axes (s := s) (fun h => h) hl (fun _ => rfl) hlaw
  | _ => exact hlaw

theorem emittedLaw_demand : DemandLaw State.EmittedLaw where
  frame _ _ h := EmittedLaw.of_axes (fun hu => h.engine.trans hu) (latest_of_items h.inForce h.pendingItems)
    (fun ax => by rw [h.axes])
  power _ _ _ h := absurd rfl h
  opens s levels _ h := by
    refine EmittedLaw.of_axes (s := s) (fun hu => hu) ?_ (fun _ => rfl) h
    rw [latest_of_none rfl, openEvent_inForce]
  move _ _ := emittedLaw_move
  served _ _ := emittedLaw_served
  fault _ k hk hs := emittedLaw_faultEvent k hk hs.enables

end Sys2Proof.Machine

/-! PROOFS. The laws of the guide quantities and of the offsets (R79, R80, R83, R126, R130, R135) along a step, and with
those of the configuration and of the emitted position all the laws of the demand. -/

namespace Sys2Proof.Machine

variable {s t u : State}

/-- The engine is in a target state after only where it was before, or has become one; so for the states past
capture. -/
structure State.StaysTarget (s t : State) : Prop where
  target : t.engine.isTarget = false → s.engine.isTarget = false
  follows : t.engine.followsTarget = false → s.engine.followsTarget = false

theorem staysTarget_of_eq (h : t.engine = s.engine) : s.StaysTarget t := by constructor <;> rw [h] <;> exact fun h => h

theorem staysTarget_of_not (h : s.engine.isTarget = false) : s.StaysTarget t := by
  refine ⟨fun _ => h, fun _ => ?_⟩
  cases hs : s.engine <;> first | rfl | (rw [hs] at h; cases h)

theorem isTarget_of_followsTarget {e : Engine} (h : e.followsTarget = true) : e.isTarget = true := by
  cases e <;> first | rfl | cases h

theorem followsTarget_of_isTarget {e : Engine} (h : e.isTarget = false) : e.followsTarget = false := by
  cases e <;> first | rfl | cases h

theorem staysTarget_of_follows (h : t.engine.followsTarget = true) : s.StaysTarget t := by
  refine ⟨fun h' => ?_, fun h' => ?_⟩
  · rw [isTarget_of_followsTarget h] at h'; cases h'
  · rw [h] at h'; cases h'

theorem isTarget_of_waits (h : s.engine = .idle ∨ s.engine = .waiting ∨ ∃ d, s.engine = .stopping d) :
    s.engine.isTarget = false := by
  rcases h with h | h | ⟨_, h⟩ <;> rw [h] <;> rfl

/-! ### The guide unit -/

/-- In a lawful cycle a target state has an ACTIVE entry (R25). -/
theorem activeEntry_of_isTarget (hs : s.CycleLaw) (h : s.engine.isTarget = true) : ∃ e, s.activeEntry = some e := by
  obtain ⟨hlen, _⟩ := hs
  rcases he : s.activeEntry with _ | e
  · have : s.night.entries.filter Entry.isActive = [] :=
      List.filter_eq_nil_iff.2 fun e h => by simpa using List.find?_eq_none.1 he e h
    rw [this, h] at hlen
    cases hlen
  · exact ⟨e, rfl⟩

/-- The guide unit OFF with an empty mailbox and G as given. -/
def guideShut (g : AzEl Int) : Guide := ⟨.off, none, g⟩

theorem guide_shut (hs : s.GuideLaw) (h : s.engine.isTarget = false) : s.guide = guideShut ⟨0, 0⟩ := by
  obtain ⟨_, _, hoff, hshut⟩ := hs
  obtain ⟨hst, hbox⟩ := hshut (followsTarget_of_isTarget h)
  have ho := hoff h
  revert hst hbox ho
  rcases s.guide with ⟨st, box, off⟩
  rintro rfl rfl rfl
  rfl

/-- Whether an entry was ACTIVE or not, its end leaves the guide unit OFF with an empty mailbox (R134). -/
theorem endActive_guide (o : EndOutcome) (hc : s.CycleLaw) (hs : s.GuideLaw) :
    (s.endActive o).guide = guideShut s.guide.offset := by
  cases ht : s.engine.isTarget
  · have hnone : s.activeEntry = none := by
      rw [State.activeEntry, List.find?_eq_none]
      intro e he ha
      obtain ⟨hlen, _⟩ := hc
      rw [ht] at hlen
      have := List.length_eq_zero_iff.1 hlen
      rw [List.filter_eq_nil_iff] at this
      exact this e he ha
    rw [State.endActive_none s o hnone, guide_shut hs ht]
    rfl
  · obtain ⟨e, he⟩ := activeEntry_of_isTarget hc ht
    exact (State.endActive_some s o he).2.1

theorem GuideLaw.of_same (hg : t.guide = s.guide) (hf : t.inForce = s.inForce) (h : s.StaysTarget t)
    (hs : s.GuideLaw) : t.GuideLaw := by
  obtain ⟨hr, hb, hoff, hshut⟩ := hs
  unfold State.GuideLaw
  rw [hg, hf]
  exact ⟨hr, hb, fun h' => hoff (h.target h'), fun h' => hshut (h.follows h')⟩

theorem GuideLaw.of_shut {g : AzEl Int} (hg : t.guide = guideShut g)
    (haz : magnitude g.az ≤ t.inForce.guideRange) (hel : magnitude g.el ≤ t.inForce.guideRange)
    (h : t.engine.isTarget = false → g = ⟨0, 0⟩) : t.GuideLaw := by
  unfold State.GuideLaw
  rw [hg]
  exact ⟨⟨haz, hel⟩, fun m hm => (by cases hm), h, fun _ => ⟨rfl, rfl⟩⟩

theorem guideRange_nonneg (hs : s.ConfigLaw) : 0 ≤ s.inForce.guideRange :=
  Int.le_trans (by decide) (hs.1.1 .guideRange).1

theorem guideStepMax_nonneg (hs : s.ConfigLaw) : 0 ≤ s.inForce.guideStepMax :=
  Int.le_trans (by decide) (hs.1.1 .guideStepMax).1

theorem magnitude_zero : magnitude 0 = 0 := rfl

theorem GuideLaw.of_zero (hg : t.guide = guideShut ⟨0, 0⟩) (hr : 0 ≤ t.inForce.guideRange) : t.GuideLaw :=
  GuideLaw.of_shut hg hr hr fun _ => rfl

theorem magnitude_clampAbs {m : Int} (hm : 0 ≤ m) (x : Int) : magnitude (clampAbs m x) ≤ m :=
  (magnitude_le_iff _ _).2 (clampAbs_mem hm x)

/-! ### The guide law along the moves -/

theorem guideLaw_openEvent (levels : Inputs Bool) (hc : s.ConfigLaw) (hs : s.GuideLaw) :
    (s.openEvent levels).GuideLaw := by
  have hlaw : (s.openEvent levels).ConfigLaw := ItemsSettled.configLaw (itemsSettled_openEvent levels hc)
  have hr := guideRange_nonneg hlaw
  have hm := guideStepMax_nonneg hlaw
  obtain ⟨_, hb, hoff, hshut⟩ := hs
  refine ⟨⟨magnitude_clampAbs hr _, magnitude_clampAbs hr _⟩, fun m h => ?_, fun h => ?_, fun h => ?_⟩
  · have h : m ∈ s.guide.mailbox.map fun m =>
        { m with correction := m.correction.map (clampAbs (s.openEvent levels).inForce.guideStepMax) } := h
    obtain ⟨m', hm', rfl⟩ := Option.map_eq_some_iff.1 h
    exact ⟨magnitude_clampAbs hm _, magnitude_clampAbs hm _, (hb m' hm').2.2⟩
  · show s.guide.offset.map _ = _
    rw [hoff h]
    unfold AzEl.map
    have hz : clampAbs (s.openEvent levels).inForce.guideRange 0 = 0 := by
      unfold clampAbs clamp
      split <;> [omega; (split <;> omega)]
    exact congrArg₂ AzEl.mk hz hz
  · obtain ⟨hst, hbox⟩ := hshut h
    refine ⟨hst, ?_⟩
    show s.guide.mailbox.map _ = none
    rw [hbox]
    rfl

theorem takeMailbox_guide (s : State) :
    s.takeMailbox.guide = s.guide ∨
      ∃ m, s.takeMailbox.guide =
        { s.guide with
          mailbox := none
          offset := (s.guide.offset.map₂ (· + ·) m).map (clampAbs s.inForce.guideRange) } := by
  unfold State.takeMailbox
  split
  · exact .inl rfl
  · rename_i m _
    exact .inr ⟨m.correction, rfl⟩

theorem guideLaw_takeMailbox (hc : s.ConfigLaw) (he : s.engine.followsTarget = true) (hs : s.GuideLaw) :
    s.takeMailbox.GuideLaw := by
  rcases takeMailbox_guide s with h | ⟨m, h⟩
  · exact GuideLaw.of_same h (by simp) (staysTarget_of_eq (by simp)) hs
  · have hr := guideRange_nonneg hc
    unfold State.GuideLaw
    rw [h]
    refine ⟨⟨?_, ?_⟩, fun m hm => (by cases hm), fun ht => ?_, fun ht => ?_⟩
    · rw [(takeMailbox_items s).1]
      exact magnitude_clampAbs hr _
    · rw [(takeMailbox_items s).1]
      exact magnitude_clampAbs hr _
    · rw [takeMailbox_engine, isTarget_of_followsTarget he] at ht
      cases ht
    · rw [takeMailbox_engine, he] at ht
      cases ht

/-- A change of the guide state past capture is free (R126). -/
theorem guideLaw_state {st : GuideState} (hs : s.GuideLaw) (hg : t.guide = { s.guide with state := st })
    (hf : t.inForce = s.inForce) (ht : t.engine.followsTarget = true) : t.GuideLaw := by
  obtain ⟨hr, hb, _, _⟩ := hs
  unfold State.GuideLaw
  rw [hg, hf]
  refine ⟨hr, hb, fun h => ?_, fun h => ?_⟩
  · rw [isTarget_of_followsTarget ht] at h; cases h
  · rw [ht] at h; cases h

theorem guideLaw_countGuide (he : s.engine.followsTarget = true) (hs : s.GuideLaw) : s.countGuide.GuideLaw := by
  unfold State.countGuide
  split
  · split
    · exact guideLaw_state (s := s) (st := .lost) hs rfl rfl he
    · exact guideLaw_state (s := s) hs rfl rfl he
  all_goals exact hs

theorem guideLaw_capture (hs : s.GuideLaw) : s.capture.GuideLaw := by
  unfold State.capture
  dsimp only
  split
  · exact guideLaw_state (s := s) (st := .seeking) hs rfl rfl rfl
  · exact GuideLaw.of_same (s := s) rfl rfl (staysTarget_of_follows rfl) hs

/-- A scan with the guide unit OFF leaves it OFF, and G at 0 where it comes to a wait (R135). -/
theorem scan_guide (b : Bool) (n : Nat) {g : AzEl Int} (h : s.guide = guideShut g) :
    (State.scan b n s).guide = guideShut ⟨0, 0⟩ ∨
      (State.scan b n s).guide = guideShut g ∧ (State.scan b n s).engine.isTarget = true := by
  obtain ⟨s', hs', h⟩ := State.scan_cases (P := fun x => x.guide = guideShut g) b
    (fun _ _ _ h _ => h) (fun _ _ h _ => h) n s h
  have hzero : { s'.guide with offset := ⟨0, 0⟩ } = guideShut ⟨0, 0⟩ := by rw [hs']; rfl
  rcases h with ⟨r, h⟩ | ⟨e, k, az, _, h⟩ <;> rw [h]
  · left
    unfold State.wait
    dsimp only
    split <;> split <;> exact hzero
  · unfold State.start
    dsimp only
    split
    · exact .inr ⟨hs', rfl⟩
    · exact .inl hzero

theorem guideLaw_scan (b : Bool) (n : Nat) {g : AzEl Int} (h : s.guide = guideShut g)
    (hf : (State.scan b n s).inForce = s.inForce) (hr : 0 ≤ s.inForce.guideRange)
    (haz : magnitude g.az ≤ s.inForce.guideRange) (hel : magnitude g.el ≤ s.inForce.guideRange) :
    (State.scan b n s).GuideLaw := by
  rcases scan_guide b n h with h | ⟨h, ht⟩
  · exact GuideLaw.of_zero h (by rwa [hf])
  · exact GuideLaw.of_shut h (by rwa [hf]) (by rwa [hf]) fun h' => by rw [ht] at h'; cases h'

theorem guideLaw_endAndSelect (o : EndOutcome) (hr : 0 ≤ s.inForce.guideRange) (hc : s.CycleLaw) (hs : s.GuideLaw) :
    (s.endAndSelect o).GuideLaw := by
  have hf : (s.endActive o).inForce = s.inForce := by simp
  exact guideLaw_scan true _ (endActive_guide o hc hs) (by simp) (by rwa [hf]) (by rw [hf]; exact hs.1.1)
    (by rw [hf]; exact hs.1.2)

theorem guideLaw_select (b : Bool) (hr : 0 ≤ s.inForce.guideRange) (he : s.engine.isTarget = false) (hs : s.GuideLaw) :
    (s.select b).GuideLaw :=
  guideLaw_scan b _ (guide_shut hs he) (by simp) hr hr hr

/-- Entering a state with G at 0 and the guide unit OFF. -/
theorem guideLaw_zeroed (hr : 0 ≤ s.inForce.guideRange) (hc : s.CycleLaw) (hs : s.GuideLaw) (o : EndOutcome)
    (hg : t.guide = { (s.endActive o).guide with offset := ⟨0, 0⟩ }) (hf : t.inForce = s.inForce) : t.GuideLaw := by
  refine GuideLaw.of_zero ?_ (by rwa [hf])
  rw [hg, endActive_guide o hc hs]
  rfl

theorem guideLaw_endActive_enterParking (o : EndOutcome) (hr : 0 ≤ s.inForce.guideRange) (hc : s.CycleLaw)
    (hs : s.GuideLaw) : (s.endActive o).enterParking.GuideLaw :=
  guideLaw_zeroed hr hc hs o rfl (by simp)

theorem guideLaw_ready (hr : 0 ≤ s.inForce.guideRange) (hs : s.GuideLaw) (h : s.engine.isTarget = false)
    (hg : t.guide = { s.guide with offset := ⟨0, 0⟩ }) (hf : t.inForce = s.inForce) : t.GuideLaw := by
  refine GuideLaw.of_zero ?_ (by rwa [hf])
  rw [hg, guide_shut hs h]
  rfl

theorem guideLaw_formShelter (hr : 0 ≤ s.inForce.guideRange) (hc : s.CycleLaw) (hs : s.GuideLaw) :
    s.formShelter.GuideLaw := by
  refine (formShelter_keeps (P := fun x => x.inForce = s.inForce ∧ x.CycleLaw ∧ x.GuideLaw) ⟨rfl, hc, hs⟩
    (fun _ h => h) (fun _ _ h => h) (fun u _ h => ?_) (fun u hu h => ?_)).2.2
  · obtain ⟨hf, hc, hs⟩ := h
    exact ⟨by simpa using hf, cycleLaw_endActive_enterParking _ hc,
      guideLaw_endActive_enterParking _ (by rwa [hf]) hc hs⟩
  · obtain ⟨hf, hc, hs⟩ := h
    have ht := isTarget_of_waits hu
    exact ⟨hf, cycleLaw_enter hc ht rfl rfl rfl rfl, guideLaw_ready (by rwa [hf]) hs ht rfl rfl⟩

theorem faultEvent_stays (k : FaultKind) (h : s.engine = .stopped) :
    (s.faultEvent k).guide = s.guide ∧ (s.faultEvent k).axes = s.axes := by
  unfold State.faultEvent
  rw [h]
  dsimp only
  split <;> exact ⟨rfl, rfl⟩

theorem guideLaw_faultEvent (k : FaultKind) (hr : 0 ≤ s.inForce.guideRange) (hc : s.CycleLaw) (hs : s.GuideLaw) :
    (s.faultEvent k).GuideLaw := by
  refine GuideLaw.of_zero ?_ (by simpa using hr)
  by_cases h : s.engine = .stopped
  · rw [(faultEvent_stays k h).1]
    exact guide_shut hs (by rw [h]; rfl)
  · have hg := endActive_guide (s := { s with faults := { s.faults with
      first := some ⟨k, s.time.mountTime, s.engine.state, s.activeId⟩ } }) .fault hc hs
    unfold State.faultEvent
    split
    · contradiction
    · dsimp only
      split <;> exact congrArg (fun g : Guide => { g with offset := ⟨0, 0⟩ }) hg

theorem judgeAlignment_guide (s : State) : s.judgeAlignment.guide = s.guide := by
  unfold State.judgeAlignment
  split
  · rfl
  · dsimp only
    split <;> rfl

theorem evaluateOnTarget_guide (runout : Bool) (s : State) : (s.evaluateOnTarget runout).guide = s.guide := by
  unfold State.evaluateOnTarget
  dsimp only
  split <;> simp

theorem guideLaw_move (h : Move s t) (hs : s.InEvent) (hlaw : s.GuideLaw) : t.GuideLaw := by
  have hconfig := ItemsSettled.configLaw hs.items
  have hr := guideRange_nonneg hconfig
  have hf := (move_items h).1
  cases h with
  | shelter f =>
    exact guideLaw_formShelter (s := { s with inputs := s.inputs.set .shelter f }) hr hs.cycle hlaw
  | fault k => exact guideLaw_faultEvent k hr hs.cycle hlaw
  | judge => exact GuideLaw.of_same (judgeAlignment_guide s) hf (staysTarget_of_eq (judgeAlignment_cycle s).2.2) hlaw
  | aim h =>
    rcases s.aim_cases h with h | ⟨_, _, _, _, h⟩
    · rw [h]; exact hlaw
    · rw [h]; exact GuideLaw.of_same (s := s) rfl rfl (staysTarget_of_eq rfl) hlaw
  | slew h n az => exact GuideLaw.of_same (s := s) rfl rfl ⟨fun h' => (by cases h'), fun _ => by rw [h]; rfl⟩ hlaw
  | takeMailbox h => exact guideLaw_takeMailbox hconfig h hlaw
  | countGuide h => exact guideLaw_countGuide h hlaw
  | onTarget runout =>
    exact GuideLaw.of_same (evaluateOnTarget_guide runout s) hf (staysTarget_of_eq (evaluateOnTarget_sameDrives runout s).engine) hlaw
  | capture h => exact guideLaw_capture hlaw
  | settled h => exact GuideLaw.of_same (s := s) rfl rfl (staysTarget_of_follows rfl) hlaw
  | settling h => exact GuideLaw.of_same (s := s) rfl rfl (staysTarget_of_follows rfl) hlaw
  | tracking h => exact GuideLaw.of_same (s := s) rfl rfl (staysTarget_of_follows rfl) hlaw
  | holding h => exact GuideLaw.of_same (s := s) rfl rfl (staysTarget_of_follows rfl) hlaw
  | ends o h => exact guideLaw_endAndSelect o hr hs.cycle hlaw
  | select h => exact guideLaw_select false hr (by rw [h]; rfl) hlaw
  | @arrive dest h =>
    cases dest <;> exact GuideLaw.of_same (s := s) rfl rfl (staysTarget_of_not (by rw [h]; rfl)) hlaw
  | parkArrives h => exact GuideLaw.of_same (s := s) rfl rfl (staysTarget_of_not (by rw [h]; rfl)) hlaw
  | _ => exact GuideLaw.of_same (s := s) rfl rfl (staysTarget_of_eq rfl) hlaw

theorem mergeCorrection_bounds {m : Int} (hm : 0 ≤ m) (d : AzEl Int) {box : Option Mailbox}
    (hbox : ∀ b ∈ box, b.merges ≤ 65535) :
    magnitude (mergeCorrection m d box).1.correction.az ≤ m ∧
      magnitude (mergeCorrection m d box).1.correction.el ≤ m ∧ (mergeCorrection m d box).1.merges ≤ 65535 := by
  unfold mergeCorrection
  cases box with
  | none => exact ⟨magnitude_clampAbs hm _, magnitude_clampAbs hm _, Nat.zero_le _⟩
  | some b => exact ⟨magnitude_clampAbs hm _, magnitude_clampAbs hm _, Nat.min_le_left _ _⟩

theorem placePark_guide (p : Axes Int) (s : State) :
    ((((s.placed p).withParkOwed false).readyToPark).enter .parking).guide = { s.guide with offset := ⟨0, 0⟩ } := rfl

theorem guideLaw_served {c : Instr} (h : Served c s t) (hs : s.Grounded) (hlaw : s.GuideLaw) : t.GuideLaw := by
  have hr := guideRange_nonneg hs.config
  have hf := served_inForce h
  cases h with
  | setNow v => exact GuideLaw.of_same (s := s) (by simp) hf (staysTarget_of_eq (by simp)) hlaw
  | placeIdle p hu => exact GuideLaw.of_same (s := s) rfl rfl (staysTarget_of_not (by rw [hu]; rfl)) hlaw
  | placePark p hu => exact guideLaw_ready hr hlaw (by rw [hu]; rfl) (placePark_guide p s) hf
  | softReset hstill => exact GuideLaw.of_zero rfl hr
  | segments id segs =>
    unfold State.appendSegments
    dsimp only
    split <;> exact GuideLaw.of_same (s := s) rfl rfl (staysTarget_of_eq rfl) hlaw
  | nightStart h =>
    exact GuideLaw.of_same (s := s) rfl rfl (staysTarget_of_not (by rcases h with h | h <;> rw [h] <;> rfl)) hlaw
  | stopTarget o dest => exact guideLaw_zeroed hr hs.cycle hlaw o (by simp [State.stopTarget, State.zeroGuide]) hf
  | stopIdle h =>
    exact GuideLaw.of_same (s := s) rfl rfl (staysTarget_of_not (by rcases h with h | h <;> rw [h] <;> rfl)) hlaw
  | endPark => exact guideLaw_endActive_enterParking _ hr hs.cycle hlaw
  | park h => exact guideLaw_ready hr hlaw (isTarget_of_waits h) rfl rfl
  | clear h => exact GuideLaw.of_same (s := s) rfl rfl (staysTarget_of_not (by rw [h]; rfl)) hlaw
  | correct d h =>
    obtain ⟨hg, hb, _, _⟩ := hlaw
    have hmerge := mergeCorrection_bounds (guideStepMax_nonneg hs.config) d (box := s.guide.mailbox)
      fun b hbox => (hb b hbox).2.2
    refine ⟨hg, fun m hm => ?_, fun ht => ?_, fun ht => ?_⟩
    · cases hm
      exact hmerge
    · exact absurd (isTarget_of_followsTarget h) (by rw [show s.engine.isTarget = false from ht]; decide)
    · exact absurd h (by rw [show s.engine.followsTarget = false from ht]; decide)
  | zero h =>
    refine ⟨⟨hr, hr⟩, fun m hm => (by cases hm), fun _ => rfl, fun ht => ?_⟩
    exact absurd h (by rw [show s.engine.followsTarget = false from ht]; decide)
  | report r =>
    exact guideLaw_formShelter (s := { s with enclosure := { s.enclosure with report := some r } }) hr hs.cycle hlaw
  | _ => exact GuideLaw.of_same (s := s) rfl rfl (staysTarget_of_eq rfl) hlaw

theorem guideLaw_demand : DemandLaw State.GuideLaw where
  frame _ _ h := GuideLaw.of_same h.guide h.inForce (staysTarget_of_eq h.engine)
  power _ _ _ := GuideLaw.of_zero rfl (show (0 : Int) ≤ 8192 by decide)
  opens _ levels hs := guideLaw_openEvent levels hs.config
  move _ _ := guideLaw_move
  served _ _ := guideLaw_served
  fault _ k _ hs := guideLaw_faultEvent k (guideRange_nonneg hs.config) hs.cycle

/-! ### The offsets of an axis -/

/-- What the law of the offsets says of one axis in an engine state. -/
def AxisState.offsetLawful (e : Engine) (a : AxisState) : Prop :=
  (e.isTarget = false → a.applied = 0 ∧ a.host = 0 ∧ a.wanted = 0) ∧ (e.followsTarget = false → a.host = 0) ∧
    magnitude a.host ≤ 262144

theorem offsetLaw_iff : s.OffsetLaw ↔ ∀ ax, (s.axes.get ax).offsetLawful s.engine := Iff.rfl

/-- With no offset at all the law holds in every state. -/
theorem offsetLawful_zero {e : Engine} {a : AxisState} (h : a.applied = 0 ∧ a.host = 0 ∧ a.wanted = 0) :
    a.offsetLawful e := ⟨fun _ => h, fun _ => h.2.1, by rw [h.2.1]; decide⟩

theorem OffsetLaw.of_offsets (h : s.StaysTarget t)
    (ha : ∀ ax, (t.axes.get ax).applied = (s.axes.get ax).applied ∧ (t.axes.get ax).host = (s.axes.get ax).host ∧
      (t.axes.get ax).wanted = (s.axes.get ax).wanted) (hs : s.OffsetLaw) : t.OffsetLaw := by
  intro ax
  obtain ⟨happ, hhost, hwant⟩ := ha ax
  obtain ⟨hzero, hslew, hrange⟩ := hs ax
  rw [happ, hhost, hwant]
  exact ⟨fun h' => hzero (h.target h'), fun h' => hslew (h.follows h'), hrange⟩

theorem OffsetLaw.of_axes (h : s.StaysTarget t) (ha : t.axes = s.axes) (hs : s.OffsetLaw) : t.OffsetLaw :=
  OffsetLaw.of_offsets h (fun ax => by rw [ha]; exact ⟨rfl, rfl, rfl⟩) hs

theorem OffsetLaw.of_folded {x : Axes AxisState} (ha : t.axes = x.map AxisState.fold) : t.OffsetLaw := by
  intro ax
  rw [ha]
  exact offsetLawful_zero (by cases ax <;> exact ⟨rfl, rfl, rfl⟩)

/-- After the end of the ACTIVE entry, no offset is left, whether there was one or not (R91). -/
theorem endActive_offsets (o : EndOutcome) (hc : s.CycleLaw) (hs : s.OffsetLaw) (ax : Axis) :
    ((s.endActive o).axes.get ax).applied = 0 ∧ ((s.endActive o).axes.get ax).host = 0 ∧
      ((s.endActive o).axes.get ax).wanted = 0 := by
  rcases endActive_axes o s with h | ⟨hnone, h⟩
  · rw [h]
    cases ax <;> exact ⟨rfl, rfl, rfl⟩
  · rw [h]
    refine (hs ax).1 ?_
    cases ht : s.engine.isTarget
    · rfl
    · obtain ⟨e, he⟩ := activeEntry_of_isTarget hc ht
      rw [hnone] at he
      cases he

theorem OffsetLaw.of_ended (o : EndOutcome) (hc : s.CycleLaw) (hs : s.OffsetLaw) (ha : t.axes = (s.endActive o).axes) :
    t.OffsetLaw := by
  intro ax
  rw [ha]
  exact offsetLawful_zero (endActive_offsets o hc hs ax)

theorem offsetLaw_formShelter (hs : s.OffsetLaw) : s.formShelter.OffsetLaw := by
  refine formShelter_keeps hs (fun _ h => h) (fun _ _ h => h) (fun u _ _ => ?_) (fun u _ _ => ?_)
  · exact OffsetLaw.of_folded (endActive_enterParking_axes .shelter u)
  · exact OffsetLaw.of_folded (x := u.axes) rfl

theorem offsetLaw_faultEvent (k : FaultKind) (hc : s.CycleLaw) (hs : s.OffsetLaw) : (s.faultEvent k).OffsetLaw := by
  by_cases h : s.engine = .stopped
  · exact OffsetLaw.of_axes (staysTarget_of_not (by rw [h]; rfl)) (faultEvent_stays k h).2 hs
  · refine OffsetLaw.of_ended (s := { s with faults := { s.faults with
      first := some ⟨k, s.time.mountTime, s.engine.state, s.activeId⟩ } }) .fault hc hs ?_
    unfold State.faultEvent
    split
    · contradiction
    · dsimp only
      split <;> simp

theorem blend_zero {cstep : Int} (h : 0 ≤ cstep) : blend cstep 0 0 = 0 := by
  unfold blend
  rw [if_neg (by omega), if_neg (by omega)]

theorem offsetLaw_blend (runout : Bool) (hc : s.ConfigLaw) (hs : s.OffsetLaw) :
    State.OffsetLaw { s with axes := (s.wantedOf runout).map₂ (AxisState.blend s.inForce.cstep) s.axes } := by
  intro ax
  obtain ⟨hzero, hslew, hrange⟩ := hs ax
  have haxis : ((s.wantedOf runout).map₂ (AxisState.blend s.inForce.cstep) s.axes).get ax =
      (s.axes.get ax).blend s.inForce.cstep ((s.wantedOf runout).get ax) := by cases ax <;> rfl
  rw [haxis]
  refine ⟨fun ht => ?_, hslew, hrange⟩
  have ht : s.engine.isTarget = false := ht
  have hwanted : (s.wantedOf runout).get ax = 0 := by
    unfold State.wantedOf
    rw [ht]
    cases ax <;> rfl
  obtain ⟨happ, hhost, _⟩ := hzero ht
  rw [hwanted]
  refine ⟨?_, hhost, rfl⟩
  show blend _ 0 (s.axes.get ax).applied = 0
  rw [happ]
  exact blend_zero (Int.le_trans (by decide) (hc.1.1 .cstep).1)

theorem offsetLaw_motions (m : Axes Motion) (h : s.StaysTarget t) (ha : t.axes = m.map₂ (fun m a => a.withMotion m) s.axes)
    (hs : s.OffsetLaw) : t.OffsetLaw :=
  OffsetLaw.of_offsets h (fun ax => by rw [ha]; cases ax <;> exact ⟨rfl, rfl, rfl⟩) hs

theorem offsetLaw_move (h : Move s t) (hs : s.InEvent) (hlaw : s.OffsetLaw) : t.OffsetLaw := by
  cases h with
  | shelter f => exact offsetLaw_formShelter (s := { s with inputs := s.inputs.set .shelter f }) hlaw
  | fault k => exact offsetLaw_faultEvent k hs.cycle hlaw
  | judge => exact OffsetLaw.of_axes (s := s) (staysTarget_of_eq (judgeAlignment_cycle s).2.2) (by simp) hlaw
  | aim h => exact OffsetLaw.of_axes (staysTarget_of_eq (aim_sameDrives h).engine) (aim_axes h) hlaw
  | slew h n az => exact OffsetLaw.of_axes (s := s) ⟨fun h' => (by cases h'), fun _ => by rw [h]; rfl⟩ rfl hlaw
  | fold => exact OffsetLaw.of_folded (x := s.axes) rfl
  | motions m => exact OffsetLaw.of_offsets (s := s) (staysTarget_of_eq rfl) (fun ax => by cases ax <;> exact ⟨rfl, rfl, rfl⟩) hlaw
  | takeMailbox => exact OffsetLaw.of_axes (staysTarget_of_eq (by simp)) (takeMailbox_axes s) hlaw
  | countGuide => exact OffsetLaw.of_axes (staysTarget_of_eq (countGuide_sameDrives s).engine) (countGuide_axes s) hlaw
  | blend runout => exact offsetLaw_blend runout (ItemsSettled.configLaw hs.items) hlaw
  | step => exact OffsetLaw.of_offsets (s := s) (staysTarget_of_eq rfl) (fun ax => by cases ax <;> exact ⟨rfl, rfl, rfl⟩) hlaw
  | onTarget runout =>
    exact OffsetLaw.of_axes (staysTarget_of_eq (evaluateOnTarget_sameDrives runout s).engine)
      (evaluateOnTarget_axes runout s) hlaw
  | capture h =>
    refine OffsetLaw.of_axes (staysTarget_of_follows ?_) (capture_axes s) hlaw
    unfold State.capture
    dsimp only
    split <;> rfl
  | settled h => exact OffsetLaw.of_axes (s := s) (staysTarget_of_follows rfl) rfl hlaw
  | settling h => exact OffsetLaw.of_axes (s := s) (staysTarget_of_follows rfl) rfl hlaw
  | tracking h => exact OffsetLaw.of_axes (s := s) (staysTarget_of_follows rfl) rfl hlaw
  | holding h => exact OffsetLaw.of_axes (s := s) (staysTarget_of_follows rfl) rfl hlaw
  | ends o => exact OffsetLaw.of_ended o hs.cycle hlaw (scan_axes _ _ _)
  | select h => exact OffsetLaw.of_axes (staysTarget_of_not (by rw [h]; rfl)) (scan_axes _ _ s) hlaw
  | @arrive dest h =>
    cases dest <;> exact OffsetLaw.of_axes (s := s) (staysTarget_of_not (by rw [h]; rfl)) rfl hlaw
  | parkArrives h =>
    exact OffsetLaw.of_offsets (s := s) (staysTarget_of_not (by rw [h]; rfl)) (fun ax => by cases ax <;> exact ⟨rfl, rfl, rfl⟩) hlaw
  | _ => exact OffsetLaw.of_axes (s := s) (staysTarget_of_eq rfl) rfl hlaw

theorem offsetLaw_served {c : Instr} (h : Served c s t) (hs : s.Grounded) (hlaw : s.OffsetLaw) : t.OffsetLaw := by
  have placed {u : State} {p : Axes Int} (ha : u.axes = p.map AxisState.place) : u.OffsetLaw := fun ax => by
    rw [ha]
    exact offsetLawful_zero (by cases ax <;> exact ⟨rfl, rfl, rfl⟩)
  cases h with
  | setNow v => exact OffsetLaw.of_axes (s := s) (staysTarget_of_eq (by simp)) (by simp) hlaw
  | place p => exact placed rfl
  | placeIdle p => exact placed rfl
  | placePark p => exact OffsetLaw.of_folded (x := p.map AxisState.place) rfl
  | softReset hstill => exact fun ax => offsetLawful_zero (by cases ax <;> exact ⟨rfl, rfl, rfl⟩)
  | segments id segs =>
    unfold State.appendSegments
    dsimp only
    split <;> exact OffsetLaw.of_axes (s := s) (staysTarget_of_eq rfl) rfl hlaw
  | nightStart h =>
    exact OffsetLaw.of_axes (s := s) (staysTarget_of_not (by rcases h with h | h <;> rw [h] <;> rfl)) rfl hlaw
  | stopTarget o dest => exact OffsetLaw.of_ended o hs.cycle hlaw (by simp [State.stopTarget])
  | stopIdle h =>
    exact OffsetLaw.of_axes (s := s) (staysTarget_of_not (by rcases h with h | h <;> rw [h] <;> rfl)) rfl hlaw
  | endPark => exact OffsetLaw.of_folded (endActive_enterParking_axes .parked s)
  | park => exact OffsetLaw.of_folded (x := s.axes) rfl
  | host d h hd =>
    intro ax
    obtain ⟨_, _, _⟩ := hlaw ax
    have hhost : ((s.withHost d).axes.get ax).host = d.get ax := by cases ax <;> rfl
    refine ⟨fun ht => ?_, fun ht => ?_, ?_⟩
    · exact absurd (isTarget_of_followsTarget h) (by rw [show s.engine.isTarget = false from ht]; decide)
    · exact absurd h (by rw [show s.engine.followsTarget = false from ht]; decide)
    · rw [hhost]
      exact (magnitude_le_iff _ _).2 ((offsetAllowed_iff d).1 hd ax)
  | clear h => exact OffsetLaw.of_axes (s := s) (staysTarget_of_not (by rw [h]; rfl)) rfl hlaw
  | report r =>
    exact offsetLaw_formShelter (s := { s with enclosure := { s.enclosure with report := some r } }) hlaw
  | _ => exact OffsetLaw.of_axes (s := s) (staysTarget_of_eq rfl) rfl hlaw

theorem offsetLaw_demand : DemandLaw State.OffsetLaw where
  frame _ _ h := OffsetLaw.of_axes (staysTarget_of_eq h.engine) h.axes
  power _ _ _ := fun ax => offsetLawful_zero (by cases ax <;> exact ⟨rfl, rfl, rfl⟩)
  opens s _ _ := OffsetLaw.of_axes (s := s) (staysTarget_of_eq rfl) rfl
  move _ _ := offsetLaw_move
  served _ _ := offsetLaw_served
  fault _ k _ hs := offsetLaw_faultEvent k hs.cycle

/-- Settles O60: each law is kept move by move and request by request, where the configuration is lawful. -/
theorem demandLawsKept : Obligations.DemandLawsKept := by
  intro s t hconfig hcycle henable hstep
  have ground : s.Grounded := ⟨hconfig, hcycle, henable⟩
  have keep {X : State → Prop} (h : DemandLaw X) (hs : X s) : t.Grounded ∧ X t := h.kept.step hstep ⟨ground, hs⟩
  have always : DemandLaw fun _ => True :=
    { frame := fun _ _ _ _ => trivial, power := fun _ _ _ => trivial, opens := fun _ _ _ _ => trivial
      move := fun _ _ _ _ _ => trivial, served := fun _ _ _ _ _ => trivial, fault := fun _ _ _ _ _ => trivial }
  exact ⟨(keep always trivial).1.config, fun h => (keep emittedLaw_demand h).2, fun h => (keep guideLaw_demand h).2,
    fun h => (keep offsetLaw_demand h).2⟩

end Sys2Proof.Machine

/-! PROOFS. The laws of the time base, the model table, the ports, the notice sets and the event lines (R2, R6, R9, R59,
R65, R162, R163, R175, R180, R185) along a step. What the cycle does to the notice sets and the event lines is a run of
notices raised and events given. -/

namespace Sys2Proof.Machine

variable {s t u : State}

/-! ### Notices raised and events given -/

/-- The notice sets, the event lines, the time base, the ports, the model table, the queue and RESET_N stay. -/
structure State.SameBus (s t : State) : Prop where
  boxes : t.notices.boxes = s.notices.boxes
  lines : t.lines = s.lines
  time : t.time = s.time
  ports : t.ports = s.ports
  cells : t.model.cells = s.model.cells
  writePtr : t.model.writePtr = s.model.writePtr
  readPtr : t.model.readPtr = s.model.readPtr
  pending : t.pending = s.pending
  resetLow : t.resetLow = s.resetLow

/-- Of these parts, a run of operations has raised notices and given events, and left the others. -/
inductive Signalled (s : State) : State → Prop where
  | refl : Signalled s s
  | same {t u : State} (h : Signalled s t) (hsame : t.SameBus u) : Signalled s u
  | raise {t : State} (k : Notice) (h : Signalled s t) : Signalled s (t.raise k)
  | give {t : State} (src : Source) (h : Signalled s t) : Signalled s (t.give src)

theorem State.SameBus.signalled (h : s.SameBus t) : Signalled s t := .same .refl h

theorem Signalled.trans (h : Signalled s t) (h' : Signalled t u) : Signalled s u := by
  induction h' with
  | refl => exact h
  | same _ hsame ih => exact .same ih hsame
  | raise k _ ih => exact .raise k ih
  | give src _ ih => exact .give src ih

theorem Signalled.time (h : Signalled s t) : t.time = s.time := by
  induction h with
  | refl => rfl
  | same _ hsame ih => rw [hsame.time, ih]
  | raise k _ ih => exact ih
  | give src _ ih => exact ih

/-- The ports, the table's entries and pointers, the queue and RESET_N stay. -/
structure State.SameTables (s t : State) : Prop where
  ports : t.ports = s.ports
  cells : t.model.cells = s.model.cells
  writePtr : t.model.writePtr = s.model.writePtr
  readPtr : t.model.readPtr = s.model.readPtr
  pending : t.pending = s.pending
  resetLow : t.resetLow = s.resetLow

theorem Signalled.tables (h : Signalled s t) : s.SameTables t := by
  induction h with
  | refl => exact ⟨rfl, rfl, rfl, rfl, rfl, rfl⟩
  | same _ hsame ih =>
    exact ⟨hsame.ports.trans ih.ports, hsame.cells.trans ih.cells, hsame.writePtr.trans ih.writePtr,
      hsame.readPtr.trans ih.readPtr, hsame.pending.trans ih.pending, hsame.resetLow.trans ih.resetLow⟩
  | raise k _ ih => exact ⟨ih.ports, ih.cells, ih.writePtr, ih.readPtr, ih.pending, ih.resetLow⟩
  | give src _ ih => exact ⟨ih.ports, ih.cells, ih.writePtr, ih.readPtr, ih.pending, ih.resetLow⟩

theorem onActive_signals (f : Entry → Entry) (s : State) : Signalled s (s.onActive f) :=
  State.SameBus.signalled ⟨rfl, rfl, rfl, rfl, rfl, rfl, rfl, rfl, rfl⟩

theorem setOnTarget_signals (b : Bool) (s : State) : Signalled s (s.setOnTarget b) := by
  have hset : Signalled s { s with onTarget := b } :=
    State.SameBus.signalled ⟨rfl, rfl, rfl, rfl, rfl, rfl, rfl, rfl, rfl⟩
  unfold State.setOnTarget
  split
  · exact .refl
  · exact .give _ (.raise _ hset)

theorem reportEnd_signals (id : Nat) (o : EndOutcome) (s : State) : Signalled s (s.reportEnd id o) :=
  .same (.raise .targetEnd .refl) ⟨rfl, rfl, rfl, rfl, rfl, rfl, rfl, rfl, rfl⟩

theorem endActive_signals (o : EndOutcome) (s : State) : Signalled s (s.endActive o) := by
  unfold State.endActive
  split
  · exact .refl
  · rename_i e _
    have hfinish : Signalled s
        { (s.discardMailbox.withGuideState .off).foldAxes.onActive (Entry.finish o s.time.mountTime) with
          free := s.free + e.chain.length } :=
      State.SameBus.signalled ⟨rfl, rfl, rfl, rfl, rfl, rfl, rfl, rfl, rfl⟩
    exact (Signalled.give .targetEnd (hfinish.trans (reportEnd_signals e.record.id o _))).trans
      (setOnTarget_signals false _)

theorem endPending_signals (o : EndOutcome) (e : Entry) (s : State) : Signalled s (s.endPending o e) := by
  have hfinish : Signalled s
      { s.onPending (Entry.finish o s.time.mountTime) with free := s.free + e.chain.length } :=
    State.SameBus.signalled ⟨rfl, rfl, rfl, rfl, rfl, rfl, rfl, rfl, rfl⟩
  exact hfinish.trans (reportEnd_signals e.record.id o _)

theorem wait_signals (r : WaitReason) (b : Bool) (s : State) : Signalled s (s.wait r b) := by
  unfold State.wait
  dsimp only
  split <;> split
  · exact .same (.raise .listEmpty .refl) ⟨rfl, rfl, rfl, rfl, rfl, rfl, rfl, rfl, rfl⟩
  · exact .same .refl ⟨rfl, rfl, rfl, rfl, rfl, rfl, rfl, rfl, rfl⟩
  · exact .same (.raise .listEmpty .refl) ⟨rfl, rfl, rfl, rfl, rfl, rfl, rfl, rfl, rfl⟩
  · exact .same .refl ⟨rfl, rfl, rfl, rfl, rfl, rfl, rfl, rfl, rfl⟩

theorem start_signals (e : Entry) (k az : Int) (keep : Bool) (s : State) : Signalled s (s.start e k az keep) := by
  have hopened : Signalled s (State.raise .targetStart s) := .raise _ .refl
  unfold State.start
  dsimp only
  refine .give _ ?_
  split <;> exact .same hopened ⟨rfl, rfl, rfl, rfl, rfl, rfl, rfl, rfl, rfl⟩

theorem scan_signals (b : Bool) (n : Nat) (s : State) : Signalled s (State.scan b n s) := by
  obtain ⟨s', hs', h⟩ := State.scan_cases (P := Signalled s) b
    (fun _ e o h _ => h.trans (endPending_signals o e _))
    (fun _ _ h _ => .same h ⟨rfl, rfl, rfl, rfl, rfl, rfl, rfl, rfl, rfl⟩) n s .refl
  rcases h with ⟨r, h⟩ | ⟨e, k, az, _, h⟩ <;> rw [h]
  · exact hs'.trans (wait_signals r b _)
  · exact hs'.trans (start_signals e k az _ _)

theorem endAndSelect_signals (o : EndOutcome) (s : State) : Signalled s (s.endAndSelect o) :=
  (endActive_signals o s).trans (scan_signals true _ _)

theorem takeMailbox_signals (s : State) : Signalled s s.takeMailbox := by
  unfold State.takeMailbox
  split
  · exact .refl
  · refine .give _ (.same .refl ⟨rfl, rfl, rfl, rfl, rfl, rfl, rfl, rfl, rfl⟩)

theorem countGuide_signals (s : State) : Signalled s s.countGuide := by
  unfold State.countGuide
  split
  · split
    · exact .same (.raise .guide .refl) ⟨rfl, rfl, rfl, rfl, rfl, rfl, rfl, rfl, rfl⟩
    · exact .same .refl ⟨rfl, rfl, rfl, rfl, rfl, rfl, rfl, rfl, rfl⟩
  all_goals exact .refl

theorem evaluateOnTarget_signals (runout : Bool) (s : State) : Signalled s (s.evaluateOnTarget runout) := by
  unfold State.evaluateOnTarget
  dsimp only
  split
  · exact (setOnTarget_signals _ s).trans (onActive_signals _ _)
  · exact setOnTarget_signals _ s

theorem judgeAlignment_signals (s : State) : Signalled s s.judgeAlignment := by
  unfold State.judgeAlignment
  split
  · exact .same .refl ⟨rfl, rfl, rfl, rfl, rfl, rfl, rfl, rfl, rfl⟩
  · dsimp only
    split <;> exact .same .refl ⟨rfl, rfl, rfl, rfl, rfl, rfl, rfl, rfl, rfl⟩

theorem capture_signals (s : State) : Signalled s s.capture := by
  have hentered : Signalled s (State.give .capture s) := .give _ .refl
  unfold State.capture
  dsimp only
  split <;> exact .same hentered ⟨rfl, rfl, rfl, rfl, rfl, rfl, rfl, rfl, rfl⟩

theorem settleEnds_signals (s : State) : Signalled s s.settleEnds :=
  .same (.give .trackStart .refl) ⟨rfl, rfl, rfl, rfl, rfl, rfl, rfl, rfl, rfl⟩

theorem arrive_signals (dest : StopDest) (s : State) : Signalled s (s.arrive dest) := by
  cases dest
  · exact .same .refl ⟨rfl, rfl, rfl, rfl, rfl, rfl, rfl, rfl, rfl⟩
  · exact .same (.raise .night .refl) ⟨rfl, rfl, rfl, rfl, rfl, rfl, rfl, rfl, rfl⟩

theorem parkArrives_signals (s : State) : Signalled s s.parkArrives :=
  .same (.give .parked (.raise .night .refl)) ⟨rfl, rfl, rfl, rfl, rfl, rfl, rfl, rfl, rfl⟩

theorem stopTarget_signals (o : EndOutcome) (dest : StopDest) (s : State) : Signalled s (s.stopTarget o dest) :=
  .same (endActive_signals o s) ⟨rfl, rfl, rfl, rfl, rfl, rfl, rfl, rfl, rfl⟩

theorem enterParking_signals (s : State) : Signalled s s.enterParking :=
  .same .refl ⟨rfl, rfl, rfl, rfl, rfl, rfl, rfl, rfl, rfl⟩

theorem faultEvent_signals (k : FaultKind) (s : State) : Signalled s (s.faultEvent k) := by
  unfold State.faultEvent
  split
  · split <;> exact .raise _ (.same .refl ⟨rfl, rfl, rfl, rfl, rfl, rfl, rfl, rfl, rfl⟩)
  · dsimp only
    have hrecorded : Signalled s
        { s with faults := { s.faults with first := some ⟨k, s.time.mountTime, s.engine.state, s.activeId⟩ } } :=
      .same .refl ⟨rfl, rfl, rfl, rfl, rfl, rfl, rfl, rfl, rfl⟩
    have hended := hrecorded.trans (endActive_signals .fault _)
    refine .give _ (.raise _ ?_)
    generalize State.endActive .fault _ = u at hended ⊢
    have hstopped : Signalled s (((u.zeroGuide.enter .stopped).dropPulses.withNightFlag false).withReason none) :=
      .same hended ⟨rfl, rfl, rfl, rfl, rfl, rfl, rfl, rfl, rfl⟩
    generalize State.withReason _ _ = w at hstopped ⊢
    split
    · exact .same hstopped ⟨rfl, rfl, rfl, rfl, rfl, rfl, rfl, rfl, rfl⟩
    · exact hstopped

theorem formShelter_signals (s : State) : Signalled s s.formShelter :=
  formShelter_keeps .refl (fun _ h => .same (.raise .shelter h) ⟨rfl, rfl, rfl, rfl, rfl, rfl, rfl, rfl, rfl⟩)
    (fun _ _ h => .same h ⟨rfl, rfl, rfl, rfl, rfl, rfl, rfl, rfl, rfl⟩)
    (fun u _ h => (h.trans (endActive_signals .shelter u)).trans (enterParking_signals _))
    (fun _ _ h => h.trans (enterParking_signals _))

theorem aim_signals {a : State × Axes Int × Axes Int} (h : s.aim = some a) : Signalled s a.1 := by
  rcases s.aim_cases h with h | ⟨_, _, _, _, h⟩
  · rw [h]; exact .refl
  · rw [h]; exact .same .refl ⟨rfl, rfl, rfl, rfl, rfl, rfl, rfl, rfl, rfl⟩

/-- A move raises notices and gives events, or counts one line's timer (R161, R175). -/
theorem move_signals (h : Move s t) :
    Signalled s t ∨ ∃ id, t = { s with lines := s.lines.set id (s.lines.get id).count } := by
  cases h with
  | note k => exact .inl (.raise k .refl)
  | give src => exact .inl (.give src .refl)
  | countLine id => exact .inr ⟨id, rfl⟩
  | shelter f =>
    have hsampled : Signalled s { s with inputs := s.inputs.set .shelter f } := .same .refl ⟨rfl, rfl, rfl, rfl, rfl, rfl, rfl, rfl, rfl⟩
    exact .inl (hsampled.trans (formShelter_signals _))
  | fault k => exact .inl (faultEvent_signals k s)
  | judge => exact .inl (judgeAlignment_signals s)
  | aim h => exact .inl (aim_signals h)
  | takeMailbox => exact .inl (takeMailbox_signals s)
  | countGuide => exact .inl (countGuide_signals s)
  | onTarget runout => exact .inl (evaluateOnTarget_signals runout s)
  | capture => exact .inl (capture_signals s)
  | settled => exact .inl (settleEnds_signals s)
  | ends o => exact .inl (endAndSelect_signals o s)
  | select => exact .inl (scan_signals false _ s)
  | arrive => exact .inl (arrive_signals _ s)
  | parkArrives => exact .inl (parkArrives_signals s)
  | _ => exact .inl (.same .refl ⟨rfl, rfl, rfl, rfl, rfl, rfl, rfl, rfl, rfl⟩)

theorem move_time (h : Move s t) : t.time = s.time := by
  rcases move_signals h with h | ⟨_, rfl⟩
  · exact h.time
  · rfl

theorem move_tables (h : Move s t) : s.SameTables t := by
  rcases move_signals h with h | ⟨_, rfl⟩
  · exact h.tables
  · exact ⟨rfl, rfl, rfl, rfl, rfl, rfl⟩

/-! ### The notice sets (R175) -/

theorem form_lawful (b : NoticeBox) : b.form.lawful := rfl

theorem attentionLaw_iff : s.AttentionLaw ↔ ∀ l, (s.notices.boxes.get l).lawful :=
  ⟨fun ⟨h1, h2, h3⟩ l => by cases l <;> assumption, fun h => ⟨h .schedule, h .guide, h .enclosure⟩⟩

theorem AttentionLaw.of_boxes (h : t.notices.boxes = s.notices.boxes) (hs : s.AttentionLaw) : t.AttentionLaw := by
  unfold State.AttentionLaw
  rw [h]
  exact hs

theorem attentionLaw_raise (k : Notice) (s : State) : (s.raise k).AttentionLaw := ⟨rfl, rfl, rfl⟩

theorem attentionLaw_signalled (h : Signalled s t) (hs : s.AttentionLaw) : t.AttentionLaw := by
  induction h with
  | refl => exact hs
  | same _ hsame ih => exact AttentionLaw.of_boxes hsame.boxes ih
  | raise k => exact attentionLaw_raise k _
  | give _ _ ih => exact ih

theorem attentionLaw_onBox {l : Link} {f : NoticeBox → NoticeBox} (hf : ∀ b, (f b).lawful) (hs : s.AttentionLaw) :
    (s.onBox l f).AttentionLaw := by
  obtain ⟨h1, h2, h3⟩ := hs
  cases l
  · exact ⟨hf _, h2, h3⟩
  · exact ⟨h1, hf _, h3⟩
  · exact ⟨h1, h2, hf _⟩

/-- What a request signals: a change of one notice set, of an event line, of the time base or of the model table, a
soft reset, or a run of notices raised and events given. -/
theorem served_signals {c : Instr} (h : Served c s t) :
    Signalled s t ∨ (∃ l k, t = s.onBox l (NoticeBox.acknowledge k)) ∨ (∃ l k, t = s.onBox l (NoticeBox.withMask k)) ∨
      (∃ v : BitVec 48, c = .setTime v ∧ s.engine.isStill = true ∧ s.time.discipline = .free ∧
        t = State.raise .time (s.retime { s.time.jump v.toNat with slew := none, timeValid := true })) ∨
      (∃ v : BitVec 48, c = .setTime v ∧ s.time.discipline ≠ .free ∧ v.toNat % 1000000 = 0 ∧
        t = s.withTime { s.time with pendingSet := some v.toNat }) ∨
      (∃ m : ModelTable, t = s.withModel m ∧
        (cellsWf s.model.cells = true ∧ s.model.writePtr.index < 128 ∧ s.model.readPtr.index < 128 →
          cellsWf m.cells = true ∧ m.writePtr.index < 128 ∧ m.readPtr.index < 128)) ∨
      (∃ id l, ((s.lines.get id).lawful → EventLine.lawful l) ∧ (l.fresh = true → (s.lines.get id).fresh = true) ∧
        t = s.withLine id l) ∨
      t = s.softReset := by
  cases h with
  | acknowledge l k => exact .inr (.inl ⟨l, k, rfl⟩)
  | mask l k => exact .inr (.inr (.inl ⟨l, k, rfl⟩))
  | setNow v hstill hfree hc => exact .inr (.inr (.inr (.inl ⟨v, hc, hstill, hfree, rfl⟩)))
  | setLater v hfree hv hc => exact .inr (.inr (.inr (.inr (.inl ⟨v, hc, hfree, hv, rfl⟩))))
  | seek toRead page index h =>
    refine .inr (.inr (.inr (.inr (.inr (.inl ⟨_, rfl, fun ⟨hc, hw, hr⟩ => ?_⟩)))))
    cases toRead
    · exact ⟨hc, h, hr⟩
    · exact ⟨hc, hw, h⟩
  | write pairs =>
    exact .inr (.inr (.inr (.inr (.inr (.inl
      ⟨_, rfl, fun ⟨hc, _, hr⟩ => ⟨writePairs_wf _ pairs hc, Nat.mod_lt _ (by decide), hr⟩⟩)))))
  | read n =>
    exact .inr (.inr (.inr (.inr (.inr (.inl ⟨_, rfl, fun ⟨hc, hw, _⟩ => ⟨hc, hw, Nat.mod_lt _ (by decide)⟩⟩)))))
  | softReset => exact .inr (.inr (.inr (.inr (.inr (.inr (.inr rfl))))))
  | segments id segs =>
    left
    unfold State.appendSegments
    dsimp only
    split
    · exact .same (.raise .poolLow .refl) ⟨rfl, rfl, rfl, rfl, rfl, rfl, rfl, rfl, rfl⟩
    · exact .same .refl ⟨rfl, rfl, rfl, rfl, rfl, rfl, rfl, rfl, rfl⟩
  | nightStart => exact .inl (.same (.raise .night .refl) ⟨rfl, rfl, rfl, rfl, rfl, rfl, rfl, rfl, rfl⟩)
  | stopTarget o dest => exact .inl (stopTarget_signals o dest s)
  | endPark => exact .inl ((endActive_signals .parked s).trans (enterParking_signals _))
  | lineConfig id src m high delay width hd hw =>
    refine .inr (.inr (.inr (.inr (.inr (.inr (.inl ⟨id, _, fun _ => ?_, fun h => (by cases h), rfl⟩))))))
    refine ⟨⟨Nat.pos_of_ne_zero hd, Nat.le_of_lt_succ delay.isLt⟩, ⟨Nat.pos_of_ne_zero hw, Nat.le_of_lt_succ width.isLt⟩,
      Nat.zero_le _, fun n hn => (by cases hn), by simp, ?_⟩
    cases m <;> simp
  | lineSet id b h =>
    refine .inr (.inr (.inr (.inr (.inr (.inr (.inl ⟨id, { s.lines.get id with output := b }, fun hl => ?_, fun h => h, rfl⟩))))))
    obtain ⟨hd, hw, hi, ht, hp, hm⟩ := hl
    refine ⟨hd, hw, hi, ht, hp, ?_⟩
    rw [h] at hm
    show match (s.lines.get id).mode with | .off => _ | .manual => _ | .toggle => _ | .pulse => _ | .delayed => _
    rw [h]
    exact hm
  | report r =>
    have hreported : Signalled s { s with enclosure := { s.enclosure with report := some r } } :=
      .same .refl ⟨rfl, rfl, rfl, rfl, rfl, rfl, rfl, rfl, rfl⟩
    exact .inl (hreported.trans (formShelter_signals _))
  | placePark p =>
    have hplaced : Signalled s ((s.placed p).withParkOwed false) := .same .refl ⟨rfl, rfl, rfl, rfl, rfl, rfl, rfl, rfl, rfl⟩
    exact .inl (hplaced.trans (enterParking_signals _))
  | _ => exact .inl (.same .refl ⟨rfl, rfl, rfl, rfl, rfl, rfl, rfl, rfl, rfl⟩)

end Sys2Proof.Machine

/-! PROOFS. The time base along a step: how it counts, what a pulse does to it, and the laws of time, ports, notice sets,
model table and event lines (R2 to R13, R59, R65, R162, R175, R180). -/

namespace Sys2Proof.Machine

variable {s t u : State}

/-! ### The change of R10 and the counting of microseconds, on the time base alone -/

/-- The time base after the change of R10: the discipline state falls, and a fall drops a pending set. -/
def TimeBase.expired (t : TimeBase) : TimeBase :=
  match t.discipline with
  | .locked => { t with goodCount := 0, expiryDue := false, discipline := .holdover, pendingSet := none }
  | .acquiring => { t with goodCount := 0, expiryDue := false, discipline := .free, pendingSet := none }
  | .free => { t with goodCount := 0, expiryDue := false }
  | .holdover => { t with goodCount := 0, expiryDue := false }

/-- The time base with the pulse age `n` microseconds older; where that passes 2,500,000 the change is made, and at
2,500,000 it is due (R10). -/
def TimeBase.aged (n : Nat) (t : TimeBase) : TimeBase :=
  match t.pulseAge with
  | none => t
  | some a =>
    if expiryAge ≤ a then t
    else if a + n < expiryAge then { t with pulseAge := some (a + n) }
    else if a + n = expiryAge then { t with pulseAge := some expiryAge, expiryDue := true }
    else TimeBase.expired { t with pulseAge := some expiryAge }

/-- The time base after a change that is due is made, and as it was where none is. -/
def TimeBase.settled (t : TimeBase) : TimeBase := if t.expiryDue then t.expired else t

/-- The TIME notice raised or not (R15). -/
def State.RaisesTime (s t : State) : Prop := t = s ∨ t = State.raise .time s

theorem expirePulseAge_cases (s : State) : (s.withTime s.time.expired).RaisesTime s.expirePulseAge := by
  cases hd : s.time.discipline <;> simp [State.RaisesTime, State.expirePulseAge, TimeBase.expired, hd]

theorem takeExpiry_cases (s : State) : (s.withTime s.time.settled).RaisesTime s.takeExpiry := by
  unfold State.takeExpiry TimeBase.settled
  split
  · exact expirePulseAge_cases s
  · exact .inl rfl

theorem agePulse_cases (n : Nat) (s : State) : (s.withTime (s.time.aged n)).RaisesTime (s.agePulse n) := by
  rcases hp : s.time.pulseAge with _ | a
  · simp only [State.agePulse, TimeBase.aged, hp]
    exact .inl rfl
  · simp only [State.agePulse, TimeBase.aged, hp]
    by_cases h1 : expiryAge ≤ a
    · simp only [h1, if_true]
      exact .inl rfl
    by_cases h2 : a + n < expiryAge
    · simp only [h1, h2, if_true, if_false]
      exact .inl rfl
    by_cases h3 : a + n = expiryAge
    · simp only [h1, h3, if_true, if_false]
      exact .inl rfl
    · simp only [h1, h2, h3, if_false]
      exact expirePulseAge_cases (s.withTime { s.time with pulseAge := some expiryAge })

theorem expired_counts (t : TimeBase) :
    t.expired.mountTime = t.mountTime ∧ t.expired.eventDue = t.eventDue ∧ t.expired.slew = t.slew := by
  unfold TimeBase.expired
  split <;> exact ⟨rfl, rfl, rfl⟩

theorem settled_counts (t : TimeBase) :
    t.settled.mountTime = t.mountTime ∧ t.settled.eventDue = t.eventDue ∧ t.settled.slew = t.slew := by
  unfold TimeBase.settled
  split
  · exact expired_counts t
  · exact ⟨rfl, rfl, rfl⟩

theorem aged_counts (n : Nat) (t : TimeBase) :
    (t.aged n).mountTime = t.mountTime ∧ (t.aged n).eventDue = t.eventDue ∧ (t.aged n).slew = t.slew := by
  unfold TimeBase.aged
  split
  · exact ⟨rfl, rfl, rfl⟩
  · rename_i a _
    split
    · exact ⟨rfl, rfl, rfl⟩
    split
    · exact ⟨rfl, rfl, rfl⟩
    split
    · exact ⟨rfl, rfl, rfl⟩
    · exact expired_counts { t with pulseAge := some expiryAge }

/-- The time base `n` oscillator microseconds later. -/
def TimeBase.passed (n : Nat) (t : TimeBase) : TimeBase := (t.settled.count n).aged n

theorem elapse_zero (s : State) : s.elapse 0 = s := rfl

theorem elapse_time {n : Nat} (hn : n ≠ 0) (s : State) : (s.elapse n).time = s.time.passed n := by
  have htake : s.takeExpiry.time = s.time.settled := by
    rcases takeExpiry_cases s with h | h <;> rw [h] <;> rfl
  unfold State.elapse TimeBase.passed
  rw [if_neg hn, ← htake]
  dsimp only
  generalize s.takeExpiry = u
  rcases agePulse_cases n { u with
    time := u.time.count n, steps := u.steps.map (StepOut.pass n), ports := u.ports.map (Port.pass n) } with h | h <;>
    rw [h] <;> rfl

/-- What time passing does beside the time base: the step outputs and the gaps within frames advance, and the TIME
notice may be raised. -/
theorem elapse_boxes {P : State → Prop} (n : Nat) (s : State) (hs : P s)
    (hsame : ∀ u v : State, v.notices.boxes = u.notices.boxes → P u → P v) (hraise : ∀ u, P u → P (u.raise .time)) :
    P (s.elapse n) := by
  have raises {u v w : State} (h : v.RaisesTime w) (hv : v.notices.boxes = u.notices.boxes) (hu : P u) : P w := by
    have hv := hsame u v hv hu
    rcases h with rfl | rfl
    · exact hv
    · exact hraise _ hv
  by_cases hn : n = 0
  · subst hn; exact hs
  · have htake := raises (takeExpiry_cases s) (u := s) rfl hs
    unfold State.elapse
    rw [if_neg hn]
    dsimp only
    generalize s.takeExpiry = u at htake
    exact raises (agePulse_cases n { u with
      time := u.time.count n, steps := u.steps.map (StepOut.pass n), ports := u.ports.map (Port.pass n) }) (u := u) rfl htake

/-! ### The law of the time base -/

/-- What the law of the time base says of the time base alone. -/
def TimeBase.lawful (t : TimeBase) : Prop :=
  t.mountTime ≤ maxTime ∧ t.goodCount ≤ 4 ∧ t.spurious ≤ 65535 ∧ (t.discipline = .locked ↔ t.goodCount = 4) ∧
    (∀ a ∈ t.pulseAge, a ≤ 2500000) ∧ (∀ e ∈ t.phaseError, -500000 ≤ e ∧ e ≤ 499999) ∧
    (∀ w ∈ t.slew, 1 ≤ w.size ∧ w.size ≤ 20 ∧ 1 ≤ w.left ∧ w.left ≤ w.size) ∧
    (∀ v ∈ t.pendingSet, v ≤ maxTime ∧ v % 1000000 = 0 ∧ t.discipline ≠ .free)

theorem timeLaw_iff : s.TimeLaw ↔ s.time.lawful := Iff.rfl

theorem expired_lawful {t : TimeBase} (h : t.lawful) : t.expired.lawful := by
  obtain ⟨hm, _, hsp, _, ha, he, hw, hp⟩ := h
  unfold TimeBase.expired
  split <;> rename_i hd
  · exact ⟨hm, Nat.zero_le _, hsp, by simp, ha, he, hw, fun v hv => (by cases hv)⟩
  · exact ⟨hm, Nat.zero_le _, hsp, by simp, ha, he, hw, fun v hv => (by cases hv)⟩
  · exact ⟨hm, Nat.zero_le _, hsp, by simp [hd], ha, he, hw, hp⟩
  · exact ⟨hm, Nat.zero_le _, hsp, by simp [hd], ha, he, hw, hp⟩

theorem settled_lawful {t : TimeBase} (h : t.lawful) : t.settled.lawful := by
  unfold TimeBase.settled
  split
  · exact expired_lawful h
  · exact h

theorem applied_lawful {w : Slew} (h : 1 ≤ w.size ∧ w.size ≤ 20 ∧ 1 ≤ w.left ∧ w.left ≤ w.size) :
    ∀ w' ∈ w.applied, 1 ≤ w'.size ∧ w'.size ≤ 20 ∧ 1 ≤ w'.left ∧ w'.left ≤ w'.size := by
  obtain ⟨h1, h2, h3, h4⟩ := h
  unfold Slew.applied
  intro w' hw'
  split at hw'
  · cases hw'
  · cases hw'
    exact ⟨h1, h2, by show 1 ≤ w.left - 1; omega, by show w.left - 1 ≤ w.size; omega⟩

theorem correctionDue_eq_some {t : TimeBase} {w : Slew} (h : t.correctionDue = some w) :
    t.slew = some w ∧ w.events = w.nextPeriod ∧ 0 < w.left ∧ t.eventDue = false ∧ t.mountTime % 1000 ≤ 500 := by
  unfold TimeBase.correctionDue at h
  split at h
  · cases h
  · rename_i w' hw'
    split at h
    · rename_i hd
      cases h
      exact ⟨hw', hd⟩
    · cases h

/-- What counting does to mount time and the slew: `n` on, or with the correction of the period in progress one less or
one more (R9), held at the largest (R2). -/
theorem counted_cases (n : Nat) (t : TimeBase) :
    t.counted n = (min maxTime (t.mountTime + n), t.slew) ∨
      ∃ w, t.correctionDue = some w ∧ t.correctionAt - t.mountTime < n ∧
        t.counted n = (min maxTime (if w.remove then t.mountTime + n - 1 else t.mountTime + n + 1), w.applied) := by
  unfold TimeBase.counted
  split
  · exact .inl rfl
  · rename_i w hw
    split
    · exact .inl rfl
    · rename_i hn
      exact .inr ⟨w, hw, Nat.lt_of_not_le hn, rfl⟩

theorem counted_le (n : Nat) (t : TimeBase) : (t.counted n).1 ≤ maxTime := by
  rcases counted_cases n t with h | ⟨_, _, _, h⟩ <;> rw [h] <;> exact Nat.min_le_left _ _

/-- Counting never lowers mount time (R2). -/
theorem le_counted (n : Nat) {t : TimeBase} (h : t.mountTime ≤ maxTime) : t.mountTime ≤ (t.counted n).1 := by
  rcases counted_cases n t with h' | ⟨w, _, hn, h'⟩ <;> rw [h']
  · exact Nat.le_min.2 ⟨h, Nat.le_add_right _ _⟩
  · refine Nat.le_min.2 ⟨h, ?_⟩
    split <;> omega

theorem count_lawful (n : Nat) {t : TimeBase} (h : t.lawful) : (t.count n).lawful := by
  obtain ⟨_, hg, hsp, hd, ha, he, hw, hp⟩ := h
  refine ⟨counted_le n t, hg, hsp, hd, ha, he, ?_, hp⟩
  show ∀ w ∈ (t.counted n).2, _
  rcases counted_cases n t with h' | ⟨w, hdue, _, h'⟩ <;> rw [h']
  · exact hw
  · exact applied_lawful (hw w (correctionDue_eq_some hdue).1)

theorem aged_lawful (n : Nat) {t : TimeBase} (h : t.lawful) : (t.aged n).lawful := by
  have at_age {a : Nat} (h' : a ≤ 2500000) (due : Bool) : TimeBase.lawful { t with pulseAge := some a, expiryDue := due } := by
    obtain ⟨hm, hg, hsp, hd, _, he, hw, hp⟩ := h
    exact ⟨hm, hg, hsp, hd, fun b hb => by cases hb; exact h', he, hw, hp⟩
  unfold TimeBase.aged
  split
  · exact h
  · rename_i a _
    split
    · exact h
    split
    · rename_i hlt
      exact at_age (Nat.le_of_lt hlt) t.expiryDue
    split
    · exact at_age (a := expiryAge) (Nat.le_refl _) true
    · exact expired_lawful (at_age (a := expiryAge) (Nat.le_refl _) t.expiryDue)

theorem passed_lawful (n : Nat) {t : TimeBase} (h : t.lawful) : (t.passed n).lawful :=
  aged_lawful n (count_lawful n (settled_lawful h))

theorem passed_mountTime (n : Nat) (t : TimeBase) : (t.passed n).mountTime = (t.settled.counted n).1 :=
  (aged_counts n _).1

theorem passed_eventDue {n : Nat} {t : TimeBase} (h : t.eventDue = true) : (t.passed n).eventDue = true := by
  unfold TimeBase.passed
  rw [(aged_counts n _).2.1]
  show (t.settled.eventDue || _) = true
  rw [(settled_counts t).2.1, h]
  rfl

/-! ### A pulse, on the time base alone -/

theorem slewFor_lawful (e : Int) : ∀ w ∈ slewFor e, 1 ≤ w.size ∧ w.size ≤ 20 ∧ 1 ≤ w.left ∧ w.left ≤ w.size := by
  unfold slewFor
  intro w hw
  split at hw
  · cases hw
  · cases hw
    dsimp only
    omega

theorem phaseErrorAt_mem (m : Nat) : -500000 ≤ phaseErrorAt m ∧ phaseErrorAt m ≤ 499999 := by
  unfold phaseErrorAt
  split <;> omega

theorem countPulse_lawful (e : Int) {t : TimeBase} (h : t.lawful) (hd : t.discipline = .acquiring) : (t.countPulse e).lawful := by
  obtain ⟨hm, hg, hsp, hl, ha, he, hw, hp⟩ := h
  have hne : t.goodCount ≠ 4 := fun h4 => by rw [hl.2 h4] at hd; cases hd
  unfold TimeBase.countPulse
  split
  · exact ⟨hm, Nat.zero_le _, hsp, by simp [hd], ha, he, hw, hp⟩
  split
  · exact ⟨hm, Nat.le_refl _, hsp, by simp, ha, he, hw, fun v hv => ⟨(hp v hv).1, (hp v hv).2.1, by simp⟩⟩
  · rename_i h4
    refine ⟨hm, by show t.goodCount + 1 ≤ 4; omega, hsp, ?_, ha, he, hw, hp⟩
    show t.discipline = .locked ↔ t.goodCount + 1 = 4
    rw [hd]
    simp only [reduceCtorEq, false_iff]
    omega

theorem correctPulse_lawful (still : Bool) (e : Int) {t : TimeBase} (h : t.lawful) : (t.correctPulse still e).lawful := by
  obtain ⟨hm, hg, hsp, hl, ha, he, hw, hp⟩ := h
  unfold TimeBase.correctPulse
  split
  · exact ⟨Nat.min_le_left _ _, hg, hsp, hl, ha, he, hw, hp⟩
  · exact ⟨hm, hg, hsp, hl, ha, he, slewFor_lawful e, hp⟩

theorem correctPulse_discipline (still : Bool) (e : Int) (t : TimeBase) :
    (t.correctPulse still e).discipline = t.discipline := by
  unfold TimeBase.correctPulse
  split <;> rfl

theorem acquire_lawful {t : TimeBase} (h : t.lawful) : TimeBase.lawful { t with discipline := .acquiring, goodCount := 0 } := by
  obtain ⟨hm, hg, hsp, hl, ha, he, hw, hp⟩ := h
  exact ⟨hm, Nat.zero_le _, hsp, by simp, ha, he, hw, fun v hv => ⟨(hp v hv).1, (hp v hv).2.1, by simp⟩⟩

theorem discipline1_lawful (still : Bool) (e ec : Int) {t : TimeBase} (h : t.lawful) :
    (t.discipline1 still e ec).lawful := by
  have acquire := countPulse_lawful ec (correctPulse_lawful still e (acquire_lawful h)) (correctPulse_discipline _ _ _)
  unfold TimeBase.discipline1
  split <;> rename_i hd
  · split
    · obtain ⟨hm, hg, hsp, hl, ha, he, _, hp⟩ := h
      exact ⟨hm, hg, hsp, hl, ha, he, slewFor_lawful e, hp⟩
    · exact acquire
  · exact countPulse_lawful ec (correctPulse_lawful still e h) ((correctPulse_discipline _ _ _).trans hd)
  · exact acquire
  · exact acquire

theorem takePulse_lawful (still : Bool) {t : TimeBase} (h : t.lawful) : (t.takePulse still).lawful := by
  have hstart : TimeBase.lawful
      { t with pulseAge := some 0, expiryDue := false, phaseError := some (phaseErrorAt t.mountTime), slew := none } := by
    obtain ⟨hm, hg, hsp, hl, _, _, _, hp⟩ := h
    exact ⟨hm, hg, hsp, hl, fun a ha => by cases ha; exact Nat.zero_le _,
      fun e he => by cases he; exact phaseErrorAt_mem _, fun w hw => (by cases hw), hp⟩
  have hdisc := discipline1_lawful still (phaseErrorAt t.mountTime)
    (if still && t.pendingSet.isSome then 0 else phaseErrorAt t.mountTime) hstart
  obtain ⟨hm, hg, hsp, hl, ha, he, hw, hp⟩ := hdisc
  unfold TimeBase.takePulse
  dsimp only
  split
  · exact ⟨hm, hg, hsp, hl, ha, he, hw, hp⟩
  · rename_i v hv
    split
    · exact ⟨(h.2.2.2.2.2.2.2 v hv).1, hg, hsp, hl, ha, he, fun w hw => (by cases hw), fun v hv => (by cases hv)⟩
    · exact ⟨hm, hg, hsp, hl, ha, he, hw, fun v hv => (by cases hv)⟩

/-- What a rising edge of PPS does (R4, R15): counted as spurious, or taken, with the TIME notice or not. -/
theorem pulse_cases (s : State) :
    s.time.accepts = false ∧ s.pulse = s.withTime { s.time with spurious := count16 s.time.spurious 1 } ∨
      s.time.accepts = true ∧ (s.retime (s.time.takePulse s.engine.isStill)).RaisesTime s.pulse := by
  unfold State.pulse
  cases s.time.accepts
  · exact .inl ⟨rfl, rfl⟩
  · refine .inr ⟨rfl, ?_⟩
    dsimp only
    rw [if_pos rfl]
    split
    · exact .inr rfl
    · exact .inl rfl

theorem pulse_time (s : State) :
    s.pulse.time = { s.time with spurious := count16 s.time.spurious 1 } ∨ s.pulse.time = s.time.takePulse s.engine.isStill := by
  rcases pulse_cases s with ⟨_, h⟩ | ⟨_, h | h⟩ <;> rw [h]
  · exact .inl rfl
  · exact .inr (by simp)
  · exact .inr (by simp)

theorem timeLaw_kept : KeptBySteps State.TimeLaw where
  queue _ _ h := h
  draw _ h := h
  power _ _ _ _ := by
    refine ⟨Nat.zero_le _, Nat.zero_le _, Nat.zero_le _, ⟨fun h => (by cases h), fun h => (by cases h)⟩, fun a h => ?_, fun a h => ?_, fun a h => ?_, fun a h => ?_⟩ <;>
      cases h
  elapse s n h := by
    by_cases hn : n = 0
    · subst hn; exact h
    · rw [timeLaw_iff, elapse_time hn]
      exact passed_lawful n h
  expiry s h := by
    have ht : s.takeExpiry.time = s.time.settled := by rcases takeExpiry_cases s with h | h <;> rw [h] <;> rfl
    rw [timeLaw_iff, ht]
    exact settled_lawful h
  pulse s h := by
    rw [timeLaw_iff]
    rcases pulse_time s with ht | ht <;> rw [ht]
    · obtain ⟨hm, hg, _, hl, ha, he, hw, hp⟩ := h
      exact ⟨hm, hg, Nat.min_le_left _ _, hl, ha, he, hw, hp⟩
    · exact takePulse_lawful _ h
  port := fun _ _ ⟨_, _, _, ht⟩ h => ht ▸ h
  served s t h hs := by
    rcases served_signals h with h | ⟨_, _, rfl⟩ | ⟨_, _, rfl⟩ | ⟨v, _, _, _, rfl⟩ | ⟨v, _, hfree, hv, rfl⟩ | ⟨_, rfl, _⟩ | ⟨_, _, _, _, rfl⟩ | rfl
    · rw [timeLaw_iff, h.time]
      exact hs
    · exact hs
    · exact hs
    · rw [timeLaw_iff]
      obtain ⟨_, hg, hsp, hl, ha, he, _, hp⟩ := hs
      have ht : (State.raise .time (s.retime { s.time.jump v.toNat with slew := none, timeValid := true })).time =
        { s.time.jump v.toNat with slew := none, timeValid := true } := by simp
      rw [ht]
      exact ⟨Nat.le_of_lt_succ v.isLt, hg, hsp, hl, ha, he, fun w hw => (by cases hw), hp⟩
    · obtain ⟨hm, hg, hsp, hl, ha, he, hw, _⟩ := hs
      exact ⟨hm, hg, hsp, hl, ha, he, hw, fun x hx => by cases hx; exact ⟨Nat.le_of_lt_succ v.isLt, hv, hfree⟩⟩
    · exact hs
    · exact hs
    · exact hs
  fault s k _ h := by rw [timeLaw_iff, (faultEvent_signals k s).time]; exact h
  event := runEvent_keeps (Q := State.TimeLaw)
    (fun s _ ⟨hm, hg, hsp, hl, ha, he, hw, hp⟩ => ⟨hm, hg, hsp, hl, ha, he, fun w hw' => by
      have hw' : w ∈ s.time.slew.map fun w => { w with events := w.events + 1 } := hw'
      obtain ⟨w', h', rfl⟩ := Option.map_eq_some_iff.1 hw'
      exact hw w' h', hp⟩)
    (fun s t hm h => by rw [timeLaw_iff, move_time hm]; exact h) (fun _ h => h)

/-! ### The law of the model table -/

theorem ModelLaw.of_tables (h : s.SameTables t) (hs : s.ModelLaw) : t.ModelLaw := by
  unfold State.ModelLaw
  rw [h.cells, h.writePtr, h.readPtr]
  exact hs

theorem ModelLaw.of_model (h : t.model = s.model) (hs : s.ModelLaw) : t.ModelLaw := by
  unfold State.ModelLaw
  rw [h]
  exact hs

theorem modelLaw_kept : KeptBySteps State.ModelLaw where
  queue _ _ h := h
  draw _ h := h
  power _ _ _ _ := ⟨rfl, Nat.zero_lt_succ _, Nat.zero_lt_succ _⟩
  elapse s n := ModelLaw.of_model (by simp)
  expiry s := ModelLaw.of_model (by simp)
  pulse s h := by
    have hm : s.pulse.model = s.model := by
      rcases pulse_cases s with ⟨_, h⟩ | ⟨_, h | h⟩ <;> rw [h] <;> simp
    exact ModelLaw.of_model hm h
  port := fun _ _ ⟨_, _, _, ht⟩ h => ht ▸ h
  served s t h hs := by
    rcases served_signals h with h | ⟨_, _, rfl⟩ | ⟨_, _, rfl⟩ | ⟨v, _, _, _, rfl⟩ | ⟨v, _, hfree, hv, rfl⟩ | ⟨_, rfl, hm⟩ | ⟨_, _, _, _, rfl⟩ | rfl
    · exact ModelLaw.of_tables h.tables hs
    · exact hs
    · exact hs
    · exact ModelLaw.of_model (by simp) hs
    · exact hs
    · exact hm hs
    · exact hs
    · exact hs
  fault s k _ := ModelLaw.of_tables (faultEvent_signals k s).tables
  event := runEvent_keeps (fun _ _ h => h) (fun _ _ hm => ModelLaw.of_tables (move_tables hm)) (fun _ h => h)

/-! ### The law of the ports -/

theorem portLaw_iff : s.PortLaw ↔ ∀ l, (s.ports.get l).lawful :=
  ⟨fun ⟨h1, h2, h3⟩ l => by cases l <;> assumption, fun h => ⟨h .schedule, h .guide, h .enclosure⟩⟩

theorem PortLaw.of_ports (h : t.ports = s.ports) (hs : s.PortLaw) : t.PortLaw := by
  unfold State.PortLaw
  rw [h]
  exact hs

theorem pass_lawful (n : Nat) {p : Port} (h : p.lawful) : (p.pass n).lawful := by
  obtain ⟨hg, hh, hb, ho, ht, hr⟩ := h
  rcases p.pass_cases n with ⟨_, h'⟩ | ⟨hne, hgap, h'⟩ | ⟨_, _, h'⟩ <;> rw [h']
  · exact ⟨hg, hh, hb, ho, ht, hr⟩
  · exact ⟨hgap, fun h => absurd h hne, hb, ho, ht, hr⟩
  · exact ⟨Nat.zero_le _, fun _ => rfl, hb, ho, Nat.min_le_left _ _, trivial⟩

theorem initial_lawful (x : Straps) : (Port.initial x).lawful :=
  ⟨Nat.zero_le _, fun _ => rfl, Nat.zero_le _, Nat.zero_le _, Nat.zero_le _, trivial⟩

theorem served_ports {c : Instr} (h : Served c s t) : t.ports = s.ports := by
  rcases served_signals h with h | ⟨_, _, rfl⟩ | ⟨_, _, rfl⟩ | ⟨v, _, _, _, rfl⟩ | ⟨v, _, hfree, hv, rfl⟩ | ⟨_, rfl, hm⟩ | ⟨_, _, _, _, rfl⟩ | rfl
  · exact h.tables.ports
  · rfl
  · rfl
  · simp
  all_goals rfl

theorem portLaw_kept : KeptBySteps State.PortLaw where
  queue _ _ h := h
  draw _ h := h
  power _ _ _ _ := ⟨initial_lawful _, initial_lawful _, initial_lawful _⟩
  elapse s n h := by
    obtain ⟨h1, h2, h3⟩ := h
    unfold State.PortLaw
    rw [State.elapse_ports]
    exact ⟨pass_lawful n h1, pass_lawful n h2, pass_lawful n h3⟩
  expiry s := PortLaw.of_ports (by simp)
  pulse s := PortLaw.of_ports (by rcases pulse_cases s with ⟨_, h⟩ | ⟨_, h | h⟩ <;> rw [h] <;> simp)
  port := by
    rintro s t ⟨l, f, hf, rfl⟩ ⟨h1, h2, h3⟩
    cases l
    · exact ⟨hf h1, h2, h3⟩
    · exact ⟨h1, hf h2, h3⟩
    · exact ⟨h1, h2, hf h3⟩
  served _ _ h := PortLaw.of_ports (served_ports h)
  fault s k _ := PortLaw.of_ports (faultEvent_signals k s).tables.ports
  event := runEvent_keeps (fun _ _ h => h) (fun _ _ hm => PortLaw.of_ports (move_tables hm).ports) (fun _ h => h)

/-! ### The law of the notice sets -/

theorem reset_attentionLaw : State.reset.AttentionLaw := by
  unfold State.AttentionLaw NoticeBox.lawful
  decide

theorem attentionLaw_kept : KeptBySteps State.AttentionLaw where
  queue _ _ h := h
  draw _ h := h
  power s straps low _ := AttentionLaw.of_boxes (t := State.powerOnState straps low s) rfl reset_attentionLaw
  elapse s n h := elapse_boxes n s h (fun _ _ => AttentionLaw.of_boxes) (fun _ _ => attentionLaw_raise _ _)
  expiry s h := by
    rcases takeExpiry_cases s with h' | h' <;> rw [h']
    · exact h
    · exact attentionLaw_raise _ _
  pulse s h := by
    rcases pulse_cases s with ⟨_, h'⟩ | ⟨_, h' | h'⟩ <;> rw [h']
    · exact h
    · exact AttentionLaw.of_boxes (by simp) h
    · exact attentionLaw_raise _ _
  port := fun _ _ ⟨_, _, _, ht⟩ h => ht ▸ h
  served s t h hs := by
    rcases served_signals h with h | ⟨_, _, rfl⟩ | ⟨_, _, rfl⟩ | ⟨v, _, _, _, rfl⟩ | ⟨v, _, hfree, hv, rfl⟩ | ⟨_, rfl, hm⟩ | ⟨_, _, _, _, rfl⟩ | rfl
    · exact attentionLaw_signalled h hs
    · exact attentionLaw_onBox (fun _ => form_lawful _) hs
    · exact attentionLaw_onBox (fun _ => form_lawful _) hs
    · exact attentionLaw_raise _ _
    · exact hs
    · exact hs
    · exact hs
    · refine attentionLaw_iff.2 fun l => ?_
      have hbox : s.softReset.notices.boxes.get l = { s.notices.boxes.get l with latched := 0, attn := false } := by
        cases l <;> rfl
      rw [hbox]
      simp [NoticeBox.lawful]
  fault s k _ := attentionLaw_signalled (faultEvent_signals k s)
  event := runEvent_keeps (Q := State.AttentionLaw) (fun _ _ h => h)
    (fun _ _ hm h => by
      rcases move_signals hm with hm | ⟨_, rfl⟩
      · exact attentionLaw_signalled hm h
      · exact h)
    (fun _ h => h)

/-! ### The law of the event lines -/

/-- What the law of a line says of its phase and output in a mode (R162, R163). -/
def outputLawful (m : LineMode) (p : LinePhase) (b : Bool) : Prop :=
  match m with
  | .off => p = .quiet ∧ b = false
  | .manual => p = .quiet
  | .toggle => p = .quiet
  | .pulse => p ≠ .delay ∧ (b = true ↔ p = .active)
  | .delayed => b = true ↔ p = .active

/-- What the law of a line says beside its phase and output. -/
structure EventLine.Ranged (l : EventLine) : Prop where
  delay : 1 ≤ l.delay ∧ l.delay ≤ 65535
  width : 1 ≤ l.width ∧ l.width ≤ 65535
  ignored : l.ignored ≤ 65535
  timer : ∀ n ∈ l.timer, 1 ≤ n ∧ n ≤ 65535
  phase : l.phase = .quiet ↔ l.timer = none

theorem line_lawful_iff {l : EventLine} : l.lawful ↔ l.Ranged ∧ outputLawful l.mode l.phase l.output :=
  ⟨fun ⟨hd, hw, hi, ht, hp, hm⟩ => ⟨⟨hd, hw, hi, ht, hp⟩, hm⟩, fun ⟨⟨hd, hw, hi, ht, hp⟩, hm⟩ => ⟨hd, hw, hi, ht, hp, hm⟩⟩

theorem start_lawful {l : EventLine} (atEvent : Bool) {n : Nat} (p : LinePhase) (b : Bool) (hn : 1 ≤ n ∧ n ≤ 65535)
    (hl : l.Ranged) (hp : p ≠ .quiet) (hm : outputLawful l.mode p b) :
    (EventLine.start atEvent n { l with phase := p, output := b }).lawful := by
  refine line_lawful_iff.2 ⟨⟨hl.delay, hl.width, hl.ignored, fun m hm => ?_, ?_⟩, hm⟩
  · cases hm; exact hn
  · show p = .quiet ↔ some n = none
    simp [hp]

theorem quiet_lawful {l : EventLine} (h : l.Ranged) : l.quiet.lawful := by
  refine line_lawful_iff.2
    ⟨⟨h.delay, h.width, h.ignored, fun m hm => (by cases hm), by simp [EventLine.quiet]⟩, ?_⟩
  show outputLawful l.mode .quiet false
  cases l.mode <;> simp [outputLawful]

theorem trigger_lawful (atEvent : Bool) {l : EventLine} (h : l.lawful) : (l.trigger atEvent).lawful := by
  obtain ⟨hl, hm⟩ := line_lawful_iff.1 h
  have ignored : EventLine.lawful { l with ignored := count16 l.ignored 1 } :=
    line_lawful_iff.2 ⟨⟨hl.delay, hl.width, Nat.min_le_left _ _, hl.timer, hl.phase⟩, hm⟩
  unfold EventLine.trigger
  split <;> rename_i hmode <;> rw [hmode] at hm
  · exact h
  · exact h
  · refine line_lawful_iff.2 ⟨⟨hl.delay, hl.width, hl.ignored, hl.timer, hl.phase⟩, ?_⟩
    show outputLawful l.mode l.phase _
    rw [hmode]
    exact hm
  · refine start_lawful atEvent .active true hl.width hl (fun h => by cases h) ?_
    rw [hmode]
    exact ⟨fun h => (by cases h), by simp⟩
  · split <;> rename_i hphase
    · refine start_lawful atEvent .delay l.output hl.delay hl (fun h => by cases h) ?_
      rw [hphase] at hm
      rw [hmode]
      simpa [outputLawful] using hm
    · exact ignored
    · exact ignored

theorem trigger_fresh {l : EventLine} (h : (l.trigger false).fresh = true) : l.fresh = true := by
  unfold EventLine.trigger at h
  split at h
  · exact h
  · exact h
  · exact h
  · cases h
  · split at h
    · cases h
    · exact h
    · exact h

theorem line_receive_lawful (atEvent : Bool) (src : Source) {l : EventLine} (h : l.lawful) :
    (l.receive atEvent src).lawful := by
  unfold EventLine.receive
  split
  · exact trigger_lawful atEvent h
  · exact h

theorem line_receive_fresh (src : Source) {l : EventLine} (h : (l.receive false src).fresh = true) : l.fresh = true := by
  unfold EventLine.receive at h
  split at h
  · exact trigger_fresh h
  · exact h

theorem line_count_lawful {l : EventLine} (h : l.lawful) : l.count.lawful := by
  obtain ⟨hl, hm⟩ := line_lawful_iff.1 h
  unfold EventLine.count
  split
  · exact h
  · rename_i n hn
    have hq : l.phase ≠ .quiet := fun hq => by rw [hl.phase.1 hq] at hn; cases hn
    split
    · exact h
    split
    · unfold EventLine.expire
      split
      · rename_i hphase
        refine start_lawful true .active true hl.width hl (fun h => by cases h) ?_
        rw [hphase] at hm
        cases hmode : l.mode <;> rw [hmode] at hm <;> simp [outputLawful] at hm ⊢
      · exact quiet_lawful hl
      · exact quiet_lawful hl
    · refine line_lawful_iff.2 ⟨⟨hl.delay, hl.width, hl.ignored, fun m hm => ?_, ?_⟩, hm⟩
      · cases hm
        have := hl.timer n hn
        omega
      · show l.phase = .quiet ↔ some (n - 1) = none
        simp [hq]

/-- Every line is lawful, and none counts as set at a demand event unless one is due (R161, R162). -/
theorem lineLaw_iff :
    s.LineLaw ↔ ∀ id, (s.lines.get id).lawful ∧ ((s.lines.get id).fresh = true → s.time.eventDue = true) := by
  constructor
  · rintro ⟨h0, h1, h2, h3, hf⟩ id
    refine ⟨by cases id <;> assumption, fun h => ?_⟩
    cases hdue : s.time.eventDue
    · rw [hf hdue id] at h; cases h
    · rfl
  · intro h
    refine ⟨(h .ev0).1, (h .ev1).1, (h .ev2).1, (h .ev3).1, fun hdue id => ?_⟩
    have := (h id).2
    rw [hdue] at this
    simpa using this

theorem LineLaw.of_lines (h : t.lines = s.lines) (hdue : s.time.eventDue = true → t.time.eventDue = true)
    (hs : s.LineLaw) : t.LineLaw := by
  rw [lineLaw_iff] at hs ⊢
  rw [h]
  exact fun id => ⟨(hs id).1, fun hf => hdue ((hs id).2 hf)⟩

theorem lines_map_get {α : Type} (f : α → α) (x : Lines α) (id : LineId) : (x.map f).get id = f (x.get id) := by
  cases id <;> rfl

theorem lines_get_set {α : Type} (x : Lines α) (id id' : LineId) (v : α) :
    (x.set id v).get id' = if id' = id then v else x.get id' := by
  cases id <;> cases id' <;> rfl

theorem lineLaw_give (src : Source) (hs : s.LineLaw) : (s.give src).LineLaw := by
  rw [lineLaw_iff] at hs ⊢
  intro id
  have hline : (s.give src).lines.get id = (s.lines.get id).receive s.time.eventDue src := lines_map_get _ _ _
  rw [hline]
  refine ⟨line_receive_lawful _ _ (hs id).1, fun hf => ?_⟩
  show s.time.eventDue = true
  cases hdue : s.time.eventDue
  · rw [hdue] at hf
    rw [← hdue]
    exact (hs id).2 (line_receive_fresh src hf)
  · rfl

theorem lineLaw_unmark (h : t.lines = s.lines.map EventLine.unmark) (hs : s.LineLaw) : t.LineLaw := by
  rw [lineLaw_iff] at hs ⊢
  intro id
  rw [h, lines_map_get]
  exact ⟨(hs id).1, fun hf => by cases hf⟩

theorem lineLaw_signalled (h : Signalled s t) (hs : s.LineLaw) : t.LineLaw := by
  induction h with
  | refl => exact hs
  | same _ hsame ih => exact LineLaw.of_lines hsame.lines (by rw [hsame.time]; exact fun h => h) ih
  | raise _ _ ih => exact ih
  | give src _ ih => exact lineLaw_give src ih

theorem lineLaw_set {id : LineId} {l : EventLine} (hl : l.lawful)
    (hf : l.fresh = true → s.time.eventDue = true) (ht : t.lines = s.lines.set id l) (hdue : t.time = s.time)
    (hs : s.LineLaw) : t.LineLaw := by
  rw [lineLaw_iff] at hs ⊢
  intro id'
  rw [ht, lines_get_set, hdue]
  split
  · exact ⟨hl, hf⟩
  · exact hs id'

/-- A demand event in progress is due, and its lines are lawful (R161). -/
def State.LinesOpen (s : State) : Prop := s.time.eventDue = true ∧ s.LineLaw

theorem linesOpen_move (h : Move s t) (hs : s.LinesOpen) : t.LinesOpen := by
  obtain ⟨hdue, hlaw⟩ := hs
  refine ⟨by rw [move_time h]; exact hdue, ?_⟩
  rcases move_signals h with h | ⟨id, rfl⟩
  · exact lineLaw_signalled h hlaw
  · exact lineLaw_set (line_count_lawful (lineLaw_iff.1 hlaw id).1) (fun _ => hdue) rfl rfl hlaw

theorem lineLaw_retime (x : TimeBase) (hs : s.LineLaw) : (s.retime x).LineLaw := by
  unfold State.retime
  split
  · rename_i hdue
    exact LineLaw.of_lines (s := s) rfl (fun _ => hdue) hs
  · exact lineLaw_unmark (s := s) rfl hs

theorem initialLine_lawful : EventLine.lawful ⟨.second, .off, true, 1, 1, .quiet, none, false, 0, false⟩ :=
  line_lawful_iff.2 ⟨⟨⟨by decide, by decide⟩, ⟨by decide, by decide⟩, by decide, fun n hn => (by cases hn), by decide⟩,
    ⟨rfl, rfl⟩⟩

theorem lineLaw_kept : KeptBySteps State.LineLaw where
  queue _ _ h := h
  draw _ h := h
  power _ _ _ _ := by
    refine lineLaw_iff.2 fun id => ⟨?_, fun h => by cases id <;> cases h⟩
    cases id <;> exact initialLine_lawful
  elapse s n h := by
    by_cases hn : n = 0
    · subst hn; exact h
    · exact LineLaw.of_lines (by simp) (fun hdue => by rw [elapse_time hn]; exact passed_eventDue hdue) h
  expiry s h := by
    rcases takeExpiry_cases s with h' | h' <;> rw [h'] <;>
      exact LineLaw.of_lines (s := s) rfl (fun hdue => (settled_counts s.time).2.1.trans hdue) h
  pulse s h := by
    rcases pulse_cases s with ⟨_, h'⟩ | ⟨_, h' | h'⟩ <;> rw [h']
    · exact h
    · exact lineLaw_retime _ h
    · exact lineLaw_retime _ h
  port := fun _ _ ⟨_, _, _, ht⟩ h => ht ▸ h
  served s t h hs := by
    rcases served_signals h with h | ⟨_, _, rfl⟩ | ⟨_, _, rfl⟩ | ⟨v, _, _, _, rfl⟩ | ⟨v, _, _, _, rfl⟩ | ⟨_, rfl, _⟩ |
      ⟨id, l, hl, hf, rfl⟩ | rfl
    · exact lineLaw_signalled h hs
    · exact hs
    · exact hs
    · exact lineLaw_retime _ hs
    · exact hs
    · exact hs
    · have hline := lineLaw_iff.1 hs id
      exact lineLaw_set (hl hline.1) (fun h => hline.2 (hf h)) rfl rfl hs
    · refine lineLaw_iff.2 fun id => ?_
      have hline : s.softReset.lines.get id = (s.lines.get id).quiet := lines_map_get _ _ _
      rw [hline]
      exact ⟨quiet_lawful (line_lawful_iff.1 (lineLaw_iff.1 hs id).1).1, fun h => by cases h⟩
  fault s k _ := lineLaw_signalled (faultEvent_signals k s)
  event := runEvent_keeps (Q := State.LinesOpen) (fun s _ h => ⟨rfl, LineLaw.of_lines (s := s) rfl (fun _ => rfl) h⟩)
    (fun _ _ => linesOpen_move) (fun s h => lineLaw_unmark (s := s) rfl h.2)

/-- Settles O58: each of these laws is kept move by move, request by request and microsecond by microsecond. -/
theorem interfaceLawsKept : Obligations.InterfaceLawsKept := fun _ _ hstep =>
  ⟨timeLaw_kept.step hstep, modelLaw_kept.step hstep, portLaw_kept.step hstep, attentionLaw_kept.step hstep,
    lineLaw_kept.step hstep⟩

end Sys2Proof.Machine

/-! PROOFS. Where mount time can fall (R2), and how STOPPED and UNSET are left (R95, R123, R169). -/

namespace Sys2Proof.Machine

variable {s t u : State} {c : Instr}

/-! ### Mount time -/

theorem countPulse_mountTime (e : Int) (t : TimeBase) : (t.countPulse e).mountTime = t.mountTime := by
  unfold TimeBase.countPulse
  split
  · rfl
  split <;> rfl

theorem correctPulse_moving (e : Int) (t : TimeBase) : (t.correctPulse false e).mountTime = t.mountTime := by
  unfold TimeBase.correctPulse
  rw [if_neg (by simp)]

theorem discipline1_moving (e ec : Int) (t : TimeBase) : (t.discipline1 false e ec).mountTime = t.mountTime := by
  unfold TimeBase.discipline1
  split
  · split
    · rfl
    · rw [countPulse_mountTime, correctPulse_moving]
  all_goals rw [countPulse_mountTime, correctPulse_moving]

/-- A pulse does not step mount time unless the engine is still (R8, R12). -/
theorem takePulse_moving (t : TimeBase) : (t.takePulse false).mountTime = t.mountTime := by
  unfold TimeBase.takePulse
  dsimp only
  split
  · exact discipline1_moving _ _ _
  · rw [if_neg (by simp)]
    exact discipline1_moving _ _ _

theorem elapse_mountTime (n : Nat) (s : State) (h : s.time.mountTime ≤ maxTime) :
    s.time.mountTime ≤ (s.elapse n).time.mountTime ∧ (s.elapse n).time.mountTime ≤ maxTime := by
  by_cases hn : n = 0
  · subst hn
    exact ⟨Nat.le_refl _, h⟩
  · rw [elapse_time hn, passed_mountTime, ← (settled_counts s.time).1]
    exact ⟨le_counted n (by rwa [(settled_counts s.time).1]), counted_le n _⟩

theorem takeExpiry_mountTime (s : State) : s.takeExpiry.time.mountTime = s.time.mountTime := by
  rcases takeExpiry_cases s with h | h <;> rw [h] <;> exact (settled_counts s.time).1

/-- The requests and the pulse that can lower mount time, in a still state (R8, R11, R12). -/
def MayFall (a : Option Instr) : Prop :=
  a = some .ppsPulse ∨ (∃ v, a = some (.setTime v)) ∨ ∃ b, a = some (.byteReceived .schedule b)

theorem mayFall_of_carries {a : Option Instr} {v : BitVec 48} (h : Carries a (.setTime v)) : MayFall a := by
  rcases h with ⟨h, _⟩ | ⟨l, b, kind, h, hrow⟩
  · exact .inr (.inl ⟨v, h⟩)
  · cases hrow
    exact .inr (.inr ⟨b, h⟩)

/-- On the way to a request or a pulse mount time has not fallen, and the engine is as it was. -/
def NotFallen (a : Option Instr) (s u : State) : Prop :=
  s.time.mountTime ≤ u.time.mountTime ∧ u.time.mountTime ≤ maxTime ∧ (Timed a ∨ u.engine = s.engine)

theorem notFallen_of_time {a : Option Instr} (ht : u.time.mountTime = t.time.mountTime) (he : u.engine = t.engine)
    (h : NotFallen a s t) : NotFallen a s u := by
  unfold NotFallen
  rw [ht, he]
  exact h

/-- After a request or a pulse mount time has not fallen, or was set in a still state, or a reset has come. -/
def FallenWhenStill (a : Option Instr) (s u : State) : Prop :=
  s.time.mountTime ≤ u.time.mountTime ∨ Resets a ∨ s.engine.isStill = true ∧ MayFall a

theorem fallenWhenStill_of_time {a : Option Instr} (ht : u.time = t.time) (h : FallenWhenStill a s t) :
    FallenWhenStill a s u := by
  unfold FallenWhenStill
  rw [ht]
  exact h

theorem fallenWhenStill_served {a : Option Instr} (ha : Carries a c) (h : Served c t u) (ht : NotFallen a s t) :
    FallenWhenStill a s u := by
  obtain ⟨hle, _, heng⟩ := ht
  have he : t.engine = s.engine := heng.resolve_left fun ht => ht.2 c ha
  rcases served_signals h with h | ⟨_, _, rfl⟩ | ⟨_, _, rfl⟩ | ⟨v, rfl, hstill, _, rfl⟩ | ⟨v, _, _, _, rfl⟩ |
    ⟨_, rfl, _⟩ | ⟨_, _, _, _, rfl⟩ | rfl
  · exact .inl (by rw [h.time]; exact hle)
  · exact .inl hle
  · exact .inl hle
  · exact .inr (.inr ⟨he ▸ hstill, mayFall_of_carries ha⟩)
  all_goals exact .inl hle

theorem mountTime_falls (a : Option Instr) (s : State) : StepsInto a (NotFallen a s) (FallenWhenStill a s) where
  queue _ _ h := h
  draw _ h := h
  elapse u n h := by
    obtain ⟨hle, hmax, he⟩ := h
    have hu := elapse_mountTime n u hmax
    exact ⟨hle.trans hu.1, hu.2, by simpa using he⟩
  expiry u h := notFallen_of_time (takeExpiry_mountTime u) (by simp) h
  pulse u ha h := by
    obtain ⟨hle, _, heng⟩ := h
    have he : u.engine = s.engine := heng.resolve_left fun ht => ht.1 ha
    rcases pulse_time u with ht | ht
    · exact .inl (by rw [ht]; exact hle)
    · cases hstill : u.engine.isStill
      · rw [hstill] at ht
        exact .inl (by rw [ht, takePulse_moving]; exact hle)
      · exact .inr (.inr ⟨he ▸ hstill, .inl ha⟩)
  event u levels order ha h := by
    obtain ⟨hle, hmax, _⟩ := h
    have ht : (u.runEvent levels order).time.mountTime = u.time.mountTime := by simp
    exact ⟨by rw [ht]; exact hle, by rw [ht]; exact hmax, .inl ha⟩
  weaken _ h := .inl h.1
  power _ _ _ ha _ := .inr (.inl ha)
  served _ _ := fallenWhenStill_served
  fault u k _ := fallenWhenStill_of_time (faultEvent_signals k u).time
  port := fun _ _ ⟨_, _, _, ht⟩ h => ht ▸ h

/-- Settles O9: time passing never lowers mount time, and what jumps it is taken only in a still state. -/
theorem mountTimeFallsOnlyWhenStill : Obligations.MountTimeFallsOnlyWhenStill := by
  intro s t hmax hstep
  rcases (mountTime_falls s.pending.head? s).step hstep ⟨Nat.le_refl _, hmax, .inr rfl⟩ with
    h | h | h
  · exact .inl h
  · rcases h with h | h | h
    · exact .inr (.inl h)
    · exact .inr (.inr (.inl h))
    · exact .inr (.inr (.inr (.inl h)))
  · exact .inr (.inr (.inr (.inr h)))

/-! ### STOPPED and UNSET -/

theorem formShelter_isDown (h : s.engine.isDown = true) : s.formShelter.engine = s.engine := by
  have stays (u : State) (hu : u.engine = s.engine) : u.engine.isDown = true := by rw [hu]; exact h
  refine formShelter_keeps (P := fun x => x.engine = s.engine) rfl (fun _ h => h) (fun _ _ h => h)
    (fun u ht hu => ?_) (fun u ht hu => ?_)
  · have := stays u hu
    rw [isDown_of_isTarget ht] at this
    cases this
  · have := stays u hu
    rcases ht with ht | ht | ⟨_, ht⟩ <;> rw [ht] at this <;> cases this

/-- STOPPED and UNSET are left by no move but a fault event that stops the mount (R168). -/
theorem move_isDown (h : Move s t) (hd : s.engine.isDown = true) :
    t.engine = s.engine ∨ ∃ k, (s.enable = true ∨ s.engine = .stopped) ∧ t = s.faultEvent k := by
  rcases move_drives h with h | h | ⟨_, _, _, rfl⟩ | ⟨_, rfl⟩ | ⟨k, hk, rfl⟩ | rfl
  · exact .inl h.engine
  · rw [h.before] at hd
    cases hd
  · exact .inl rfl
  · exact .inl (formShelter_isDown (s := { s with inputs := s.inputs.set .shelter _ }) hd)
  · exact .inr ⟨k, hk, rfl⟩
  · exact .inl (judgeAlignment_cycle s).2.2

theorem move_stopped (h : Move s t) (hs : s.engine = .stopped) : t.engine = .stopped := by
  rcases move_isDown h (by rw [hs]; rfl) with h | ⟨k, _, rfl⟩
  · rw [h, hs]
  · exact State.faultEvent_engine s k

/-- What a request does to an engine in STOPPED or UNSET: FAULT_CLEAR and SET_POSITION are the two that act (R95,
R169). -/
theorem served_isDown (h : Served c s t) (hd : s.engine.isDown = true) :
    t.engine = s.engine ∨ c = .faultClear ∧ s.engine = .stopped ∧ t.engine = .unset ∨
      (∃ p, c = .setPosition p) ∧ s.engine = .unset ∧ (t.engine = .idle ∨ t.engine = .parking) := by
  rcases served_drives h with h | h | ⟨hc, hu, _, _, rfl⟩ | ⟨hc, hu, _, _, rfl⟩ | ⟨_, _, rfl⟩ | ⟨hc, hst, rfl⟩ |
    ⟨r, rfl⟩
  · exact .inl h.engine
  · rw [h.before] at hd
    cases hd
  · exact .inr (.inr ⟨hc, hu, .inl rfl⟩)
  · exact .inr (.inr ⟨hc, hu, .inr rfl⟩)
  · exact .inl rfl
  · exact .inr (.inl ⟨hc, hst, rfl⟩)
  · exact .inl (formShelter_isDown (s := { s with enclosure := { s.enclosure with report := some r } }) hd)

/-- STOPPED stays, or is left to UNSET by a fault clear or a reset (R169). -/
def StaysStopped (a : Option Instr) (t : State) : Prop :=
  t.enable = false ∧ (t.engine = .stopped ∨ t.engine = .unset ∧ (Carries a .faultClear ∨ Resets a))

theorem enable_false_of_isDown (hs : s.EnableLaw) (h : s.engine.isDown = true) : s.enable = false := by
  rw [hs]
  rcases isDown_iff.1 h with h | h <;> rw [h] <;> rfl

theorem faultEvent_enable_of_stopped (k : FaultKind) (h : s.engine = .stopped) : (s.faultEvent k).enable = s.enable := by
  unfold State.faultEvent
  rw [h]
  dsimp only
  split <;> rfl

theorem stopped_left (a : Option Instr) :
    StepsInto a (fun s => s.EnableLaw ∧ s.engine = .stopped) (StaysStopped a) where
  queue _ _ h := h
  draw _ h := h
  elapse s n h := ⟨enableLaw_kept.elapse s n h.1, (elapse_sameDrives n s).engine.trans h.2⟩
  expiry s h := ⟨enableLaw_kept.expiry s h.1, (takeExpiry_sameDrives s).engine.trans h.2⟩
  pulse s _ h := by
    have hp := pulse_sameDrives s
    exact ⟨hp.enable.trans (enable_false_of_isDown h.1 (by rw [h.2]; rfl)), .inl (hp.engine.trans h.2)⟩
  event s levels order _ := runEvent_keeps
    (P := fun s => s.EnableLaw ∧ s.engine = .stopped) (Q := fun s => s.EnableLaw ∧ s.engine = .stopped) (fun _ _ h => h)
    (fun _ _ hm h => ⟨enableLaw_move hm h.1, move_stopped hm h.2⟩) (fun _ h => h) s levels order
  weaken s h := ⟨enable_false_of_isDown h.1 (by rw [h.2]; rfl), .inl h.2⟩
  power _ _ _ ha _ := ⟨rfl, .inr ⟨rfl, .inr ha⟩⟩
  served s t ha hst h := by
    have hlaw := enableLaw_served hst h.1
    rcases served_isDown hst (by rw [h.2]; rfl) with he | ⟨hc, _, he⟩ | ⟨_, hu, _⟩
    · have he := he.trans h.2
      exact ⟨enable_false_of_isDown hlaw (by rw [he]; rfl), .inl he⟩
    · exact ⟨enable_false_of_isDown hlaw (by rw [he]; rfl), .inr ⟨he, .inl (hc ▸ ha)⟩⟩
    · rw [h.2] at hu
      cases hu
  fault s k hk h := by
    refine ⟨?_, .inl (State.faultEvent_engine s k)⟩
    rcases hk with hk | hk
    · rw [h.1] at hk
      cases hk
    · rw [faultEvent_enable_of_stopped k hk]
      exact h.1
  port := fun _ _ ⟨_, _, _, ht⟩ h => ht ▸ h

/-- UNSET stays, or is left by a SET_POSITION to IDLE, to PARKING, or within the request to STOPPED (R95, R168). -/
def StaysUnset (a : Option Instr) (t : State) : Prop :=
  t.EnableLaw ∧ (t.engine = .unset ∨
    (t.engine = .idle ∨ t.engine = .parking ∨ t.engine = .stopped) ∧ ∃ p, Carries a (.setPosition p))

theorem unset_left (a : Option Instr) :
    StepsInto a (fun s => s.EnableLaw ∧ s.engine = .unset) (StaysUnset a) where
  queue _ _ h := h
  draw _ h := h
  elapse s n h := ⟨enableLaw_kept.elapse s n h.1, (elapse_sameDrives n s).engine.trans h.2⟩
  expiry s h := ⟨enableLaw_kept.expiry s h.1, (takeExpiry_sameDrives s).engine.trans h.2⟩
  pulse s _ h := ⟨enableLaw_kept.pulse s h.1, .inl ((pulse_sameDrives s).engine.trans h.2)⟩
  event s levels order _ := runEvent_keeps
    (P := fun s => s.EnableLaw ∧ s.engine = .unset) (Q := fun s => s.EnableLaw ∧ s.engine = .unset) (fun _ _ h => h)
    (fun _ _ hm h => ⟨enableLaw_move hm h.1, move_unset hm h.1 h.2⟩) (fun _ h => h) s levels order
  weaken _ h := ⟨h.1, .inl h.2⟩
  power _ _ _ _ _ := ⟨rfl, .inl rfl⟩
  served s t ha hst h := by
    refine ⟨enableLaw_served hst h.1, ?_⟩
    rcases served_isDown hst (by rw [h.2]; rfl) with he | ⟨_, hs, _⟩ | ⟨⟨p, hp⟩, _, he⟩
    · exact .inl (he.trans h.2)
    · rw [h.2] at hs
      cases hs
    · exact .inr ⟨he.imp_right .inl, p, hp ▸ ha⟩
  fault s k hk h := by
    refine ⟨enableLaw_faultEvent k h.1, ?_⟩
    rcases h.2 with hu | ⟨_, hp⟩
    · exact absurd hu (ne_unset_of_enable h.1 hk)
    · exact .inr ⟨.inr (.inr (State.faultEvent_engine s k)), hp⟩
  port := fun _ _ ⟨_, _, _, ht⟩ h => ht ▸ h

/-- A request of the schedule link comes as its row, or as a byte of that link. -/
theorem front_of_carries {a : Option Instr} {kind : Byte} (h : Carries a c) (hc : requestRow c = some (.schedule, kind)) :
    a = some c ∨ ∃ b, a = some (.byteReceived .schedule b) := by
  rcases h with ⟨h, _⟩ | ⟨l, b, kind', h, hrow⟩
  · exact .inl h
  · rw [hc] at hrow
    cases hrow
    exact .inr ⟨b, h⟩

/-- Settles O57: of all a step can do, only a fault clear or a reset acts in STOPPED, and only a SET_POSITION in UNSET. -/
theorem stoppedAndUnsetLeftByRequest : Obligations.StoppedAndUnsetLeftByRequest := by
  intro s t henable hstep
  refine ⟨fun hs => ?_, fun hu => ?_⟩
  · rcases ((stopped_left s.pending.head?).step hstep ⟨henable, hs⟩).2 with h | ⟨h, hc | hr⟩
    · exact .inl h
    · rcases front_of_carries hc rfl with hc | hc
      · exact .inr ⟨h, .inl hc⟩
      · exact .inr ⟨h, .inr (.inl hc)⟩
    · exact .inr ⟨h, .inr (.inr hr)⟩
  · rcases ((unset_left s.pending.head?).step hstep ⟨henable, hu⟩).2 with h | ⟨h, p, hp⟩
    · exact .inl h
    · rcases front_of_carries hp rfl with hp | hp
      · exact .inr ⟨h, .inl ⟨p, hp⟩⟩
      · exact .inr ⟨h, .inr hp⟩

end Sys2Proof.Machine

/-! PROOFS. Requests and their replies at a port (R183, R184, R187): what a row sends, how long a reply can be, and that a
refusal changes nothing else. -/

namespace Sys2Proof.Machine

variable {s t u : State} {c : Instr}

/-! ### The length of a reply -/

theorem timeField_le (o : Option Nat) : (optionField timeBytes o).length ≤ 7 := optionField_le (fun _ => by simp) o

theorem natField_le (n : Nat) (o : Option Nat) : (optionField (natBytes n) o).length ≤ n + 1 :=
  optionField_le (fun _ => by simp) o

theorem intField_le (n : Nat) (o : Option Int) : (optionField (intBytes n) o).length ≤ n + 1 :=
  optionField_le (fun _ => by simp) o

theorem tallyField_le (f : Tally → Nat) (o : Option Tally) : (optionField (fun y => natBytes 4 (f y)) o).length ≤ 5 :=
  optionField_le (fun _ => by simp) o

theorem pairInts_length (n : Nat) (x : AzEl Int) : (pairInts n x).length = 2 * n := by
  simp [pairInts]; omega

theorem axesInts_length (n : Nat) (x : Axes Int) : (axesInts n x).length = 3 * n := by
  simp [axesInts]; omega

theorem pointerBytes_length (p : Pointer) : p.bytes.length = 2 := by simp [Pointer.bytes]

theorem resultsBytes_le (r : Results) : r.bytes.length ≤ 76 := by
  have h1 := timeField_le r.selectedAt
  have h2 := intField_le 2 r.wrapOffset
  have h3 := timeField_le r.capturedAt
  have h4 := timeField_le r.trackingFrom
  have h5 := timeField_le r.endedAt
  have hcount (f : Tally → Nat) := tallyField_le f r.tally
  have h6 := hcount Tally.onTargetMs
  have h7 := hcount Tally.guideTaken
  have h8 := hcount Tally.guideMerged
  have h9 := hcount Tally.guideDiscarded
  have h10 := hcount Tally.guideSaturations
  have h11 := hcount fun y => y.largestLag.az
  have h12 := hcount fun y => y.largestLag.el
  have h13 := hcount fun y => y.largestLag.rot
  have h14 := hcount Tally.holdUsed
  simp only [Results.bytes, List.length_append]
  omega

theorem getD_map_le {α : Type} {f : α → List Byte} {n : Nat} (h : ∀ v, (f v).length ≤ n) (o : Option α) :
    ((o.map f).getD []).length ≤ n := by
  cases o with
  | none => exact Nat.zero_le _
  | some v => exact h v

theorem recordBytes_le (r : Record) : r.bytes.length ≤ 42 := by
  have h1 := getD_map_le (n := 6) (fun v => (timeBytes_length v).le) r.earliest
  have h2 := getD_map_le (n := 6) (fun v => (timeBytes_length v).le) r.latest
  have h3 := getD_map_le (n := 12) (fun v => (axesInts_length 4 v).le) r.kind.position
  simp only [Record.bytes, List.length_append, natBytes_length, flagByte_length, bitsByte_length]
  omega

theorem faultEntryBytes_le (f : FaultEntry) : f.bytes.length ≤ 11 := by
  have h := natField_le 2 f.target
  simp only [FaultEntry.bytes, List.length_append, nameByte_length, timeBytes_length]
  omega

theorem axisBytes_length (a : AxisReport) : a.bytes.length = 32 := by simp [AxisReport.bytes]

theorem engineBytes_le (r : StatusReport) : r.engineBytes.length ≤ 26 := by
  have h1 := optionField_le (n := 1) (f := fun w => nameByte (.waitReason w)) (fun w => (nameByte_length _).le) r.waitReason
  have h2 := optionField_le (n := 1) (f := fun d => nameByte (.stopDestination d)) (fun d => (nameByte_length _).le)
    r.engine.stopDest
  have h3 := natField_le 4 r.engine.slewTimer
  have h4 := natField_le 2 r.engine.settleTimer
  have h5 := natField_le 4 r.engine.dwellCounter
  have h6 := natField_le 4 r.holdCounter
  have h7 := natField_le 2 r.activeId
  simp only [StatusReport.engineBytes, List.length_append, nameByte_length]
  omega

theorem statusBytes_le (r : StatusReport) : r.bytes.length ≤ 200 := by
  have h := engineBytes_le r
  have hb : r.bytes.length = r.engineBytes.length + 130 := by
    unfold StatusReport.bytes
    generalize r.engineBytes = e
    simp only [List.length_append, axisBytes_length, nameByte_length, flagByte_length, natBytes_length, timeBytes_length,
      pairInts_length]
  omega

theorem timeReportBytes_le (r : TimeReport) : r.bytes.length ≤ 30 := by
  have h1 := timeField_le r.pendingSet
  have h2 := intField_le 4 r.phaseError
  simp only [TimeReport.bytes, List.length_append, nameByte_length, flagByte_length, natBytes_length, timeBytes_length]
  omega

theorem targetBytes_le (r : TargetReport) : r.bytes.length ≤ 136 := by
  have h1 := recordBytes_le r.record
  have h2 := resultsBytes_le r.results
  have h3 := timeField_le r.chainStart
  have h4 := timeField_le r.chainEnd
  simp only [TargetReport.bytes, List.length_append, natBytes_length, nameByte_length]
  omega

theorem length_flatMap_of_const {α : Type} {f : α → List Byte} {n : Nat} (h : ∀ v, (f v).length = n) (l : List α) :
    (l.flatMap f).length = n * l.length := by
  induction l with
  | nil => rfl
  | cons x rest ih =>
    rw [List.flatMap_cons, List.length_append, ih, h, List.length_cons, Nat.mul_succ, Nat.add_comm]

theorem summaryBytes_le (r : SummaryReport) : r.bytes.length ≤ 8 + 3 * r.items.length := by
  have h1 := natField_le 2 r.activeId
  have h2 := length_flatMap_of_const (f := fun x : Nat × EntryStatus => natBytes 2 x.1 ++ nameByte (.entry x.2))
    (n := 3) (fun v => by simp) r.items
  simp only [SummaryReport.bytes, List.length_append, natBytes_length, flagByte_length]
  omega

theorem mailboxBytes_le (m : Option Mailbox) (n : Nat) : (mailboxBytes m n).length ≤ 7 := by
  have h := optionField_le (n := 4) (fun m : Mailbox => (pairInts_length 2 m.correction).le) m
  simp only [mailboxBytes, List.length_append, natBytes_length]
  omega

theorem guideBytes_le (r : GuideReport) : r.bytes.length ≤ 40 := by
  have h1 := mailboxBytes_le r.mailbox ((r.mailbox.map Mailbox.merges).getD 0)
  have h2 := natField_le 4 r.state.timer
  have h3 := natField_le 2 r.activeId
  have h4 := optionField_le (n := 1) (fun b => (flagByte_length b).le) r.guided
  simp only [GuideReport.bytes, List.length_append, GuideState.byte_length, pairInts_length, flagByte_length,
    nameByte_length, timeBytes_length]
  omega

theorem enclosureBytes_le (r : EnclosureReport) : r.bytes.length ≤ 40 := by
  have h := optionField_le (n := 8) (f := fun x : Nat × Nat => natBytes 4 x.1 ++ natBytes 4 x.2)
    (fun v => by simp) r.report
  simp only [EnclosureReport.bytes, List.length_append, natBytes_length, intBytes_length, nameByte_length,
    flagByte_length, timeBytes_length]
  omega

theorem lineBytes_le (l : EventLine) (b : Bool) : (l.bytes b).length ≤ 20 := by
  have h := natField_le 2 l.timer
  simp only [EventLine.bytes, List.length_append, natBytes_length, nameByte_length, flagByte_length]
  omega

theorem faultsBytes_le (r : FaultRecord) :
    (optionField FaultEntry.bytes r.first).length + (optionField FaultEntry.bytes r.second).length ≤ 24 := by
  have h1 := optionField_le faultEntryBytes_le r.first
  have h2 := optionField_le faultEntryBytes_le r.second
  omega

/-- The fields of any reply take at most 249 bytes, with a list of at most 64 entries (R183). -/
theorem replyFields_le {f : ReplyFields} (hf : f.fits s) (hlen : s.night.entries.length ≤ 64) : f.bytes.length ≤ 249 := by
  cases f with
  | none => exact Nat.zero_le _
  | identity r => simp [ReplyFields.bytes, Identity.bytes]
  | notices latched mask e n =>
    have h1 := optionField_le (n := 3) (f := endBytes) (fun v => by simp [endBytes]) e
    have h2 := natField_le 2 n
    simp only [ReplyFields.bytes, List.length_append, noticeBytes_length]
    omega
  | latched => simp [ReplyFields.bytes]
  | masks => simp [ReplyFields.bytes]
  | status r => exact (statusBytes_le r).trans (by decide)
  | time r => exact (timeReportBytes_le r).trans (by decide)
  | configAccepted => simp [ReplyFields.bytes]
  | configItem motion v p =>
    have h := intField_le 4 p
    simp only [ReplyFields.bytes, List.length_append, nameByte_length, intBytes_length]
    omega
  | position => simp [ReplyFields.bytes]
  | removed => simp [ReplyFields.bytes]
  | purged => simp [ReplyFields.bytes]
  | target r => exact (targetBytes_le r).trans (by decide)
  | summary r =>
    have h := summaryBytes_le r
    have hitems : r.items.length = s.night.entries.length := hf
    show r.bytes.length ≤ 249
    omega
  | chain length free span place =>
    have h1 := getD_map_le (n := 1) (fun v => (natBytes_length 1 v).le) place
    have h2 := getD_map_le (n := 12) (f := fun x : Nat × Nat => timeBytes x.1 ++ timeBytes x.2) (fun v => by simp) span
    simp only [ReplyFields.bytes, List.length_append, natBytes_length]
    omega
  | pointers => simp [ReplyFields.bytes, pointerBytes_length]
  | writePointer => simp [ReplyFields.bytes, pointerBytes_length]
  | modelPairs p pairs page last =>
    have h := length_flatMap_of_const (f := fun p : Pair => pairInts 2 (p.map BitVec.toInt)) (n := 4)
      (fun v => pairInts_length 2 _) pairs
    have hpairs : pairs.length ≤ 60 := hf
    simp only [ReplyFields.bytes, List.length_append, pointerBytes_length, flagByte_length, pairInts_length]
    omega
  | offsets => simp [ReplyFields.bytes, axesInts_length]
  | eventLine l b => exact (lineBytes_le l b).trans (by decide)
  | faults r d b e =>
    have h := faultsBytes_le r
    simp only [ReplyFields.bytes, List.length_append, natBytes_length, flagByte_length, nameByte_length]
    omega
  | correction m n st =>
    have h := mailboxBytes_le m n
    simp only [ReplyFields.bytes, List.length_append, GuideState.byte_length]
    omega
  | guide r => exact (guideBytes_le r).trans (by decide)
  | emptied => simp [ReplyFields.bytes]
  | encAccepted => simp [ReplyFields.bytes]
  | enclosure r => exact (enclosureBytes_le r).trans (by decide)

/-! ### What a request leaves as it was -/

theorem served_tables (h : Served c s t) : t.ports = s.ports ∧ t.pending = s.pending ∧ t.resetLow = s.resetLow := by
  rcases served_signals h with h | ⟨_, _, rfl⟩ | ⟨_, _, rfl⟩ | ⟨v, _, _, _, rfl⟩ | ⟨v, _, _, _, rfl⟩ | ⟨_, rfl, _⟩ |
    ⟨_, _, _, _, rfl⟩ | rfl
  · exact ⟨h.tables.ports, h.tables.pending, h.tables.resetLow⟩
  · exact ⟨rfl, rfl, rfl⟩
  · exact ⟨rfl, rfl, rfl⟩
  · simp
  all_goals exact ⟨rfl, rfl, rfl⟩

theorem requestEffect_tables (i : Instr) (s : State) :
    (requestEffect i s).1.ports = s.ports ∧ (requestEffect i s).1.pending = s.pending ∧
      (requestEffect i s).1.resetLow = s.resetLow := by
  obtain ⟨_, ⟨u, hu, hfaults⟩, _⟩ := requestEffect_served i s
  generalize (requestEffect i s).1 = t at hfaults
  have hu := served_tables hu
  induction hfaults with
  | refl => exact hu
  | @tail v w _ hmove ih =>
    obtain ⟨k, _, rfl⟩ := hmove
    have h := (faultEvent_signals k v).tables
    exact ⟨h.ports.trans ih.1, h.pending.trans ih.2.1, h.resetLow.trans ih.2.2⟩

theorem links_get_set_ne {α : Type} (x : Links α) {l k : Link} (v : α) (h : k ≠ l) : (x.set l v).get k = x.get k := by
  cases l <;> cases k <;> first | rfl | exact absurd rfl h

theorem request_of_sending {l : Link} {kind : Byte} (hreset : s.resetLow = false) (h : (s.ports.get l).sending ≠ none)
    (f : State → State × Answer) : s.request l kind f = s.onPort l Port.overrun := by
  unfold State.request
  rw [if_neg (by simp [hreset])]
  split
  · rfl
  · contradiction

/-- Settles O54: the row of a request is taken by its port alone where it is sending, and else begins the reply. -/
theorem requestRowsReplyOrOverrun : Obligations.RequestRowsReplyOrOverrun := by
  intro i l kind s hrow hreset
  refine ⟨fun h => ?_, fun h => ?_⟩
  · rw [exec_request hrow, request_of_sending hreset h]
    rfl
  · obtain ⟨hrefused, _, hfits⟩ := requestEffect_served i s
    obtain ⟨hports, hpending, hreset'⟩ := requestEffect_tables i s
    have hexec : exec i s =
        .next ((requestEffect i s).1.answered l (kind + 0x80) (requestEffect i s).2.status (requestEffect i s).2.fields) := by
      rw [exec_request hrow]
      exact congrArg Host.Outcome.next (State.request_of_ready ⟨hreset, h⟩ rfl)
    refine ⟨_, (requestEffect i s).2, hexec, ?_, ?_, hpending, hreset'.trans hreset, fun k hk => ?_,
      ⟨_, rfl⟩, fun hlen => ?_, fun h16 => ?_⟩
    · simp only [State.answered, State.onPort, Links.get_set_same]
      rfl
    · simp only [State.answered, State.onPort, Links.get_set_same]
    · show ((requestEffect i s).1.ports.set l _).get k = _
      rw [links_get_set_ne _ _ hk, hports]
    · rw [Answer.payload_length]
      have := replyFields_le hfits hlen
      omega
    · rw [hrefused h16]

end Sys2Proof.Machine

/-! PROOFS. The bytes of a frame: the CHECK (R181), and what each byte does to the receiver (R180, R182 to R184). -/

namespace Sys2Proof.Machine

variable {s t u : State}

/-! ### The CHECK -/

/-- One shift of the CHECK's rule undone. -/
def crcUnshift (c : Byte) : Byte := if c.getLsbD 0 then ((c ^^^ 0x07) >>> 1) ||| 0x80 else c >>> 1

theorem crcUnshift_crcShift : ∀ c : Byte, crcUnshift (crcShift c) = c := by decide

theorem crcShift_injective : Function.Injective crcShift := Function.LeftInverse.injective crcUnshift_crcShift

/-- The eight shifts that end one byte. -/
def crcShifts (c : Byte) : Byte :=
  crcShift (crcShift (crcShift (crcShift (crcShift (crcShift (crcShift (crcShift c)))))))

theorem crcByte_eq (c b : Byte) : crcByte c b = crcShifts (c ^^^ b) := rfl

theorem crcShifts_injective : Function.Injective crcShifts := by
  have h := crcShift_injective
  exact h.comp (h.comp (h.comp (h.comp (h.comp (h.comp (h.comp h))))))

theorem crcByte_left_injective {c c' : Byte} (b : Byte) (h : crcByte c b = crcByte c' b) : c = c' :=
  (BitVec.xor_left_inj b).1 (crcShifts_injective h)

theorem crcByte_right_injective {b b' : Byte} (c : Byte) (h : crcByte c b = crcByte c b') : b = b' :=
  (BitVec.xor_right_inj c).1 (crcShifts_injective h)

theorem foldl_crcByte_injective (bytes : List Byte) {c c' : Byte} (h : bytes.foldl crcByte c = bytes.foldl crcByte c') :
    c = c' := by
  induction bytes generalizing c c' with
  | nil => exact h
  | cons b rest ih => exact crcByte_left_injective b (ih h)

theorem crc_append_crc (bytes : List Byte) : crc (bytes ++ [crc bytes]) = 0 := by
  show (bytes ++ [crc bytes]).foldl crcByte 0 = 0
  rw [List.foldl_append]
  show crcByte (crc bytes) (crc bytes) = 0
  rw [crcByte_eq, BitVec.xor_self]
  decide

theorem crc_change (before after : List Byte) {a b : Byte} (h : a ≠ b) :
    crc (before ++ a :: after) ≠ crc (before ++ b :: after) := by
  intro heq
  unfold crc at heq
  rw [List.foldl_append, List.foldl_append] at heq
  exact h (crcByte_right_injective _ (foldl_crcByte_injective after heq))

theorem crc_identify : crc [0x00, 0x01] = 0x07 := by
  have h1 : crcByte 0x00 0x00 = 0x00 := by decide
  have h2 : crcByte 0x00 0x01 = 0x07 := by
    rw [crcByte_eq, show (0x00 : Byte) ^^^ 0x01 = 0x01 by decide]
    have hshift : crcShift 0x01 = 0x02 ∧ crcShift 0x02 = 0x04 ∧ crcShift 0x04 = 0x08 ∧ crcShift 0x08 = 0x10 ∧
        crcShift 0x10 = 0x20 ∧ crcShift 0x20 = 0x40 ∧ crcShift 0x40 = 0x80 ∧ crcShift 0x80 = 0x07 := by decide
    simp only [crcShifts, hshift]
  unfold crc
  rw [List.foldl_cons, List.foldl_cons, List.foldl_nil, h1, h2]

/-- Settles O56: each shift of the CHECK's rule can be undone, so a change of one byte is never lost. -/
theorem checkDetectsOneByte : Obligations.CheckDetectsOneByte := by
  refine ⟨crc_identify, crc_append_crc, fun before after a b => crc_change before after, fun l kind a s => ⟨?_, fun set => ?_⟩⟩
  · refine ⟨Reply.form kind a, _, _, ?_, rfl, rfl, rfl, ?_⟩
    · simp only [State.answered, State.onPort, Links.get_set_same]
    · exact crc_append_crc (BitVec.ofNat 8 a.payload.length :: kind :: a.payload)
  · show [_, BitVec.ofNat 8 (set.toNat / 256 ^ 1), BitVec.ofNat 8 (set.toNat / 256 ^ 0)] = _
    rw [Nat.pow_one, Nat.pow_zero, Nat.div_one]
    rfl

/-! ### The phases of the receiver (R180) -/

theorem exec_byte {l : Link} {b : Byte} (hreset : s.resetLow = false) :
    exec (.byteReceived l b) s = .next (s.byteReceived l b) := by
  show Host.Outcome.next (if s.resetLow then s else s.byteReceived l b) = _
  rw [hreset]
  rfl

theorem byte_in_hunt {l : Link} (h : (s.ports.get l).receiver = .hunt) (b : Byte) :
    s.byteReceived l b = if b = 0xC3 then s.onPort l (Port.receive .length) else s := by
  unfold State.byteReceived
  rw [h]

theorem byte_in_length {l : Link} (h : (s.ports.get l).receiver = .length) (b : Byte) :
    s.byteReceived l b = s.onPort l (Port.receive (.kind b)) := by
  unfold State.byteReceived
  rw [h]

theorem byte_in_kind {l : Link} {len : Byte} (h : (s.ports.get l).receiver = .kind len) (b : Byte) :
    s.byteReceived l b = s.onPort l (Port.receive (if len = 0 then .check len b [] else .payload len b [])) := by
  unfold State.byteReceived
  rw [h]

theorem byte_in_payload {l : Link} {len kind : Byte} {got : List Byte}
    (h : (s.ports.get l).receiver = .payload len kind got) (b : Byte) :
    s.byteReceived l b =
      s.onPort l (Port.receive
        (if len.toNat ≤ got.length + 1 then .check len kind (got ++ [b]) else .payload len kind (got ++ [b]))) := by
  have hlen : (got ++ [b]).length = got.length + 1 := by simp
  unfold State.byteReceived
  rw [h]
  dsimp only
  rw [hlen]

theorem byte_in_check {l : Link} {len kind : Byte} {got : List Byte}
    (h : (s.ports.get l).receiver = .check len kind got) (b : Byte) :
    s.byteReceived l b = s.completeFrame l len kind got b := by
  unfold State.byteReceived
  rw [h]

theorem complete_while_sending {l : Link} {len kind b : Byte} {got : List Byte} (h : (s.ports.get l).sending ≠ none) :
    s.completeFrame l len kind got b = s.onPort l Port.overrun := by
  unfold State.completeFrame
  split
  · rfl
  · contradiction

theorem complete_bad_check {l : Link} {len kind b : Byte} {got : List Byte} (h : (s.ports.get l).sending = none)
    (hb : b ≠ crc (len :: kind :: got)) :
    s.completeFrame l len kind got b = (s.onPort l Port.countBadCheck).reject l 0xFF .badCheck := by
  unfold State.completeFrame
  rw [h]
  exact if_pos hb

theorem complete_judged {l : Link} {len kind b : Byte} {got : List Byte} (h : (s.ports.get l).sending = none)
    (hb : b = crc (len :: kind :: got)) :
    s.completeFrame l len kind got b =
      match judgeFrame l kind got with
      | .unknownKind => s.reject l (unknownReplyKind kind) .unknownKind
      | .badLength => s.reject l (replyKind kind) .badLength
      | .request i => s.request l kind (requestEffect i) := by
  unfold State.completeFrame
  rw [h]
  exact if_neg (not_not.2 hb)

theorem onPort_onPort (l : Link) (f g : Port → Port) (s : State) :
    (s.onPort l f).onPort l g = s.onPort l (fun p => g (f p)) := by
  cases l <;> rfl

/-- Settles O53: each phase of the receiver by its own lemma, and the frame that is complete by what is wrong with it. -/
theorem byteMovesReceiver : Obligations.ByteMovesReceiver := by
  intro l b s hreset
  dsimp only
  rw [exec_byte hreset]
  refine ⟨fun h hb => ?_, fun h hb => ?_, fun h => ?_, fun h => ?_, fun len h hlen => ?_,
    fun len kind got h => ⟨fun hlen => ?_, fun hlen => ?_⟩, fun len kind got h => ⟨fun hs => ?_, fun hs hb => ?_, fun hs hb => ?_⟩⟩
  · rw [byte_in_hunt h, if_pos hb]; rfl
  · rw [byte_in_hunt h, if_neg hb]
  · rw [byte_in_length h]; rfl
  · rw [byte_in_kind h, if_pos rfl]; rfl
  · rw [byte_in_kind h, if_neg hlen]; rfl
  · rw [byte_in_payload h, if_neg (by omega)]; rfl
  · rw [byte_in_payload h, if_pos hlen]; rfl
  · rw [byte_in_check h, complete_while_sending hs]; rfl
  · rw [byte_in_check h, complete_bad_check hs hb, State.reject, onPort_onPort]
    cases l <;> rfl
  · rw [byte_in_check h, complete_judged hs hb]
    refine ⟨fun hj => ?_, fun hj => ?_, fun i hj => ?_⟩
    · rw [hj]
      cases l <;> rfl
    · rw [hj]
      cases l <;> rfl
    · rw [hj, exec_request (judgeFrame_row hj)]

end Sys2Proof.Machine

/-! PROOFS. The frame of a request and its row (R180 to R183, R186, R188, R189): the payload of a well-formed request is
read back as it, and its effect does not look at the receiver. -/

namespace Sys2Proof.Machine

variable {s t u : State}

/-! ### Fields read back -/

theorem bytesNat_append (x : List Byte) (b : Byte) : bytesNat (x ++ [b]) = bytesNat x * 256 + b.toNat := by
  unfold bytesNat
  rw [List.foldl_append]
  rfl

theorem foldl_bytes (x : List Byte) (n : Nat) :
    x.foldl (fun n b => n * 256 + b.toNat) n = n * 256 ^ x.length + bytesNat x := by
  unfold bytesNat
  induction x generalizing n with
  | nil => simp
  | cons b rest ih =>
    rw [List.foldl_cons, List.foldl_cons, ih, ih (0 * 256 + b.toNat), List.length_cons, Nat.pow_succ]
    ring

theorem bytesNat_natBytes (n v : Nat) : bytesNat (natBytes n v) = v % 256 ^ n := by
  induction n with
  | zero => simp [natBytes, bytesNat, Nat.mod_one]
  | succ n ih =>
    show (natBytes n v).foldl (fun n b => n * 256 + b.toNat) (0 * 256 + (BitVec.ofNat 8 (v / 256 ^ n)).toNat) = _
    rw [foldl_bytes, ih, natBytes_length, BitVec.toNat_ofNat, show (2 : Nat) ^ 8 = 256 from rfl, Nat.pow_succ,
      Nat.mod_mul (a := 256 ^ n)]
    ring

/-- A field is what its bytes spell. -/
theorem field_eq {n off : Nat} {bytes : List Byte} {v : BitVec (8 * n)}
    (h : (bytes.drop off).take n = fieldBytes n v) : field n off bytes = v := by
  unfold field
  rw [h, fieldBytes, bytesNat_natBytes]
  apply BitVec.eq_of_toNat_eq
  have hlt : v.toNat < 256 ^ n := by
    have := v.isLt
    rwa [show 256 = 2 ^ 8 from rfl, ← Nat.pow_mul]
  rw [Nat.mod_eq_of_lt hlt, BitVec.toNat_ofNat, Nat.mod_eq_of_lt v.isLt]

/-- A field of one byte is the byte. -/
theorem field_byte {off : Nat} {bytes : List Byte} {b : Byte} (h : (bytes.drop off).take 1 = [b]) :
    field 1 off bytes = b := by
  unfold field
  rw [h]
  apply BitVec.eq_of_toNat_eq
  show (BitVec.ofNat 8 (0 * 256 + b.toNat)).toNat = b.toNat
  simp

theorem axesField_eq {n stride off : Nat} {bytes : List Byte} {x : Axes (BitVec (8 * n))}
    (haz : (bytes.drop off).take n = fieldBytes n x.az) (hel : (bytes.drop (off + stride)).take n = fieldBytes n x.el)
    (hrot : (bytes.drop (off + 2 * stride)).take n = fieldBytes n x.rot) : axesField n stride off bytes = x := by
  unfold axesField
  rw [field_eq haz, field_eq hel, field_eq hrot]

theorem pairField_eq (x : AzEl (BitVec 16)) (rest : List Byte) : pairField 0 (pairBytes x ++ rest) = x := by
  unfold pairField
  rw [field_eq (v := x.az) rfl, field_eq (v := x.el) rfl]

theorem pairsField_eq (pairs : List (AzEl (BitVec 16))) :
    pairsField pairs.length (pairs.flatMap pairBytes) = pairs := by
  induction pairs with
  | nil => rfl
  | cons x rest ih =>
    rw [List.flatMap_cons, List.length_cons]
    show pairField 0 _ :: pairsField rest.length (rest.flatMap pairBytes) = _
    rw [pairField_eq, ih]

theorem segmentField_eq (g : Segment) (rest : List Byte) : segmentField (segmentBytes g ++ rest) = g := by
  unfold segmentField
  rw [field_eq (v := g.t0) rfl, field_eq (v := g.len) rfl, axesField_eq (x := g.p0) rfl rfl rfl,
    axesField_eq (x := g.v0) rfl rfl rfl, axesField_eq (x := g.a) rfl rfl rfl]

theorem segmentsField_eq (segs : List Segment) : segmentsField segs.length (segs.flatMap segmentBytes) = segs := by
  induction segs with
  | nil => rfl
  | cons g rest ih =>
    rw [List.flatMap_cons, List.length_cons]
    show segmentField _ :: segmentsField rest.length (rest.flatMap segmentBytes) = _
    rw [segmentField_eq, ih]

theorem fieldBytes_length (n : Nat) (v : BitVec (8 * n)) : (fieldBytes n v).length = n := natBytes_length _ _

theorem axesBytes_length (n : Nat) (x : Axes (BitVec (8 * n))) : (axesBytes n x).length = 3 * n := by
  simp [axesBytes, fieldBytes_length]; omega

/-! ### A target record read back (R188) -/

theorem field_append {n off : Nat} (before rest : List Byte) :
    field n (before.length + off) (before ++ rest) = field n off rest := by
  unfold field
  rw [List.drop_append, List.drop_eq_nil_of_le (Nat.le_add_right _ _), List.nil_append, Nat.add_sub_cancel_left]

theorem axesField_append {n stride off : Nat} (before rest : List Byte) :
    axesField n stride (before.length + off) (before ++ rest) = axesField n stride off rest := by
  unfold axesField
  rw [field_append, Nat.add_assoc, field_append, Nat.add_assoc, field_append]

theorem optionBytes_length (n : Nat) (o : Option (BitVec (8 * n))) :
    (optionBytes n o).length = if o.isSome then n else 0 := by
  cases o with
  | none => rfl
  | some v => exact fieldBytes_length n v

theorem optionField_read {n : Nat} (before rest : List Byte) (o : Option (BitVec (8 * n))) :
    (if o.isSome then some (field n before.length (before ++ (optionBytes n o ++ rest))) else none) = o := by
  cases o with
  | none => rfl
  | some v =>
    rw [show before.length = before.length + 0 from rfl, field_append]
    refine congrArg some (field_eq ?_)
    show ((fieldBytes n v ++ rest).drop 0).take n = _
    rw [List.drop_zero, List.take_left' (fieldBytes_length n v)]

/-- A record's bytes up to its presence byte. -/
def recordHead (r : TargetRecord) : List Byte := fieldBytes 2 r.id ++ [r.kind, r.presence]

/-- A record's bytes after its two optional times. -/
def recordTail (r : TargetRecord) : List Byte :=
  fieldBytes 4 r.dwell ++ fieldBytes 4 r.maxHold ++ [r.station, r.flags, r.wrap] ++
    (match r.fixedPosition with
      | none => []
      | some p => axesBytes 4 p)

theorem recordBytes_eq (r : TargetRecord) :
    recordBytes r = recordHead r ++ (optionBytes 6 r.earliest ++ (optionBytes 6 r.latest ++ recordTail r)) := by
  unfold recordBytes recordHead recordTail
  cases r.fixedPosition with
  | none => simp only [List.append_assoc]
  | some p => simp only [List.append_assoc]

theorem recordTail_length (r : TargetRecord) :
    (recordTail r).length = 11 + if r.fixedPosition.isSome then 12 else 0 := by
  unfold recordTail
  cases r.fixedPosition with
  | none => rfl
  | some p => rfl

theorem recordTail_position (r : TargetRecord) :
    (if r.fixedPosition.isSome then some (axesField 4 4 11 (recordTail r)) else none) = r.fixedPosition := by
  unfold recordTail
  cases r.fixedPosition with
  | none => rfl
  | some p => exact congrArg some (axesField_eq rfl rfl rfl)

theorem recordField_eq {r : TargetRecord} (h : r.wf = true) : recordField (recordBytes r) = some r := by
  simp only [TargetRecord.wf, Bool.and_eq_true, beq_iff_eq] at h
  obtain ⟨⟨he, hl⟩, hf⟩ := h
  have hbytes := recordBytes_eq r
  have hpresence : field 1 3 (recordBytes r) = r.presence := by rw [hbytes]; exact field_byte rfl
  have hmid : 4 + (if r.earliest.isSome then 6 else 0) = (recordHead r ++ optionBytes 6 r.earliest).length := by
    rw [List.length_append, optionBytes_length]; rfl
  have hfixed : (recordHead r ++ optionBytes 6 r.earliest).length + (if r.latest.isSome then 6 else 0) =
      (recordHead r ++ optionBytes 6 r.earliest ++ optionBytes 6 r.latest).length := by
    rw [List.length_append (bs := optionBytes 6 r.latest), optionBytes_length]
  have hmidBytes : recordBytes r =
      (recordHead r ++ optionBytes 6 r.earliest) ++ (optionBytes 6 r.latest ++ recordTail r) := by
    rw [hbytes]; simp only [List.append_assoc]
  have htailBytes : recordBytes r =
      (recordHead r ++ optionBytes 6 r.earliest ++ optionBytes 6 r.latest) ++ recordTail r := by
    rw [hbytes]; simp only [List.append_assoc]
  have htail (n off : Nat) : field n ((recordHead r ++ optionBytes 6 r.earliest ++ optionBytes 6 r.latest).length + off)
      (recordBytes r) = field n off (recordTail r) := by rw [htailBytes, field_append]
  have hlen : (recordBytes r).length = recordLength r.presence := by
    rw [hbytes]
    simp only [List.length_append, optionBytes_length, recordTail_length, recordLength, ← he, ← hl, ← hf]
    show 4 + _ = _
    omega
  have hfour : 4 ≤ (recordBytes r).length := by rw [hbytes, List.length_append]; exact Nat.le_add_right 4 _
  unfold recordField
  simp only [hpresence, ← he, ← hl, ← hf, hmid, hfixed]
  rw [if_pos ⟨hfour, hlen⟩]
  refine congrArg some ?_
  have hid : field 2 0 (recordBytes r) = r.id := by rw [hbytes]; exact field_eq rfl
  have hkind : field 1 2 (recordBytes r) = r.kind := by rw [hbytes]; exact field_byte rfl
  have hearliest : (if r.earliest.isSome then some (field 6 4 (recordBytes r)) else none) = r.earliest := by
    rw [hbytes]; exact optionField_read (n := 6) (recordHead r) _ r.earliest
  have hlatest := optionField_read (n := 6) (recordHead r ++ optionBytes 6 r.earliest) (recordTail r) r.latest
  rw [← hmidBytes] at hlatest
  have hposition := recordTail_position r
  rw [← axesField_append (recordHead r ++ optionBytes 6 r.earliest ++ optionBytes 6 r.latest), ← htailBytes] at hposition
  have hdwell : field 4 (recordHead r ++ optionBytes 6 r.earliest ++ optionBytes 6 r.latest).length (recordBytes r) =
      r.dwell := (htail 4 0).trans (field_eq rfl)
  rw [hid, hkind, hearliest, hlatest, hdwell, htail, htail, htail, htail, hposition,
    field_eq (v := r.maxHold) rfl, field_byte (b := r.station) rfl, field_byte (b := r.flags) rfl,
    field_byte (b := r.wrap) rfl]

/-! ### A payload judged as its request (R182, R186) -/

theorem segmentBytes_length (g : Segment) : (segmentBytes g).length = 50 := rfl

theorem pairBytes_length (x : AzEl (BitVec 16)) : (pairBytes x).length = 4 := rfl

theorem judgeSchedule_segmentAppend (p : List Byte) :
    judgeSchedule 0x26 p =
      if 1 ≤ (p.length - 2) / 50 ∧ (p.length - 2) / 50 ≤ 4 ∧ p.length = 2 + 50 * ((p.length - 2) / 50) then
        .request (.segmentAppend (field 2 0 p) (segmentsField ((p.length - 2) / 50) (p.drop 2)))
      else .badLength := rfl

theorem judgeSchedule_modelWrite (p : List Byte) :
    judgeSchedule 0x31 p =
      if 1 ≤ p.length / 4 ∧ p.length / 4 ≤ 60 ∧ p.length = 4 * (p.length / 4) then
        .request (.modelWrite (pairsField (p.length / 4) p))
      else .badLength := rfl

theorem judge_segments (id : BitVec 16) (segs : List Segment) (h : 1 ≤ segs.length ∧ segs.length ≤ 4) :
    judgeSchedule 0x26 (fieldBytes 2 id ++ segs.flatMap segmentBytes) = .request (.segmentAppend id segs) := by
  have hlen : (fieldBytes 2 id ++ segs.flatMap segmentBytes).length = 2 + 50 * segs.length := by
    rw [List.length_append, length_flatMap_of_const segmentBytes_length]
    rfl
  have hn : ((fieldBytes 2 id ++ segs.flatMap segmentBytes).length - 2) / 50 = segs.length := by
    rw [hlen]
    omega
  have hid : field 2 0 (fieldBytes 2 id ++ segs.flatMap segmentBytes) = id := field_eq rfl
  rw [judgeSchedule_segmentAppend, hn, if_pos ⟨h.1, h.2, hlen⟩, hid]
  exact congrArg (fun x => Judged.request (.segmentAppend id x)) (segmentsField_eq segs)

theorem judge_pairs (pairs : List (AzEl (BitVec 16))) (h : 1 ≤ pairs.length ∧ pairs.length ≤ 60) :
    judgeSchedule 0x31 (pairs.flatMap pairBytes) = .request (.modelWrite pairs) := by
  have hlen : (pairs.flatMap pairBytes).length = 4 * pairs.length := length_flatMap_of_const pairBytes_length pairs
  have hn : (pairs.flatMap pairBytes).length / 4 = pairs.length := by
    rw [hlen]
    omega
  rw [judgeSchedule_modelWrite, hn, if_pos ⟨h.1, h.2, hlen⟩, pairsField_eq]

/-- The payload of a well-formed request is read back as the request. -/
theorem judgeFrame_payloadOf {i : Instr} {l : Link} {kind : Byte} (hrow : requestRow i = some (l, kind))
    (hwf : i.wf = true) : judgeFrame l kind (payloadOf i) = .request i := by
  cases i with
  | noticeAck l k =>
    cases hrow
    have h : field 2 0 (fieldBytes 2 k) = k := field_eq rfl
    cases l <;> exact congrArg (fun x => Judged.request (.noticeAck _ x)) h
  | noticeMask l k =>
    cases hrow
    have h : field 2 0 (fieldBytes 2 k) = k := field_eq rfl
    cases l <;> exact congrArg (fun x => Judged.request (.noticeMask _ x)) h
  | identify l => cases hrow; cases l <;> rfl
  | noticeRead l => cases hrow; cases l <;> rfl
  | setTime v =>
    cases hrow
    exact congrArg (fun x => Judged.request (.setTime x)) (field_eq (bytes := fieldBytes 6 v) rfl)
  | setPosition p =>
    cases hrow
    exact congrArg (fun x => Judged.request (.setPosition x)) (axesField_eq (bytes := axesBytes 4 p) rfl rfl rfl)
  | setConfig code value =>
    cases hrow
    exact congrArg₂ (fun x y => Judged.request (.setConfig x y)) (field_byte (bytes := code :: fieldBytes 4 value) rfl)
      (field_eq (bytes := code :: fieldBytes 4 value) rfl)
  | getConfig code =>
    cases hrow
    exact congrArg (fun x => Judged.request (.getConfig x)) (field_byte (bytes := [code]) rfl)
  | targetAppend r =>
    cases hrow
    show orBadLength ((recordField (recordBytes r)).map _) = _
    rw [recordField_eq hwf]
    rfl
  | targetInsert named r =>
    cases hrow
    show orBadLength ((recordField (recordBytes r)).map (Instr.targetInsert (field 2 0 (fieldBytes 2 named ++ recordBytes r)))) = _
    rw [recordField_eq hwf, field_eq (v := named) rfl]
    rfl
  | targetRemove id =>
    cases hrow
    exact congrArg (fun x => Judged.request (.targetRemove x)) (field_eq (bytes := fieldBytes 2 id) rfl)
  | targetGet id =>
    cases hrow
    exact congrArg (fun x => Judged.request (.targetGet x)) (field_eq (bytes := fieldBytes 2 id) rfl)
  | segmentAppend id segs =>
    cases hrow
    exact judge_segments id segs (of_decide_eq_true hwf)
  | modelSeek pointer page index =>
    cases hrow
    show Judged.request (.modelSeek (field 1 0 [pointer, page, index]) (field 1 1 [pointer, page, index])
      (field 1 2 [pointer, page, index])) = _
    rw [field_byte (b := pointer) rfl, field_byte (b := page) rfl, field_byte (b := index) rfl]
  | modelWrite pairs =>
    cases hrow
    exact judge_pairs pairs (of_decide_eq_true hwf)
  | modelRead count =>
    cases hrow
    exact congrArg (fun x => Judged.request (.modelRead x)) (field_byte (bytes := [count]) rfl)
  | targetAbort id =>
    cases hrow
    exact congrArg (fun x => Judged.request (.targetAbort x)) (field_eq (bytes := fieldBytes 2 id) rfl)
  | offsetSet d =>
    cases hrow
    exact congrArg (fun x => Judged.request (.offsetSet x)) (axesField_eq (bytes := axesBytes 4 d) rfl rfl rfl)
  | eventConfig line source mode polarity delay width =>
    cases hrow
    let p := [line, source, mode, polarity] ++ fieldBytes 2 delay ++ fieldBytes 2 width
    show Judged.request (.eventConfig (field 1 0 p) (field 1 1 p) (field 1 2 p) (field 1 3 p) (field 2 4 p) (field 2 6 p)) = _
    rw [field_byte (b := line) rfl, field_byte (b := source) rfl, field_byte (b := mode) rfl,
      field_byte (b := polarity) rfl, field_eq (v := delay) rfl, field_eq (v := width) rfl]
  | eventSet line level =>
    cases hrow
    exact congrArg₂ (fun x y => Judged.request (.eventSet x y)) (field_byte (bytes := [line, level]) rfl)
      (field_byte (bytes := [line, level]) rfl)
  | eventGet line =>
    cases hrow
    exact congrArg (fun x => Judged.request (.eventGet x)) (field_byte (bytes := [line]) rfl)
  | guideCorrect d =>
    cases hrow
    have h : pairField 0 (pairBytes d) = d := by simpa using pairField_eq d []
    exact congrArg (fun x => Judged.request (.guideCorrect x)) h
  | encReport slit flag =>
    cases hrow
    exact congrArg₂ (fun x y => Judged.request (.encReport x y)) (field_eq (bytes := fieldBytes 4 slit ++ [flag]) rfl)
      (field_byte (bytes := fieldBytes 4 slit ++ [flag]) rfl)
  | _ => cases hrow <;> rfl

end Sys2Proof.Machine

/-! PROOFS. A request's effect does not look at the receiver of its port, and the bytes of a request's frame do what its
row does (R180 to R184, R186). -/

namespace Sys2Proof.Machine

variable {s t u : State}

/-! ### What the ports hold beside the counters is not looked at -/

/-- The ports replaced. -/
def State.withPorts (p : Links Port) (s : State) : State := { s with ports := p }

/-- An operation that does the same whatever the ports hold. -/
def Blind (g : State → State) : Prop := ∀ (p : Links Port) (s : State), g (s.withPorts p) = (g s).withPorts p

theorem Blind.comp {f g : State → State} (hf : Blind f) (hg : Blind g) : Blind fun s => f (g s) := fun p s => by
  show f (g (s.withPorts p)) = _
  rw [hg, hf]

theorem blind_setOnTarget (b : Bool) : Blind (State.setOnTarget b) := by
  intro p s
  unfold State.setOnTarget
  by_cases h : s.onTarget = b
  · rw [if_pos h, if_pos (show (s.withPorts p).onTarget = b from h)]
  · rw [if_neg h, if_neg (show ¬ (s.withPorts p).onTarget = b from h)]
    rfl

theorem blind_endActive (o : EndOutcome) : Blind (State.endActive o) := by
  intro p s
  unfold State.endActive
  rw [show (s.withPorts p).activeEntry = s.activeEntry from rfl]
  cases s.activeEntry with
  | none => rfl
  | some e =>
    dsimp only
    rw [← blind_setOnTarget]
    rfl

theorem blind_stopTarget (o : EndOutcome) (dest : StopDest) : Blind (State.stopTarget o dest) := by
  intro p s
  unfold State.stopTarget
  rw [blind_endActive]
  rfl

theorem blind_endPark (o : EndOutcome) : Blind fun s => (s.endActive o).enterParking :=
  Blind.comp (f := State.enterParking) (fun _ _ => rfl) (blind_endActive o)

/-- The first fault event recorded (R168, R169). -/
def State.faultRecorded (k : FaultKind) (s : State) : State :=
  { s with faults := { s.faults with first := some ⟨k, s.time.mountTime, s.engine.state, s.activeId⟩ } }

/-- The mount stopped by a fault, before park owed and the notice (R170). -/
def State.faultStopped (s : State) : State :=
  ((((s.endActive .fault).zeroGuide.enter .stopped).dropPulses).withNightFlag false).withReason none

/-- Park owed where the shelter condition is active (R151). -/
def State.owesPark (s : State) : State := if s.enclosure.shelter then s.withParkOwed true else s

theorem faultEvent_of_ne (k : FaultKind) (h : s.engine ≠ .stopped) :
    s.faultEvent k = State.give .fault (State.raise .fault (s.faultRecorded k).faultStopped.owesPark) := by
  unfold State.faultEvent
  split
  · contradiction
  · rfl

theorem blind_faultStopped : Blind State.faultStopped := by
  intro p s
  unfold State.faultStopped
  rw [blind_endActive]
  rfl

theorem blind_if {c : State → Bool} {f g : State → State} (hc : ∀ p s, c (State.withPorts p s) = c s) (hf : Blind f)
    (hg : Blind g) : Blind fun s => if c s then f s else g s := by
  intro p s
  dsimp only
  rw [hc, hf, hg]
  cases c s <;> rfl

theorem blind_owesPark : Blind State.owesPark :=
  blind_if (c := fun s => s.enclosure.shelter) (fun _ _ => rfl) (fun _ _ => rfl) fun _ _ => rfl

theorem blind_faultEvent (k : FaultKind) : Blind (State.faultEvent k) := by
  intro p s
  by_cases h : s.engine = .stopped
  · unfold State.faultEvent
    rw [show (s.withPorts p).engine = s.engine from rfl, h]
    dsimp only
    rw [show (s.withPorts p).faults = s.faults from rfl]
    cases s.faults.second <;> rfl
  · rw [faultEvent_of_ne k h, faultEvent_of_ne k (show (s.withPorts p).engine ≠ .stopped from h),
      show (s.withPorts p).faultRecorded k = (s.faultRecorded k).withPorts p from rfl, blind_faultStopped,
      blind_owesPark]
    rfl

theorem blind_faultIf (b : State → Bool) (k : FaultKind) (hb : ∀ p s, b (State.withPorts p s) = b s) :
    Blind fun s => s.faultIf (b s) k :=
  blind_if hb (blind_faultEvent k) fun _ _ => rfl

theorem blind_enterEnabling (e : Engine) : Blind (State.enterEnabling e) := by
  intro p s
  have hfault (b : Bool) (k : FaultKind) (u : State) :
      (u.withPorts p).faultIf b k = (u.faultIf b k).withPorts p :=
    blind_faultIf (fun _ => b) k (fun _ _ => rfl) p u
  unfold State.enterEnabling
  dsimp only
  rw [show (s.withPorts p).enter e = (s.enter e).withPorts p from rfl, hfault, hfault, hfault, hfault]
  by_cases h : s.enable = false ∧ (s.enter e).enable = true
  · rw [if_pos h, if_pos (show (s.withPorts p).enable = false ∧ ((s.enter e).withPorts p).enable = true from h)]
    rfl
  · rw [if_neg h, if_neg (show ¬ ((s.withPorts p).enable = false ∧ ((s.enter e).withPorts p).enable = true) from h)]

theorem blind_afterPosition : Blind State.afterPosition := by
  intro p s
  unfold State.afterPosition
  rw [show (s.withPorts p).engine = s.engine from rfl]
  cases s.engine
  case unset =>
    exact blind_if (c := fun s => s.enclosure.parkOwed) (fun _ _ => rfl)
      (Blind.comp (g := fun s => (s.withParkOwed false).readyToPark) (blind_enterEnabling .parking) fun _ _ => rfl)
      (blind_enterEnabling .idle) p s
  all_goals rfl

theorem blind_shelterRise : Blind State.shelterRise := by
  intro p s
  unfold State.shelterRise
  rw [show (s.withPorts p).engine = s.engine from rfl]
  cases s.engine
  case slewing => exact blind_endPark .shelter p s
  case settling => exact blind_endPark .shelter p s
  case tracking => exact blind_endPark .shelter p s
  case holding => exact blind_endPark .shelter p s
  all_goals rfl

theorem blind_formShelter : Blind State.formShelter := by
  intro p s
  have hrise := blind_shelterRise p s.shelterEdge
  unfold State.formShelter
  rw [show (s.withPorts p).shelterSources = s.shelterSources from rfl,
    show (s.withPorts p).enclosure = s.enclosure from rfl]
  by_cases h : s.shelterSources = s.enclosure.shelter
  · simp only [h, if_true]
  · simp only [h, if_false]
    cases hs : s.shelterSources
    · rfl
    · simp only [State.shelterEdge, hs] at hrise
      exact hrise

/-! ### The requests -/

/-- A request that does the same, and answers the same, whatever the ports hold. -/
def PortBlind (f : State → State × Answer) : Prop :=
  ∀ (p : Links Port) (s : State), f (s.withPorts p) = ((f s).1.withPorts p, (f s).2)

theorem portBlind_ite {c : State → Prop} [∀ s, Decidable (c s)] {f g : State → State × Answer}
    (hc : ∀ p s, c (State.withPorts p s) = c s) (hf : PortBlind f) (hg : PortBlind g) :
    PortBlind fun s => if c s then f s else g s := by
  intro p s
  dsimp only
  by_cases h : c s
  · rw [if_pos h, if_pos ((hc p s).symm ▸ h)]
    exact hf p s
  · rw [if_neg h, if_neg ((hc p s).symm ▸ h)]
    exact hg p s

/-- A refusal, or any answer that leaves the state, is the same where the answer is. -/
theorem portBlind_answer {a : State → Answer} (h : ∀ p s, a (State.withPorts p s) = a s) :
    PortBlind fun s => (s, a s) := by
  intro p s
  dsimp only
  rw [h]

theorem portBlind_only (a : Answer) : PortBlind fun s => (s, a) := portBlind_answer fun _ _ => rfl

/-- An effect that is answered by a status. -/
theorem portBlind_effect {g : State → State} (a : Answer) (hg : Blind g) : PortBlind fun s => (g s, a) := by
  intro p s
  dsimp only
  rw [hg]

theorem portBlind_setConfig (code : Byte) (value : BitVec 32) : PortBlind (setConfig code value) := by
  unfold setConfig
  cases itemOfCode code with
  | none => exact portBlind_only _
  | some i =>
    exact portBlind_ite (fun _ _ => rfl) (portBlind_only _)
      (portBlind_ite (fun _ _ => rfl) (portBlind_only _) fun _ _ => rfl)

theorem portBlind_setTime (v : BitVec 48) : PortBlind (setTime v) := by
  have hretime : Blind fun s => State.raise .time (s.retime { s.time.jump v.toNat with slew := none, timeValid := true }) :=
    fun _ _ => rfl
  unfold setTime
  exact portBlind_ite (fun _ _ => rfl) (portBlind_only _)
    (portBlind_ite (fun _ _ => rfl) (portBlind_effect _ hretime)
      (portBlind_ite (fun _ _ => rfl) (portBlind_only _) fun _ _ => rfl))

theorem portBlind_setPosition (x : Axes (BitVec 32)) : PortBlind (setPosition x) := by
  have hplaced : Blind fun s => (s.placed (signedAxes x)).afterPosition :=
    Blind.comp blind_afterPosition fun _ _ => rfl
  unfold setPosition
  exact portBlind_ite (fun _ _ => rfl) (portBlind_only _)
    (portBlind_ite (fun _ _ => rfl) (portBlind_only _)
      (portBlind_ite (fun _ _ => rfl) (portBlind_only _) (portBlind_effect _ hplaced)))

theorem portBlind_softReset : PortBlind softReset := by
  unfold softReset
  exact portBlind_ite (fun _ _ => rfl) (portBlind_only _)
    (portBlind_ite (fun _ _ => rfl) (portBlind_only _) fun _ _ => rfl)

theorem portBlind_targetAppend (r : TargetRecord) : PortBlind (targetAppend r) := by
  unfold targetAppend
  refine portBlind_ite (fun _ _ => rfl) (portBlind_only _) ?_
  cases recordOf r with
  | none => exact portBlind_only _
  | some x =>
    exact portBlind_ite (fun _ _ => rfl) (portBlind_only _)
      (portBlind_ite (fun _ _ => rfl) (portBlind_only _) fun _ _ => rfl)

theorem portBlind_insertRecord (named : Nat) (x : Record) (e : Entry) : PortBlind fun s =>
    if e.isPending = false then (s, .only .notPending)
    else if s.hasId x.id then (s, .only .duplicateId)
    else if listCapacity ≤ s.night.entries.length then (s, .only .listFull)
    else
      (s.withEntries (insertBefore named (newEntry x) s.night.entries), ⟨.ok, .position (positionOf named s.night.entries)⟩) :=
  portBlind_ite (fun _ _ => rfl) (portBlind_only _)
    (portBlind_ite (fun _ _ => rfl) (portBlind_only _)
      (portBlind_ite (fun _ _ => rfl) (portBlind_only _) fun _ _ => rfl))

theorem portBlind_targetInsert (named : BitVec 16) (r : TargetRecord) : PortBlind (targetInsert named r) := by
  unfold targetInsert
  refine portBlind_ite (fun _ _ => rfl) (portBlind_only _) ?_
  cases recordOf r with
  | none => exact portBlind_only _
  | some x =>
    intro p s
    dsimp only
    rw [show (s.withPorts p).entryOf named.toNat = s.entryOf named.toNat from rfl]
    cases s.entryOf named.toNat with
    | none => rfl
    | some e => exact portBlind_insertRecord named.toNat x e p s

theorem portBlind_targetRemove (id : BitVec 16) : PortBlind (targetRemove id) := by
  intro p s
  unfold targetRemove
  rw [show (s.withPorts p).entryOf id.toNat = s.entryOf id.toNat from rfl]
  cases s.entryOf id.toNat with
  | none => rfl
  | some e => dsimp only; cases e.isActive <;> rfl

theorem portBlind_targetGet (id : BitVec 16) : PortBlind (targetGet id) := by
  intro p s
  unfold targetGet
  rw [show (s.withPorts p).entryOf id.toNat = s.entryOf id.toNat from rfl]
  cases s.entryOf id.toNat <;> rfl

/-- The segments joined to a chain, before the notice of R56. -/
def State.joined (id : Nat) (segs : List Segment) (s : State) : State :=
  { s.withEntries (updateId id (fun e => { e with chain := e.chain ++ segs }) s.night.entries) with
    free := s.free - segs.length }

/-- The free count falls through POOL_LOW (R56). -/
def State.poolFalls (n : Nat) (s : State) : Prop :=
  s.inForce.poolLow ≤ (s.free : Int) ∧ ((s.free - n : Nat) : Int) < s.inForce.poolLow

theorem appendSegments_of_falls {id : Nat} {segs : List Segment} (h : s.poolFalls segs.length) :
    s.appendSegments id segs = State.raise .poolLow (s.joined id segs) := if_pos h

theorem appendSegments_of_not_falls {id : Nat} {segs : List Segment} (h : ¬ s.poolFalls segs.length) :
    s.appendSegments id segs = s.joined id segs := if_neg h

theorem blind_appendSegments (id : Nat) (segs : List Segment) : Blind (State.appendSegments id segs) := by
  intro p s
  by_cases h : s.poolFalls segs.length
  · rw [appendSegments_of_falls h, appendSegments_of_falls (show (s.withPorts p).poolFalls segs.length from h)]
    rfl
  · rw [appendSegments_of_not_falls h, appendSegments_of_not_falls (show ¬ (s.withPorts p).poolFalls segs.length from h)]
    rfl

theorem portBlind_segmentAppend (id : BitVec 16) (segs : List Segment) : PortBlind (segmentAppend id segs) := by
  unfold segmentAppend
  refine portBlind_ite (fun _ _ => rfl) (portBlind_only _) ?_
  intro p s
  dsimp only
  rw [show (s.withPorts p).entryOf id.toNat = s.entryOf id.toNat from rfl]
  cases s.entryOf id.toNat with
  | none => rfl
  | some e =>
    dsimp only
    rw [blind_appendSegments, show (s.withPorts p).time = s.time from rfl]
    cases e.isEnded
    case true => rfl
    by_cases hk : e.record.kind ≠ .track
    · rw [if_neg Bool.false_ne_true, if_pos hk, if_neg Bool.false_ne_true, if_pos hk]
      rfl
    · rw [if_neg Bool.false_ne_true, if_neg hk, if_neg Bool.false_ne_true, if_neg hk]
      cases segmentsFault e.isActive s.time.mountTime 1 e.chain.getLast? segs with
      | some x => rfl
      | none =>
        dsimp only
        by_cases hfree : s.free < segs.length
        · rw [if_pos hfree, if_pos (show (s.withPorts p).free < segs.length from hfree)]
          rfl
        · rw [if_neg hfree, if_neg (show ¬ (s.withPorts p).free < segs.length from hfree)]
          rfl

theorem portBlind_modelSeek (pointer page index : Byte) : PortBlind (modelSeek pointer page index) := by
  intro p s
  unfold modelSeek
  cases bitOfCode pointer with
  | none => rfl
  | some a =>
    cases bitOfCode page with
    | none => rfl
    | some b =>
      dsimp only
      by_cases h : 127 < index.toNat
      · simp only [h, if_true]
      · simp only [h, if_false]
        cases a <;> rfl

theorem portBlind_modelWrite (pairs : List Pair) : PortBlind (modelWrite pairs) := by
  unfold modelWrite
  exact portBlind_ite (fun _ _ => rfl) (portBlind_only _) fun _ _ => rfl

theorem portBlind_modelRead (count : Byte) : PortBlind (modelRead count) := by
  unfold modelRead
  exact portBlind_ite (fun _ _ => rfl) (portBlind_only _) fun _ _ => rfl

theorem portBlind_nightStart : PortBlind nightStart := by
  have hstart : Blind fun s => ((State.raise .night (s.withNightFlag true)).withReason none).enterEnabling .waiting :=
    Blind.comp (blind_enterEnabling .waiting) fun _ _ => rfl
  unfold nightStart
  exact portBlind_ite (fun _ _ => rfl) (portBlind_only _)
    (portBlind_ite (fun _ _ => rfl) (portBlind_only _)
      (portBlind_ite (fun _ _ => rfl) (portBlind_only _)
        (portBlind_ite (fun _ _ => rfl) (portBlind_only _)
          (portBlind_ite (fun _ _ => rfl) (portBlind_only _) (portBlind_effect _ hstart)))))

theorem portBlind_nightStop : PortBlind nightStop := by
  intro p s
  have hstop := portBlind_effect (.only .ok) (blind_stopTarget .stopped .idle) p s
  unfold nightStop
  rw [show (s.withPorts p).engine = s.engine from rfl]
  rcases s.engine with _ | _ | _ | _ | _ | _ | _ | dest | _ | _ | _ <;> first | rfl | exact hstop | (cases dest <;> rfl)

theorem portBlind_targetAbort (id : BitVec 16) : PortBlind (targetAbort id) := by
  unfold targetAbort
  exact portBlind_ite (fun _ _ => rfl) (portBlind_effect _ (blind_stopTarget .aborted .waiting)) (portBlind_only _)

theorem portBlind_park : PortBlind park := by
  intro p s
  have hend := portBlind_effect (.only .ok) (blind_endPark .parked) p s
  unfold park
  rw [show (s.withPorts p).engine = s.engine from rfl]
  cases s.engine
  case slewing => exact hend
  case settling => exact hend
  case tracking => exact hend
  case holding => exact hend
  all_goals rfl

theorem portBlind_offsetSet (d : Axes (BitVec 32)) : PortBlind (offsetSet d) := by
  unfold offsetSet
  exact portBlind_ite (fun _ _ => rfl) (portBlind_only _)
    (portBlind_ite (fun _ _ => rfl) (portBlind_only _) fun _ _ => rfl)

theorem portBlind_eventConfig (line source mode polarity : Byte) (delay width : BitVec 16) :
    PortBlind (eventConfig line source mode polarity delay width) := by
  intro p s
  unfold eventConfig
  split
  · split <;> rfl
  · rfl

theorem portBlind_eventSet (line level : Byte) : PortBlind (eventSet line level) := by
  intro p s
  unfold eventSet
  split
  · rename_i id b _ _
    exact portBlind_ite (c := fun s => (s.lines.get id).mode = .manual)
      (f := fun s => (s.withLine id { s.lines.get id with output := b }, .only .ok)) (fun _ _ => rfl) (fun _ _ => rfl)
      (portBlind_only (.only .wrongState)) p s
  · rfl

theorem portBlind_eventGet (line : Byte) : PortBlind (eventGet line) := by
  intro p s
  unfold eventGet
  cases lineOfCode line <;> rfl

theorem portBlind_faultClear : PortBlind faultClear := by
  unfold faultClear
  exact portBlind_ite (fun _ _ => rfl) (portBlind_only _)
    (portBlind_ite (fun _ _ => rfl) (portBlind_only _) fun _ _ => rfl)

theorem portBlind_guideCorrect (d : AzEl (BitVec 16)) : PortBlind (guideCorrect d) := by
  intro p s
  unfold guideCorrect
  rw [show (s.withPorts p).guideRefusal = s.guideRefusal from rfl]
  cases s.guideRefusal <;> rfl

theorem portBlind_guideZero : PortBlind guideZero := by
  intro p s
  unfold guideZero
  rw [show (s.withPorts p).guideRefusal = s.guideRefusal from rfl]
  cases s.guideRefusal <;> rfl

theorem portBlind_encReport (slit : BitVec 32) (flag : Byte) : PortBlind (encReport slit flag) := by
  intro p s
  unfold encReport
  cases bitOfCode flag with
  | none => rfl
  | some b =>
    have hreport := blind_formShelter p { s with enclosure := { s.enclosure with report := some ⟨slit.toNat, b, 0⟩ } }
    have hreport : ({ s.withPorts p with
        enclosure := { s.enclosure with report := some ⟨slit.toNat, b, 0⟩ } } : State).formShelter = _ := hreport
    dsimp only
    by_cases h : 16777215 < slit.toNat
    · simp only [h, if_true]
    · simp only [h, if_false]
      rw [show (s.withPorts p).enclosure = s.enclosure from rfl, hreport]
      rfl

theorem portBlind_getConfig (code : Byte) : PortBlind (getConfig code) := by
  intro p s
  unfold getConfig
  cases itemOfCode code <;> rfl

/-- Only IDENTIFY reports from the ports (R191). -/
theorem portBlind_requestEffect {i : Instr} (h : ∀ l, i ≠ .identify l) : PortBlind (requestEffect i) := by
  cases i with
  | identify l => exact absurd rfl (h l)
  | noticeAck l kinds =>
    intro p s
    unfold requestEffect noticeAck
    dsimp only
    cases noticeSetOf kinds <;> rfl
  | noticeMask l kinds =>
    intro p s
    unfold requestEffect noticeMask
    dsimp only
    cases noticeSetOf kinds <;> rfl
  | setTime v => exact portBlind_setTime v
  | setPosition x => exact portBlind_setPosition x
  | setConfig code value => exact portBlind_setConfig code value
  | getConfig code => exact portBlind_getConfig code
  | softReset => exact portBlind_softReset
  | targetAppend r => exact portBlind_targetAppend r
  | targetInsert named r => exact portBlind_targetInsert named r
  | targetRemove id => exact portBlind_targetRemove id
  | targetGet id => exact portBlind_targetGet id
  | segmentAppend id segs => exact portBlind_segmentAppend id segs
  | modelSeek pointer page index => exact portBlind_modelSeek pointer page index
  | modelWrite pairs => exact portBlind_modelWrite pairs
  | modelRead count => exact portBlind_modelRead count
  | nightStart => exact portBlind_nightStart
  | nightStop => exact portBlind_nightStop
  | targetAbort id => exact portBlind_targetAbort id
  | park => exact portBlind_park
  | offsetSet d => exact portBlind_offsetSet d
  | eventConfig line source mode polarity delay width => exact portBlind_eventConfig line source mode polarity delay width
  | eventSet line level => exact portBlind_eventSet line level
  | eventGet line => exact portBlind_eventGet line
  | faultClear => exact portBlind_faultClear
  | guideCorrect d => exact portBlind_guideCorrect d
  | guideZero => exact portBlind_guideZero
  | encReport slit flag => exact portBlind_encReport slit flag
  | _ => exact fun _ _ => rfl

end Sys2Proof.Machine

/-! PROOFS. The bytes of a well-formed request's frame do what its row does (R180 to R184, R186). -/

namespace Sys2Proof.Machine

variable {s t u : State}

/-- The payload of a well-formed request fits in a frame: LEN counts it exactly (R181, R188). -/
theorem payloadOf_le {i : Instr} (hwf : i.wf = true) : (payloadOf i).length ≤ 255 := by
  cases i with
  | setPosition p => exact (axesBytes_length 4 p).le.trans (by decide)
  | offsetSet d => exact (axesBytes_length 4 d).le.trans (by decide)
  | targetAppend r =>
    show (recordBytes r).length ≤ 255
    rw [recordBytes_eq]
    simp only [List.length_append, optionBytes_length, recordTail_length]
    have hhead : (recordHead r).length = 4 := rfl
    split <;> split <;> split <;> omega
  | targetInsert named r =>
    show (fieldBytes 2 named ++ recordBytes r).length ≤ 255
    rw [recordBytes_eq]
    simp only [List.length_append, optionBytes_length, recordTail_length, fieldBytes_length]
    have hhead : (recordHead r).length = 4 := rfl
    split <;> split <;> split <;> omega
  | segmentAppend id segs =>
    have hlen : segs.length ≤ 4 := (of_decide_eq_true hwf).2
    show (fieldBytes 2 id ++ segs.flatMap segmentBytes).length ≤ 255
    rw [List.length_append, fieldBytes_length, length_flatMap_of_const segmentBytes_length]
    omega
  | modelWrite pairs =>
    have hlen : pairs.length ≤ 60 := (of_decide_eq_true hwf).2
    show (pairs.flatMap pairBytes).length ≤ 255
    rw [length_flatMap_of_const pairBytes_length]
    omega
  | _ => exact of_decide_eq_true rfl

theorem receive_cons (hreset : s.resetLow = false) (l : Link) (b : Byte) (bytes : List Byte) :
    s.receive l (b :: bytes) = (s.byteReceived l b).receive l bytes := by
  unfold State.receive
  rw [List.foldl_cons, hreset]
  rfl

theorem receive_append (l : Link) (a b : List Byte) (s : State) : s.receive l (a ++ b) = (s.receive l a).receive l b :=
  List.foldl_append

theorem receive_low (hreset : s.resetLow = true) (l : Link) (bytes : List Byte) : s.receive l bytes = s := by
  induction bytes with
  | nil => rfl
  | cons b bytes ih =>
    unfold State.receive at ih ⊢
    rw [List.foldl_cons, hreset]
    exact ih

theorem receiver_onPort (l : Link) (r : Receiver) (s : State) :
    ((s.onPort l (Port.receive r)).ports.get l).receiver = r := by cases l <;> rfl

theorem onPort_receive (l : Link) (r r' : Receiver) (s : State) :
    (s.onPort l (Port.receive r)).onPort l (Port.receive r') = s.onPort l (Port.receive r') := onPort_onPort l _ _ s

/-- The rest of a payload, received. -/
theorem receive_payload (hreset : s.resetLow = false) (l : Link) (len kind : Byte) {rest : List Byte} (hne : rest ≠ [])
    {got : List Byte} (hlen : got.length + rest.length = len.toNat) :
    (s.onPort l (Port.receive (.payload len kind got))).receive l rest =
      s.onPort l (Port.receive (.check len kind (got ++ rest))) := by
  induction rest generalizing got with
  | nil => exact absurd rfl hne
  | cons b rest ih =>
    rw [receive_cons (by exact hreset), byte_in_payload (receiver_onPort l _ s), onPort_receive]
    rw [List.length_cons] at hlen
    cases rest with
    | nil =>
      rw [if_pos (by simp only [List.length_nil] at hlen; omega)]
      rfl
    | cons c rest =>
      rw [if_neg (by rw [List.length_cons] at hlen; omega), ih (List.cons_ne_nil c rest) (by simp; simp at hlen; omega),
        List.append_assoc]
      rfl

/-- A frame received from HUNT comes to its CHECK byte with its LEN, its KIND and its payload held. -/
theorem receive_frame (hreset : s.resetLow = false) {l : Link} (hunt : (s.ports.get l).receiver = .hunt) (kind : Byte)
    {payload : List Byte} (hlen : payload.length ≤ 255) :
    s.receive l (frameBytes kind payload) =
      (s.onPort l (Port.receive (.check (BitVec.ofNat 8 payload.length) kind payload))).completeFrame l
        (BitVec.ofNat 8 payload.length) kind payload (crc (BitVec.ofNat 8 payload.length :: kind :: payload)) := by
  have hlow (f : Port → Port) : (s.onPort l f).resetLow = false := hreset
  have htoNat : (BitVec.ofNat 8 payload.length).toNat = payload.length := by
    rw [BitVec.toNat_ofNat]
    exact Nat.mod_eq_of_lt (by omega)
  have hto : s.receive l (0xC3 :: BitVec.ofNat 8 payload.length :: kind :: payload) =
      s.onPort l (Port.receive (.check (BitVec.ofNat 8 payload.length) kind payload)) := by
    rw [receive_cons hreset, byte_in_hunt hunt, if_pos rfl, receive_cons (hlow _), byte_in_length (receiver_onPort l _ s),
      onPort_receive, receive_cons (hlow _), byte_in_kind (receiver_onPort l _ s), onPort_receive]
    cases payload with
    | nil => rfl
    | cons b rest =>
      rw [if_neg (fun h => by rw [h] at htoNat; simp at htoNat)]
      exact receive_payload hreset l _ kind (List.cons_ne_nil b rest) (by rw [htoNat]; simp)
  show s.receive l ((0xC3 :: BitVec.ofNat 8 payload.length :: kind :: payload) ++ [_]) = _
  rw [receive_append, hto, receive_cons (hlow _), byte_in_check (receiver_onPort l _ s)]
  rfl

theorem onPort_eq_withPorts (l : Link) (f : Port → Port) (s : State) :
    s.onPort l f = s.withPorts (s.ports.set l (f (s.ports.get l))) := rfl

/-- A request leaves the ports to its reply. -/
theorem portBlind_ports {f : State → State × Answer} (h : PortBlind f) (s : State) : (f s).1.ports = s.ports := by
  have := congrArg (fun r => r.1.ports) (h s.ports s)
  exact this

theorem send_receive (kind : Byte) (a : Answer) (r : Receiver) (p : Port) :
    Port.send kind a (Port.receive r p) = Port.send kind a p := rfl

/-- What a request replies does not depend on what its port is receiving. -/
theorem request_after_receive {i : Instr} (l : Link) (r : Receiver) (kind : Byte) (s : State)
    (hidle : (s.ports.get l).sending = none) (hreset : s.resetLow = false) :
    (s.onPort l (Port.receive r)).request l kind (requestEffect i) = s.request l kind (requestEffect i) := by
  have hidle' : ((s.onPort l (Port.receive r)).ports.get l).sending = none := by cases l <;> exact hidle
  rw [State.request_idle _ kind _ hreset hidle, State.request_idle _ kind _ (by exact hreset) hidle']
  by_cases hi : ∀ k, i ≠ .identify k
  · have hblind := portBlind_requestEffect hi
    rw [onPort_eq_withPorts l (Port.receive r) s, hblind]
    generalize hu : requestEffect i s = e
    have hports : e.1.ports = s.ports := hu ▸ portBlind_ports hblind s
    obtain ⟨u, a⟩ := e
    have hports : u.ports = s.ports := hports
    unfold State.onPort State.withPorts
    dsimp only
    rw [hports]
    cases l <;> rfl
  · push Not at hi
    obtain ⟨k, rfl⟩ := hi
    show (s.onPort l _).onPort l (Port.send _ (identify k (s.onPort l (Port.receive r))).2) = s.onPort l _
    have hanswer : (identify k (s.onPort l (Port.receive r))).2 = (identify k s).2 := by cases l <;> cases k <;> rfl
    rw [hanswer, onPort_onPort]
    rfl

/-- Settles O55: a request is read back from its payload, and its frame, byte by byte, comes to its judgement with the
port as the row finds it but for the receiver. -/
theorem framesActAsTheirRows : Obligations.FramesActAsTheirRows := by
  intro i l kind hrow hwf
  have hjudge := judgeFrame_payloadOf hrow hwf
  refine ⟨hjudge, fun s hunt => ?_⟩
  rw [exec_request hrow]
  refine congrArg Host.Outcome.next ?_
  cases hreset : s.resetLow with
  | true => rw [State.request_low _ l kind _ hreset, receive_low hreset]
  | false =>
    rw [receive_frame hreset hunt kind (payloadOf_le hwf)]
    generalize hr : Receiver.check _ kind (payloadOf i) = r
    have hsending : ((s.onPort l (Port.receive r)).ports.get l).sending = (s.ports.get l).sending := by cases l <;> rfl
    cases hs : (s.ports.get l).sending with
    | none =>
      rw [complete_judged (hsending.trans hs) rfl, hjudge]
      exact (request_after_receive l r kind s hs hreset).symm
    | some reply =>
      rw [complete_while_sending (by rw [hsending, hs]; exact Option.some_ne_none _),
        State.request_sending _ kind _ hreset hs, onPort_onPort]
      rfl

end Sys2Proof.Machine

/-! PROOFS. The blend's convergence (R81), the wrap choice (R107) and how a count of pulses is spread over a
millisecond (R156). -/

namespace Sys2Proof.Machine

/-! ### The blend -/

theorem blend_distance {cstep w o : Int} {n : Nat} (hc : 1 ≤ cstep)
    (h : magnitude (w - o) ≤ (n + 1 : Nat) * cstep) : magnitude (w - blend cstep w o) ≤ n * cstep := by
  have hn : 0 ≤ (n : Int) * cstep := by positivity
  rw [Nat.cast_succ, Int.add_mul, Int.one_mul] at h
  rw [magnitude_le_iff] at h ⊢
  unfold blend
  split
  · omega
  · split <;> omega

/-- Settles O28: each event takes CSTEP from the distance, so `n` events take all of it. -/
theorem blendReachesWanted : Obligations.BlendReachesWanted := by
  intro cstep w o hc
  refine ⟨fun h => if_pos h, fun h => ?_, fun h1 h2 => ?_, fun n => ?_⟩
  · unfold blend
    rw [if_neg (by omega), if_pos h]
  · unfold blend
    rw [if_neg (by omega), if_neg (by omega)]
  · induction n generalizing o with
    | zero =>
      intro h
      rw [Nat.cast_zero, Int.zero_mul, magnitude_le_iff] at h
      show o = w
      omega
    | succ n ih =>
      intro h
      rw [Function.iterate_succ_apply]
      exact ih _ (blend_distance hc h)

/-! ### The wrap choice -/

theorem mem_wrapCandidates {lower upper az k : Int} :
    k ∈ wrapCandidates lower upper az ↔ lower ≤ az + k * 16777216 ∧ az + k * 16777216 ≤ upper := by
  unfold wrapCandidates fullTurn
  rw [List.mem_map]
  constructor
  · rintro ⟨i, hi, rfl⟩
    rw [List.mem_range] at hi
    omega
  · intro h
    refine ⟨(k + (az - lower) / 16777216).toNat, ?_, ?_⟩
    · rw [List.mem_range]
      omega
    · omega

theorem wrapCandidates_sorted (lower upper az : Int) : (wrapCandidates lower upper az).Pairwise (· < ·) := by
  unfold wrapCandidates
  rw [List.pairwise_map]
  exact List.pairwise_lt_range.imp fun h => by omega

/-- How AUTO orders two candidates: by distance, and of two equally near by value (R107). -/
def Nearer (az e k j : Int) : Prop :=
  magnitude (az + k * fullTurn - e) < magnitude (az + j * fullTurn - e) ∨
    magnitude (az + k * fullTurn - e) = magnitude (az + j * fullTurn - e) ∧ k ≤ j

theorem Nearer.refl (az e k : Int) : Nearer az e k k := .inr ⟨rfl, le_rfl⟩

theorem Nearer.trans {az e i j k : Int} (h : Nearer az e i j) (h' : Nearer az e j k) : Nearer az e i k := by
  unfold Nearer at *
  omega

theorem nearestWrap_least {az e best : Int} {rest : List Int} (h : (best :: rest).Pairwise (· < ·)) :
    nearestWrap az e best rest ∈ best :: rest ∧ ∀ j ∈ best :: rest, Nearer az e (nearestWrap az e best rest) j := by
  induction rest generalizing best with
  | nil => exact ⟨List.mem_cons_self, fun j hj => by rw [List.mem_singleton] at hj; exact hj ▸ Nearer.refl az e best⟩
  | cons k rest ih =>
    obtain ⟨hbest, hrest⟩ := List.pairwise_cons.1 h
    have hk : best < k := hbest k List.mem_cons_self
    unfold nearestWrap
    split
    case isTrue hlt =>
      obtain ⟨hmem, hleast⟩ := ih hrest
      refine ⟨List.mem_cons_of_mem _ hmem, fun j hj => ?_⟩
      rcases List.mem_cons.1 hj with rfl | hj
      · exact (hleast k List.mem_cons_self).trans (.inl hlt)
      · exact hleast j hj
    case isFalse hge =>
      obtain ⟨hmem, hleast⟩ := ih (best := best)
        (List.pairwise_cons.2 ⟨fun j hj => hbest j (List.mem_cons_of_mem _ hj), (List.pairwise_cons.1 hrest).2⟩)
      refine ⟨List.cons_subset_cons best (List.subset_cons_self k rest) hmem, fun j hj => ?_⟩
      rcases List.mem_cons.1 hj with rfl | hj
      · exact hleast j List.mem_cons_self
      · rcases List.mem_cons.1 hj with rfl | hj
        · have hbj : Nearer az e best j := by unfold Nearer; omega
          exact (hleast best List.mem_cons_self).trans hbj
        · exact hleast j (List.mem_cons_of_mem _ hj)

/-- The choice among candidates in rising order (R107). -/
theorem chooseWrap_best {pref : WrapPref} {az e k : Int} {ks : List Int} (hsorted : ks.Pairwise (· < ·))
    (h : chooseWrap pref az e ks = some k) :
    k ∈ ks ∧ (pref = .low → ∀ j ∈ ks, k ≤ j) ∧ (pref = .high → ∀ j ∈ ks, j ≤ k) ∧
      (pref = .auto → ∀ j ∈ ks, Nearer az e k j) := by
  cases ks with
  | nil => cases h
  | cons first rest =>
    cases pref with
    | low =>
      cases h
      refine ⟨List.mem_cons_self, fun _ j hj => ?_, (by intro h; cases h), (by intro h; cases h)⟩
      rcases List.mem_cons.1 hj with rfl | hj
      · exact le_rfl
      · exact ((List.pairwise_cons.1 hsorted).1 j hj).le
    | high =>
      have hlast : (first :: rest).getLast (List.cons_ne_nil _ _) = k := by
        have h := Option.some.inj h
        rwa [List.getLastD_eq_getLast?, List.getLast?_eq_getLast_of_ne_nil (List.cons_ne_nil _ _)] at h
      refine ⟨hlast ▸ List.getLast_mem _, (by intro h; cases h), fun _ j hj => ?_, (by intro h; cases h)⟩
      rw [← hlast]
      exact (hsorted.imp fun h => le_of_lt h).rel_getLast hj
    | auto =>
      cases h
      obtain ⟨hmem, hleast⟩ := nearestWrap_least (az := az) (e := e) hsorted
      exact ⟨hmem, (by intro h; cases h), (by intro h; cases h), fun _ => hleast⟩

theorem chooseWrap_eq_none {pref : WrapPref} {az e : Int} {ks : List Int} : chooseWrap pref az e ks = none ↔ ks = [] := by
  cases ks with
  | nil => exact ⟨fun _ => rfl, fun _ => rfl⟩
  | cons k rest => cases pref <;> exact ⟨(by intro h; cases h), (by intro h; cases h)⟩

/-- The candidates the choice is made among (R107). -/
def wrapPool (lower upper az last : Int) : List Int :=
  let ks := wrapCandidates lower upper az
  let full := ks.filter fun k => decide (lower ≤ last + k * fullTurn) && decide (last + k * fullTurn ≤ upper)
  if full.isEmpty then ks else full

theorem wrapChoice_eq (pref : WrapPref) (lower upper az last e : Int) :
    wrapChoice pref lower upper az last e = chooseWrap pref az e (wrapPool lower upper az last) := rfl

/-- A candidate whose last azimuth lies within the limits too (R107). -/
def FullFit (lower upper az last k : Int) : Prop :=
  (lower ≤ az + k * 16777216 ∧ az + k * 16777216 ≤ upper) ∧ lower ≤ last + k * 16777216 ∧ last + k * 16777216 ≤ upper

theorem mem_fullFit {lower upper az last k : Int} :
    k ∈ (wrapCandidates lower upper az).filter
        (fun k => decide (lower ≤ last + k * fullTurn) && decide (last + k * fullTurn ≤ upper)) ↔
      FullFit lower upper az last k := by
  rw [List.mem_filter, mem_wrapCandidates, Bool.and_eq_true, decide_eq_true_eq, decide_eq_true_eq]
  rfl

theorem mem_wrapPool {lower upper az last k : Int} :
    k ∈ wrapPool lower upper az last ↔
      FullFit lower upper az last k ∨
        (lower ≤ az + k * 16777216 ∧ az + k * 16777216 ≤ upper) ∧ ∀ j, ¬ FullFit lower upper az last j := by
  unfold wrapPool
  dsimp only
  split
  case isTrue h =>
    rw [List.isEmpty_iff] at h
    have hnone (j : Int) : ¬ FullFit lower upper az last j := fun hj => by
      have := mem_fullFit.2 hj
      rw [h] at this
      cases this
    rw [mem_wrapCandidates]
    exact ⟨fun hk => .inr ⟨hk, hnone⟩, fun hk => hk.elim (fun hf => absurd hf (hnone k)) fun hk => hk.1⟩
  case isFalse h =>
    rw [mem_fullFit]
    refine ⟨.inl, fun hk => hk.elim id fun hk => ?_⟩
    rw [List.isEmpty_iff] at h
    obtain ⟨j, hj⟩ := List.exists_mem_of_ne_nil _ h
    exact absurd (mem_fullFit.1 hj) (hk.2 j)

theorem wrapPool_sorted (lower upper az last : Int) : (wrapPool lower upper az last).Pairwise (· < ·) := by
  unfold wrapPool
  dsimp only
  split
  · exact wrapCandidates_sorted lower upper az
  · exact (wrapCandidates_sorted lower upper az).filter _

theorem wrapPool_eq_nil {lower upper az last : Int} :
    wrapPool lower upper az last = [] ↔ ∀ k : Int, ¬ (lower ≤ az + k * 16777216 ∧ az + k * 16777216 ≤ upper) := by
  rw [List.eq_nil_iff_forall_not_mem]
  refine ⟨fun h k hk => h k (mem_wrapPool.2 ?_), fun h k hk => ?_⟩
  · exact .inr ⟨hk, fun j hj => h j (mem_wrapPool.2 (.inl hj))⟩
  · rcases mem_wrapPool.1 hk with hf | hc
    · exact h k hf.1
    · exact h k hc.1

/-- Settles O35: the candidates stand in rising order, and so do the full-fit ones among them. -/
theorem wrapChosenByPreference : Obligations.WrapChosenByPreference := by
  intro pref lower upper now last e
  dsimp only
  rw [wrapChoice_eq]
  refine ⟨chooseWrap_eq_none.trans wrapPool_eq_nil, fun k hk => ?_⟩
  obtain ⟨hmem, hlow, hhigh, hauto⟩ := chooseWrap_best (wrapPool_sorted lower upper now last) hk
  exact ⟨mem_wrapPool.1 hmem, fun h j hj => hlow h j (mem_wrapPool.2 hj), fun h j hj => hhigh h j (mem_wrapPool.2 hj),
    fun h j hj => hauto h j (mem_wrapPool.2 hj)⟩

/-! ### The pulses of a count -/

theorem lt_risen {c i e : Nat} (hi : i < c) : i < risen c e ↔ 2 + i * 996 / c ≤ e := by
  have hc : 0 < c := by omega
  unfold risen
  rw [lt_min_iff, Nat.lt_div_iff_mul_lt (by decide)]
  have hdiv : i * 996 / c < e - 1 ↔ i * 996 < (e - 1) * c := Nat.div_lt_iff_lt_mul hc
  generalize i * 996 / c = q at hdiv ⊢
  omega

theorem risen_le (c e : Nat) : risen c e ≤ c := Nat.min_le_left _ _

theorem risen_zero (c : Nat) : risen c 0 = 0 := by simp [risen]

theorem risen_eq_succ {c i e : Nat} (hi : i < c) (h : 2 + i * 996 / c ≤ e)
    (hnext : i + 1 = c ∨ e < 2 + (i + 1) * 996 / c) : risen c e = i + 1 := by
  have hge := (lt_risen hi).2 h
  have hle := risen_le c e
  rcases hnext with hc | hlt
  · omega
  · by_cases hc : i + 1 < c
    · have hnot : ¬ i + 1 < risen c e := fun h => by
        have := (lt_risen hc).1 h
        omega
      omega
    · omega

theorem scheduleLength_eq (c : Nat) : scheduleLength c = 3 + (c - 1) * 996 / c := by
  unfold scheduleLength riseOffset
  omega

theorem rises_spaced {c i : Nat} (hc : c ≤ 250) (hi : i + 1 < c) : 2 + i * 996 / c + 3 ≤ 2 + (i + 1) * 996 / c := by
  have h : i * 996 / c + 3 ≤ (i + 1) * 996 / c := by
    rw [Nat.le_div_iff_mul_le (by omega), Nat.add_mul]
    have := Nat.div_mul_le_self (i * 996) c
    omega
  omega

theorem last_fall {c : Nat} (h1 : 1 ≤ c) (hc : c ≤ 250) : 2 + (c - 1) * 996 / c + 1 ≤ 995 := by
  have h : (c - 1) * 996 / c < 993 := by
    rw [Nat.div_lt_iff_lt_mul (by omega), Nat.sub_mul]
    omega
  omega

end Sys2Proof.Machine

/-! PROOFS. A step output as time passes, and the two step rows (R156, R157). -/

namespace Sys2Proof.Machine

variable {s t u : State}

/-! ### What the passing of time leaves -/

theorem takeExpiry_frame (s : State) : ∃ y z, s.takeExpiry = { s with time := y, notices := z } := by
  rcases takeExpiry_cases s with h | h <;> rw [h]
  · exact ⟨s.time.settled, s.notices, rfl⟩
  · exact ⟨_, _, rfl⟩

theorem agePulse_frame (n : Nat) (s : State) : ∃ y z, s.agePulse n = { s with time := y, notices := z } := by
  rcases agePulse_cases n s with h | h <;> rw [h]
  · exact ⟨_, s.notices, rfl⟩
  · exact ⟨_, _, rfl⟩

theorem pass_zero (o : StepOut) : o.pass 0 = o := rfl

/-- Nothing but the time base, the TIME notice, the step outputs and the gaps within frames moves with time. -/
theorem elapse_frame (n : Nat) (s : State) : ∃ y z, s.elapse n =
    { s with time := y, notices := z, steps := s.steps.map (StepOut.pass n), ports := s.ports.map (Port.pass n) } := by
  unfold State.elapse
  split
  case isTrue h => subst h; exact ⟨s.time, s.notices, rfl⟩
  case isFalse =>
    obtain ⟨y, z, h⟩ := takeExpiry_frame s
    dsimp only
    rw [h]
    obtain ⟨y', z', h'⟩ := agePulse_frame n _
    exact ⟨y', z', h'⟩

theorem elapse_steps (n : Nat) (s : State) : (s.elapse n).steps = s.steps.map (StepOut.pass n) := by
  obtain ⟨y, z, h⟩ := elapse_frame n s
  rw [h]

theorem elapse_rest (n : Nat) (s : State) :
    { s.elapse n with time := s.time, notices := s.notices, steps := s.steps, ports := s.ports } = s := by
  obtain ⟨y, z, h⟩ := elapse_frame n s
  rw [h]

theorem get_map {α β : Type} (f : α → β) (x : Axes α) (ax : Axis) : (x.map f).get ax = f (x.get ax) := by
  cases ax <;> rfl

/-! ### A schedule as time passes -/

theorem signedPulses_zero (b : Bool) : signedPulses b 0 = 0 := by cases b <;> rfl

theorem signedPulses_eq (b : Bool) (n : Nat) : signedPulses b n = (if b then 1 else -1) * (n : Int) := by
  cases b <;> simp [signedPulses]

theorem scheduleLength_pos (c : Nat) : 0 < scheduleLength c := Nat.succ_pos _

/-- Within a schedule its pulses rise and fall. -/
theorem pass_within {o : StepOut} {sch : Schedule} (ho : o.schedule = some sch) {n : Nat} (hn : n ≠ 0)
    (h : sch.elapsed + n < scheduleLength sch.what.count) :
    o.pass n =
      { o with
        schedule := some { sch with elapsed := sch.elapsed + n }
        stepHigh := decide (risen sch.what.count (sch.elapsed + n - 1) < risen sch.what.count (sch.elapsed + n))
        issued := o.issued + signedPulses sch.what.increasing
          (risen sch.what.count (sch.elapsed + n) - risen sch.what.count sch.elapsed) } := by
  unfold StepOut.pass
  rw [if_neg hn, ho]
  dsimp only
  cases o.waiting <;> exact if_pos h

/-- The end of a schedule behind which no count waits. -/
theorem pass_to_end {o : StepOut} {sch : Schedule} (ho : o.schedule = some sch) (hw : o.waiting = []) {n : Nat} (hn : n ≠ 0)
    (h : scheduleLength sch.what.count ≤ sch.elapsed + n) :
    o.pass n =
      ⟨none, [], o.dirIncreasing, false, o.issued + signedPulses sch.what.increasing
        (risen sch.what.count (sch.elapsed + n) - risen sch.what.count sch.elapsed)⟩ := by
  unfold StepOut.pass
  rw [if_neg hn, ho]
  dsimp only
  rw [hw]
  exact if_neg (Nat.not_lt.2 h)

/-- At the very end of a schedule the count that waits becomes the schedule in progress. -/
theorem pass_to_waiting {o : StepOut} {sch : Schedule} {w : StepCount} {rest : List StepCount} (ho : o.schedule = some sch)
    (hw : o.waiting = w :: rest) {n : Nat} (hn : n ≠ 0) (h : sch.elapsed + n = scheduleLength sch.what.count) :
    o.pass n =
      ⟨some ⟨w, 0⟩, rest, w.increasing, false, o.issued + signedPulses sch.what.increasing
        (risen sch.what.count (sch.elapsed + n) - risen sch.what.count sch.elapsed)⟩ := by
  have hstart (o : StepOut) : runSchedule 0 ⟨w, 0⟩ o rest =
      { o with schedule := some ⟨w, 0⟩, waiting := rest, stepHigh := false } := by
    cases rest <;> simp [runSchedule, scheduleLength_pos, signedPulses_zero]
  unfold StepOut.pass
  rw [if_neg hn, ho]
  dsimp only
  rw [hw]
  refine (if_neg (Nat.not_lt.2 h.ge)).trans ?_
  rw [h, Nat.sub_self, hstart]

/-- Pulse `i` in flight: it has risen and the next has not. -/
theorem pass_at_pulse {o : StepOut} {sch : Schedule} (ho : o.schedule = some sch) {n : Nat} (hn : n ≠ 0) {i : Nat}
    (hi : i < sch.what.count) (hrise : 2 + i * 996 / sch.what.count ≤ sch.elapsed + n)
    (hnext : i + 1 = sch.what.count ∨ sch.elapsed + n < 2 + (i + 1) * 996 / sch.what.count)
    (hend : o.waiting = [] ∨ sch.elapsed + n ≤ scheduleLength sch.what.count) :
    (o.pass n).issued =
        o.issued + signedPulses sch.what.increasing (i + 1 - risen sch.what.count sch.elapsed) ∧
      (o.pass n).stepHigh = decide (sch.elapsed + n = 2 + i * 996 / sch.what.count) := by
  have hrisen := risen_eq_succ hi hrise hnext
  by_cases hwithin : sch.elapsed + n < scheduleLength sch.what.count
  · rw [pass_within ho hn hwithin]
    dsimp only
    rw [hrisen]
    refine ⟨rfl, decide_eq_decide.2 ?_⟩
    have hbefore := lt_risen (e := sch.elapsed + n - 1) hi
    have := risen_le sch.what.count (sch.elapsed + n - 1)
    omega
  · have hlast : ¬ sch.elapsed + n = 2 + i * 996 / sch.what.count := fun h => by
      rw [scheduleLength_eq] at hwithin
      have hmono : i * 996 / sch.what.count ≤ (sch.what.count - 1) * 996 / sch.what.count :=
        Nat.div_le_div_right (Nat.mul_le_mul_right _ (by omega))
      omega
    rw [decide_eq_false hlast]
    cases hw : o.waiting with
    | nil =>
      rw [pass_to_end ho hw hn (Nat.not_lt.1 hwithin), hrisen]
      exact ⟨rfl, rfl⟩
    | cons w rest =>
      rw [hw] at hend
      rw [pass_to_waiting ho hw hn (by rcases hend with h | h; cases h; omega), hrisen]
      exact ⟨rfl, rfl⟩

theorem hand_to_idle {o : StepOut} {n : Int} (hn : n ≠ 0) (h : o.schedule = none) :
    o.hand n = { o with schedule := some ⟨⟨decide (0 < n), n.natAbs⟩, 0⟩, dirIncreasing := decide (0 < n) } := by
  unfold StepOut.hand
  rw [if_neg hn, h]

/-- Settles O42: how many pulses have risen after `e` microseconds is decided by each pulse's own moment. -/
theorem countIsIssuedInFull : Obligations.CountIsIssuedInFull := by
  intro n o hn hmax hnone hwait
  have hmax : n.natAbs ≤ 250 := by unfold magnitude at hmax; omega
  have hpos : 1 ≤ n.natAbs := by omega
  have hcast : (if decide (0 < n) = true then 1 else -1 : Int) * (n.natAbs : Int) = n := by
    by_cases h : 0 < n
    · rw [if_pos (decide_eq_true h)]; omega
    · rw [if_neg (by rw [decide_eq_true_eq]; exact h)]; omega
  dsimp only
  generalize hs : ({ o with
    schedule := some ⟨⟨decide (0 < n), n.natAbs⟩, 0⟩, dirIncreasing := decide (0 < n) } : StepOut) = started
  have hsch : started.schedule = some ⟨⟨decide (0 < n), n.natAbs⟩, 0⟩ := by rw [← hs]
  have hidle : started.waiting = [] := by rw [← hs]; exact hwait
  have hissued : started.issued = o.issued := by rw [← hs]
  have hdir : started.dirIncreasing = decide (0 < n) := by rw [← hs]
  refine ⟨(hand_to_idle hn hnone).trans hs, if_pos rfl, fun us i _ hus hi hrise hnext => ?_, ?_,
    fun i hi => rises_spaced hmax hi, last_fall hpos hmax⟩
  · have hne : us ≠ 0 := by omega
    obtain ⟨hcount, hhigh⟩ := pass_at_pulse hsch hne (i := i) hi (by simpa using hrise) (by simpa using hnext) (.inl hidle)
    refine ⟨?_, by simpa using hhigh, ?_⟩
    · rw [hcount, hissued, risen_zero, Nat.sub_zero, signedPulses_eq]
      push_cast
      simp only [decide_eq_true_eq]
    · by_cases hw : us < scheduleLength n.natAbs
      · rw [pass_within hsch hne (by simpa using hw)]
        exact hdir
      · rw [pass_to_end hsch hidle hne (by simpa using hw)]
        exact hdir
  · have hlen : scheduleLength n.natAbs ≤ 0 + 1000 := by
      rw [scheduleLength_eq]
      have := last_fall hpos hmax
      omega
    have hall : risen n.natAbs (0 + 1000) = n.natAbs := by
      have := risen_eq_succ (c := n.natAbs) (i := n.natAbs - 1) (e := 0 + 1000) (by omega)
        (by have := last_fall hpos hmax; omega) (.inl (by omega))
      omega
    rw [pass_to_end hsch hidle (by decide) hlen]
    dsimp only
    rw [hall, risen_zero, Nat.sub_zero, signedPulses_eq, hcast, hissued, hdir]

/-! ### The step rows -/

/-- A row that brings time to a moment of the period in progress. -/
theorem waitFor_within {n : Nat} (hreset : s.resetLow = false) (h : s.withinPeriod n = true) :
    s.waitFor (some n) = s.elapse n := if_pos ⟨hreset, h⟩

theorem waitFor_outside {n : Nat} (h : s.withinPeriod n = false) : s.waitFor (some n) = s :=
  if_neg fun hw => by rw [h] at hw; exact absurd hw.2 Bool.false_ne_true

/-- Settles O43: each row waits for its moment, and the output is followed through the pulse or the schedule's end. -/
theorem stepRowsAdvance : Obligations.StepRowsAdvance := by
  intro ax s hreset
  dsimp only
  have hpulse : exec (.stepPulse ax) s = .next (s.waitFor (s.steps.get ax).untilFall) := rfl
  have hwaiting : exec (.waitingScheduleStart ax) s = .next (s.waitFor (s.steps.get ax).untilWaiting) := rfl
  rw [hpulse, hwaiting]
  have hpasses (n : Nat) : { s.elapse n with time := s.time, notices := s.notices, steps := s.steps, ports := s.ports } = s ∧
      (s.elapse n).ports = s.ports.map (Port.pass n) ∧
        ∀ k, k ≠ ax → (s.elapse n).steps.get k = (s.steps.get k).pass n :=
    ⟨elapse_rest n s, State.elapse_ports s n, fun k _ => by rw [elapse_steps, get_map]⟩
  have hax (n : Nat) : (s.elapse n).steps.get ax = (s.steps.get ax).pass n := by rw [elapse_steps, get_map]
  generalize s.steps.get ax = o at hax ⊢
  refine ⟨fun h => ?_, fun h => ?_, fun sch ho hpos hmax => ?_⟩
  · unfold StepOut.untilFall StepOut.untilWaiting
    rw [h]
    exact ⟨rfl, rfl⟩
  · unfold StepOut.untilWaiting
    rw [h]
    cases o.schedule <;> rfl
  · have hfall : o.stepHigh = false → risen sch.what.count sch.elapsed < sch.what.count →
        o.untilFall = some (3 + risen sch.what.count sch.elapsed * 996 / sch.what.count - sch.elapsed) := fun hlow hi => by
      unfold StepOut.untilFall riseOffset
      rw [ho, hlow]
      dsimp only
      rw [if_neg Bool.false_ne_true, if_pos hi, show ∀ x, 2 + x + 1 = 3 + x by omega]
    have hhigh : o.stepHigh = true → o.untilFall = some 1 := fun h => by
      unfold StepOut.untilFall
      rw [ho, h]
      rfl
    have hlen := scheduleLength_eq sch.what.count
    refine ⟨fun hlow hi hout => ?_, fun hlow hi => ?_, fun h hout => ?_, fun hout => ?_, fun hlow hi hin => ?_,
      fun j hj helapsed h hin => ?_, fun w rest hw hbefore _ _ hin => ?_⟩
    · rw [hfall hlow hi, waitFor_outside hout]
    · unfold StepOut.untilFall
      rw [ho, hlow]
      dsimp only
      rw [if_neg Bool.false_ne_true, if_neg (Nat.not_lt.2 hi)]
      rfl
    · rw [hhigh h, waitFor_outside hout]
    · unfold StepOut.untilWaiting
      rw [ho]
      cases o.waiting with
      | nil => rfl
      | cons w rest =>
        dsimp only
        rw [hlen, waitFor_outside hout]
    · rw [hfall hlow hi, waitFor_within hreset hin]
      refine ⟨_, rfl, hpasses _, ?_⟩
      rw [hax]
      have hnot := mt (lt_risen hi).2 (Nat.lt_irrefl _)
      generalize hg : risen sch.what.count sch.elapsed = i at *
      have hto : sch.elapsed + (3 + i * 996 / sch.what.count - sch.elapsed) = 3 + i * 996 / sch.what.count := by omega
      have hmono : i * 996 / sch.what.count ≤ (sch.what.count - 1) * 996 / sch.what.count :=
        Nat.div_le_div_right (Nat.mul_le_mul_right _ (by omega))
      obtain ⟨hissued, hstep⟩ := pass_at_pulse ho (n := 3 + i * 996 / sch.what.count - sch.elapsed) (i := i) (by omega) hi
        (by omega) (by
          by_cases hc : i + 1 = sch.what.count
          · exact .inl hc
          · have := rises_spaced hmax (show i + 1 < sch.what.count by omega)
            exact .inr (by omega)) (.inr (by omega))
      rw [hissued, hstep, hg, show i + 1 - i = 1 by omega, signedPulses_eq]
      exact ⟨by simp, decide_eq_false (by omega)⟩
    · rw [hhigh h, waitFor_within hreset hin]
      have hmono : j * 996 / sch.what.count ≤ (sch.what.count - 1) * 996 / sch.what.count :=
        Nat.div_le_div_right (Nat.mul_le_mul_right _ (by omega))
      have hnext : j + 1 = sch.what.count ∨ 2 + j * 996 / sch.what.count + 3 ≤ 2 + (j + 1) * 996 / sch.what.count := by
        by_cases hc : j + 1 = sch.what.count
        · exact .inl hc
        · exact .inr (rises_spaced hmax (by omega))
      have hnow := risen_eq_succ hj helapsed.ge (hnext.imp_right fun h => by omega)
      obtain ⟨hissued, hstep⟩ := pass_at_pulse ho (n := 1) (i := j) (by decide) hj (by omega)
        (hnext.imp_right fun h => by omega) (.inr (by omega))
      refine ⟨_, rfl, hpasses _, ?_⟩
      rw [hax]
      refine ⟨?_, ?_, fun hc => ?_, fun hc hnone => ?_⟩
      · rw [hissued, hnow, Nat.sub_self, signedPulses_zero, Int.add_zero]
      · rw [hstep]
        exact decide_eq_false (by omega)
      · have := rises_spaced hmax hc
        have hmono' : (j + 1) * 996 / sch.what.count ≤ (sch.what.count - 1) * 996 / sch.what.count :=
          Nat.div_le_div_right (Nat.mul_le_mul_right _ (by omega))
        rw [pass_within ho (by decide) (by omega)]
        exact ⟨rfl, rfl⟩
      · have hj' : j = sch.what.count - 1 := by omega
        rw [pass_to_end ho hnone (by decide) (by rw [hlen, helapsed, hj']; omega)]
    · have hto : sch.elapsed + (3 + (sch.what.count - 1) * 996 / sch.what.count - sch.elapsed) =
          scheduleLength sch.what.count := by omega
      have hall : risen sch.what.count (scheduleLength sch.what.count) = sch.what.count := by
        have := risen_eq_succ (c := sch.what.count) (i := sch.what.count - 1) (e := scheduleLength sch.what.count) (by omega)
          (by omega) (.inl (by omega))
        omega
      have huntil : o.untilWaiting = some (3 + (sch.what.count - 1) * 996 / sch.what.count - sch.elapsed) := by
        unfold StepOut.untilWaiting
        rw [ho, hw, ← hlen]
      rw [huntil, waitFor_within hreset hin]
      refine ⟨_, rfl, hpasses _, ?_⟩
      rw [hax, pass_to_waiting ho hw (by omega) hto, hto, hall, signedPulses_eq,
        Int.natCast_sub (risen_le sch.what.count sch.elapsed)]

end Sys2Proof.Machine

/-! PROOFS. The rows of the time base and the step of the machine: correction, expiry of the pulse age, the largest value,
setting and reading the time (R2, R9 to R11, R15, R16). -/

namespace Sys2Proof.Machine

variable {s t u : State}

/-! ### Time passing with no change of R10 within it -/

/-- Microseconds in which the pulse age does not pass 2,500,000 change nothing but the counters that run. -/
theorem elapse_young {n : Nat} (hn : n ≠ 0) (hdue : s.time.expiryDue = false) (hage : ∀ a ∈ s.time.pulseAge, a + n ≤ expiryAge) :
    s.elapse n =
      { s with time := (s.time.count n).aged n, steps := s.steps.map (StepOut.pass n), ports := s.ports.map (Port.pass n) } := by
  have htake : s.takeExpiry = s := by
    unfold State.takeExpiry
    rw [hdue]
    rfl
  unfold State.elapse
  rw [if_neg hn, htake]
  dsimp only
  cases hp : s.time.pulseAge with
  | none =>
    have hcount : (s.time.count n).pulseAge = none := hp
    simp only [State.agePulse, TimeBase.aged, hcount]
  | some a =>
    have hcount : (s.time.count n).pulseAge = some a := hp
    have hle := hage a hp
    simp only [State.agePulse, TimeBase.aged, hcount]
    have h1 : ¬ expiryAge ≤ a := by omega
    by_cases h2 : a + n < expiryAge
    · simp only [h1, h2, if_true, if_false]
      rfl
    · have h3 : a + n = expiryAge := by omega
      simp only [h1, h3, Nat.lt_irrefl, eq_self, if_true, if_false]
      rfl

theorem aged_of_none {n : Nat} {t : TimeBase} (h : t.pulseAge = none) : t.aged n = t := by
  unfold TimeBase.aged
  rw [h]

theorem aged_of_lt {n a : Nat} {t : TimeBase} (h : t.pulseAge = some a) (hlt : a + n < expiryAge) :
    t.aged n = { t with pulseAge := some (a + n) } := by
  unfold TimeBase.aged
  rw [h]
  dsimp only
  rw [if_neg (by omega), if_pos hlt]

theorem aged_of_eq {n a : Nat} {t : TimeBase} (h : t.pulseAge = some a) (hn : n ≠ 0) (heq : a + n = expiryAge) :
    t.aged n = { t with pulseAge := some expiryAge, expiryDue := true } := by
  unfold TimeBase.aged
  rw [h]
  dsimp only
  rw [if_neg (by omega), if_neg (by omega), if_pos heq]

/-! ### Counting -/

theorem correctionDue_of_none {t : TimeBase} (h : t.slew = none) : t.correctionDue = none := by
  unfold TimeBase.correctionDue
  rw [h]

theorem counted_of_none {n : Nat} {t : TimeBase} (h : t.correctionDue = none) :
    t.counted n = (min maxTime (t.mountTime + n), t.slew) := by
  unfold TimeBase.counted
  rw [h]

theorem counted_past {n : Nat} {t : TimeBase} {w : Slew} (h : t.correctionDue = some w)
    (hn : t.correctionAt - t.mountTime < n) :
    t.counted n = (min maxTime (if w.remove then t.mountTime + n - 1 else t.mountTime + n + 1), w.applied) := by
  unfold TimeBase.counted
  rw [h]
  exact if_neg (Nat.not_le.2 hn)

theorem count_zero {t : TimeBase} (h : t.mountTime ≤ maxTime) : t.count 0 = t := by
  have hcounted : t.counted 0 = (t.mountTime, t.slew) := by
    unfold TimeBase.counted
    split
    · rw [Nat.add_zero, Nat.min_eq_right h]
    · rw [if_pos (Nat.zero_le _), Nat.add_zero, Nat.min_eq_right h]
  unfold TimeBase.count
  rw [hcounted]
  dsimp only
  simp

/-- Settles O5. -/
theorem setTimeAndGetTime : Obligations.SetTimeAndGetTime := by
  intro v s hready
  have hset (t : State) (a : Answer) (h : setTime v s = (t, a)) :
      exec (.setTime v) s = .next (t.answered .schedule 0x92 a.status a.fields) :=
    congrArg Host.Outcome.next (State.request_of_ready hready h)
  refine ⟨fun hmoving => hset _ (.only .inMotion) ?_, fun hstill hfree => hset _ (.only .ok) ?_, fun hstill hfree hv => hset _ (.only .badValue) ?_,
    fun hstill hfree hv => hset _ (.only .ok) ?_,
    congrArg Host.Outcome.next (State.request_of_ready (effect := getTime) hready rfl)⟩
  · exact if_pos hmoving
  · unfold setTime
    rw [hstill, if_neg (by decide), if_pos hfree]
    rfl
  · unfold setTime
    rw [hstill, if_neg (by decide), if_neg hfree, if_pos hv]
  · unfold setTime
    rw [hstill, if_neg (by decide), if_neg hfree, if_neg (not_not.2 hv)]
    rfl

/-! ### A correction of a slew -/

/-- Settles O6: the microseconds to the correction lie within the period and within the pulse age, so only counters run. -/
theorem slewCorrectionAtFiveHundred : Obligations.SlewCorrectionAtFiveHundred := by
  intro s hreset
  have hexec : exec .slewCorrection s = .next (s.waitFor s.time.untilCorrection) := rfl
  rw [hexec]
  refine ⟨fun hnone => ?_, fun w a hw hleft hevents hevent hexpiry hmod hmax hage hold => ?_⟩
  · unfold TimeBase.untilCorrection
    rw [correctionDue_of_none hnone]
    rfl
  · have hdue : s.time.correctionDue = some w := by
      unfold TimeBase.correctionDue
      rw [hw]
      exact if_pos ⟨hevents, hleft, hevent, hmod⟩
    have hat : s.time.correctionAt - s.time.mountTime + 1 = 501 - s.time.mountTime % 1000 := by
      unfold TimeBase.correctionAt
      omega
    have huntil : s.time.untilCorrection = some (501 - s.time.mountTime % 1000) := by
      unfold TimeBase.untilCorrection
      rw [hdue, ← hat]
    have hwithin : s.withinPeriod (501 - s.time.mountTime % 1000) = true := by
      unfold State.withinPeriod TimeBase.untilEvent TimeBase.until
      rw [hevent, hdue]
      dsimp only
      rw [if_neg Bool.false_ne_true, if_pos (by unfold maxTime; omega), if_pos (by unfold TimeBase.correctionAt; omega)]
      dsimp only
      rw [decide_eq_true_eq]
      split <;> omega
    dsimp only
    rw [huntil, waitFor_within hreset hwithin, elapse_young (by omega) hexpiry (by
      intro b hb
      rw [hage] at hb
      cases hb
      unfold expiryAge
      omega), aged_of_lt (a := a) (by exact hage) (by unfold expiryAge; omega)]
    have htime : (if w.remove = true then s.time.mountTime + (501 - s.time.mountTime % 1000) - 1
        else s.time.mountTime + (501 - s.time.mountTime % 1000) + 1) =
        if w.remove = true then s.time.mountTime - s.time.mountTime % 1000 + 500
        else s.time.mountTime - s.time.mountTime % 1000 + 502 := by
      split <;> omega
    have hleft1 : (w.left ≤ 1) = (w.left = 1) := propext (by omega)
    have hcounted : s.time.counted (501 - s.time.mountTime % 1000) =
        (if w.remove = true then s.time.mountTime - s.time.mountTime % 1000 + 500
          else s.time.mountTime - s.time.mountTime % 1000 + 502,
          if w.left = 1 then none else some { w with left := w.left - 1 }) := by
      rw [counted_past hdue (by omega), htime, Nat.min_eq_right (by unfold maxTime; split <;> omega)]
      unfold Slew.applied
      simp only [hleft1]
    have hnot : (if w.remove = true then s.time.mountTime - s.time.mountTime % 1000 + 500
          else s.time.mountTime - s.time.mountTime % 1000 + 502) % 1000 ≠ 0 := by
      split <;> omega
    unfold TimeBase.count
    rw [hcounted]
    dsimp only
    rw [decide_eq_false hnot, Bool.false_and, Bool.or_false]

/-! ### The change of R10 -/

theorem expired_event (t : TimeBase) : t.expired.timeValid = t.timeValid := by
  unfold TimeBase.expired
  split <;> rfl

theorem settled_timeValid (t : TimeBase) : t.settled.timeValid = t.timeValid := by
  unfold TimeBase.settled
  split
  · exact expired_event t
  · rfl

theorem aged_timeValid (n : Nat) (t : TimeBase) : (t.aged n).timeValid = t.timeValid := by
  unfold TimeBase.aged
  repeat' split
  all_goals first | rfl | exact expired_event _

theorem passed_timeValid (n : Nat) (t : TimeBase) : (t.passed n).timeValid = t.timeValid := by
  unfold TimeBase.passed
  rw [aged_timeValid]
  exact settled_timeValid t

theorem elapse_timeValid (n : Nat) (s : State) : (s.elapse n).time.timeValid = s.time.timeValid := by
  by_cases hn : n = 0
  · subst hn; rfl
  · rw [elapse_time hn]
    exact passed_timeValid n s.time

/-- The change of R10 where it is due, by the discipline state it falls from. -/
theorem takeExpiry_of_due (h : s.time.expiryDue = true) :
    s.takeExpiry = if s.time.discipline = .locked ∨ s.time.discipline = .acquiring
      then State.raise .time (s.withTime s.time.expired) else s.withTime s.time.expired := by
  unfold State.takeExpiry State.expirePulseAge TimeBase.expired
  rw [h, if_pos rfl]
  split <;> rename_i hd <;> simp [hd]

/-- Settles O7: the state at the moment, and the change made there. -/
theorem pulseAgeExpiryFalls : Obligations.PulseAgeExpiryFalls := by
  intro s a hreset hmax hage hwhen
  dsimp only
  have hexec : exec .pulseAgeExpiry s = .next ((s.waitFor s.time.untilExpiry).takeExpiry) := by
    show Host.Outcome.next (if s.resetLow then s else _) = _
    rw [hreset]
    rfl
  rw [hexec]
  have hat : s.waitFor s.time.untilExpiry =
      { s with
        time := { s.time.count (2500000 - a) with pulseAge := some 2500000, expiryDue := true }
        steps := s.steps.map (StepOut.pass (2500000 - a)), ports := s.ports.map (Port.pass (2500000 - a)) } := by
    unfold TimeBase.untilExpiry
    rw [hage]
    rcases hwhen with ⟨hlt, hdue, hwithin⟩ | ⟨rfl, hdue⟩
    · dsimp only
      rw [if_pos (by exact hlt)]
      show s.waitFor (some (2500000 - a)) = _
      rw [waitFor_within hreset hwithin, elapse_young (by omega) hdue (by
        intro b hb
        rw [hage] at hb
        cases hb
        unfold expiryAge
        omega), aged_of_eq (a := a) (by exact hage) (by omega) (by unfold expiryAge; omega)]
      rfl
    · rw [Nat.sub_self, count_zero hmax]
      have hpass : s.steps.map (StepOut.pass 0) = s.steps := rfl
      have hports : s.ports.map (Port.pass 0) = s.ports := rfl
      have htime : ({ s.time with pulseAge := some 2500000, expiryDue := true } : TimeBase) = s.time := by
        rw [← hage, ← hdue]
      rw [hpass, hports, htime]
      rfl
  rw [hat, takeExpiry_of_due rfl]
  have hd : (s.time.count (2500000 - a)).discipline = s.time.discipline := rfl
  have hg : (s.time.count (2500000 - a)).pendingSet = s.time.pendingSet := rfl
  cases hd' : s.time.discipline <;> simp [hd, hd', hg, TimeBase.expired, State.withTime, State.raise]
  all_goals exact ⟨rfl, hage.symm⟩

/-! ### The largest value -/

/-- Counted from where none is due, an event is due exactly where a multiple of 1,000 is reached. -/
theorem passed_event_iff {n : Nat} {t : TimeBase} (h : t.eventDue = false) :
    (t.passed n).eventDue = true ↔ (t.settled.counted n).1 % 1000 = 0 ∧ (t.settled.counted n).1 ≠ t.mountTime := by
  obtain ⟨hm, he, _⟩ := settled_counts t
  unfold TimeBase.passed
  rw [(aged_counts n _).2.1, ← hm]
  show (t.settled.eventDue || _) = true ↔ _
  rw [he, h, Bool.false_or, Bool.and_eq_true, decide_eq_true_eq, decide_eq_true_eq]

theorem settled_until (t : TimeBase) (target : Nat) : t.settled.until target = t.until target := by
  obtain ⟨hm, he, hw⟩ := settled_counts t
  unfold TimeBase.until TimeBase.correctionAt TimeBase.correctionDue
  rw [hm, he, hw]

/-- Counting `until` a value of the last period, the last included, comes to that value. -/
theorem count_until_last {t : TimeBase} (hlow : 281474976710000 ≤ t.mountTime) (hmax : t.mountTime ≤ 281474976710655) :
    (t.counted (t.until maxTime)).1 = 281474976710655 := by
  unfold TimeBase.until
  cases hdue : t.correctionDue with
  | none =>
    dsimp only
    rw [counted_of_none hdue]
    unfold maxTime
    dsimp only
    omega
  | some w =>
    have hmod : t.mountTime % 1000 ≤ 500 := (correctionDue_eq_some hdue).2.2.2.2
    have hat : t.correctionAt = 281474976710500 := by
      unfold TimeBase.correctionAt
      omega
    dsimp only
    rw [if_pos (by rw [hat]; decide), counted_past hdue (by rw [hat]; unfold maxTime; split <;> omega)]
    unfold maxTime
    dsimp only
    split <;> omega

/-- Settles O8: in the last period no event is to come, and the time to the largest value is counted in full. -/
theorem mountTimeHoldsAtLargest : Obligations.MountTimeHoldsAtLargest := by
  intro s hreset hevent hlow hmax
  have hnone : s.time.untilEvent = none := by
    unfold TimeBase.untilEvent
    rw [hevent, if_neg Bool.false_ne_true]
    exact if_neg (by unfold maxTime; omega)
  have hhold : s.waitFor s.time.untilHold = s.elapse (s.time.until maxTime) := by
    unfold TimeBase.untilHold
    rw [hnone]
    dsimp only
    exact waitFor_within hreset (by unfold State.withinPeriod; rw [hnone])
  obtain ⟨hm, he, hw⟩ := settled_counts s.time
  have hreach : (s.elapse (s.time.until maxTime)).time.mountTime = 281474976710655 := by
    have hlast := count_until_last (t := s.time.settled) (hm ▸ hlow) (hm ▸ hmax)
    rw [settled_until] at hlast
    by_cases hn : s.time.until maxTime = 0
    · rw [hn] at hlast ⊢
      have hzero : (s.time.settled.counted 0).1 = s.time.settled.mountTime :=
        congrArg TimeBase.mountTime (count_zero (t := s.time.settled) (by rw [hm]; exact hmax))
      rw [hzero, hm] at hlast
      exact hlast
    · rw [elapse_time hn, passed_mountTime, hlast]
  have hquiet : (s.elapse (s.time.until maxTime)).time.eventDue = false := by
    by_cases hn : s.time.until maxTime = 0
    · rw [hn]
      exact hevent
    · rw [elapse_time hn, passed_mountTime] at hreach
      rw [elapse_time hn, ← Bool.not_eq_true, passed_event_iff hevent, hreach]
      omega
  refine ⟨⟨_, congrArg Host.Outcome.next hhold, hreach, hquiet, elapse_timeValid _ s, elapse_rest _ s, _, elapse_steps _ s,
    State.elapse_ports s _⟩, fun levels order => ?_⟩
  show Host.Outcome.next (s.demandEvent levels order) = _
  unfold State.demandEvent
  rw [hnone]

/-! ### One step -/

theorem settled_slew_none {t : TimeBase} (h : t.slew = none) : t.settled.correctionDue = none :=
  correctionDue_of_none ((settled_counts t).2.2.trans h)

theorem expired_pulseAge (t : TimeBase) : t.expired.pulseAge = t.pulseAge := by
  unfold TimeBase.expired
  split <;> rfl

theorem settled_pulseAge (t : TimeBase) : t.settled.pulseAge = t.pulseAge := by
  unfold TimeBase.settled
  split
  · exact expired_pulseAge t
  · rfl

theorem settled_expiryDue (t : TimeBase) : t.settled.expiryDue = false := by
  unfold TimeBase.settled TimeBase.expired
  split
  · split <;> rfl
  · exact Bool.not_eq_true _ ▸ ‹_›

/-- An event that is due is taken at once. -/
theorem demandEvent_due (hreset : s.resetLow = false) (hdue : s.time.eventDue = true) (levels : Inputs Bool)
    (order : List Turn) : s.demandEvent levels order = s.runEvent levels order := by
  have huntil : s.time.untilEvent = some 0 := if_pos hdue
  unfold State.demandEvent
  rw [huntil]
  dsimp only
  rw [hreset, elapse_zero]
  rfl

/-- Settles O1: a microsecond passes on an empty queue, and its effect on each counter is that of `count` and `aged`. -/
theorem stepTakesFrontCommand : Obligations.StepTakesFrontCommand := by
  refine ⟨fun c rest s => rfl, fun s hempty => ?_⟩
  have hstep : step s = .next s.idle := by
    unfold step
    rw [hempty]
  rw [hstep]
  unfold State.idle
  refine ⟨fun h => by rw [h]; rfl, fun h hdue => ?_, fun h hdue => ?_⟩
  · rw [if_neg (by rw [h]; exact Bool.false_ne_true), if_pos hdue]
    exact (congrArg Host.Outcome.next (demandEvent_due (s := { s with orderDraws := s.orderDraws + 1 }) h hdue _ _)).symm
  · rw [h, if_neg Bool.false_ne_true, hdue, if_neg Bool.false_ne_true]
    refine ⟨_, rfl, elapse_rest 1 s, elapse_steps 1 s, State.elapse_ports s 1, fun hslew hmax => ?_, fun hage => ?_, fun a hage hlt => ?_⟩
    · obtain ⟨hm, he, hw⟩ := settled_counts s.time
      rw [elapse_time one_ne_zero, passed_mountTime, passed_event_iff hdue]
      have hmount : (s.time.settled.counted 1).1 = min 281474976710655 (s.time.mountTime + 1) := by
        rw [counted_of_none (settled_slew_none hslew), hm]
        rfl
      rw [hmount]
      refine ⟨rfl, ?_⟩
      omega
    · rw [elapse_time one_ne_zero]
      unfold TimeBase.passed
      have hnone : (s.time.settled.count 1).pulseAge = none := (settled_pulseAge s.time).trans hage
      rw [aged_of_none hnone, hnone]
    · have hsome : (s.time.settled.count 1).pulseAge = some a := (settled_pulseAge s.time).trans hage
      have hquiet : (s.time.settled.count 1).expiryDue = false := settled_expiryDue s.time
      rw [elapse_time one_ne_zero]
      unfold TimeBase.passed
      by_cases heq : a + 1 = 2500000
      · rw [aged_of_eq hsome one_ne_zero heq, decide_eq_true heq, heq]
        exact ⟨rfl, rfl⟩
      · rw [aged_of_lt hsome (by unfold expiryAge; omega), decide_eq_false heq]
        exact ⟨rfl, hquiet⟩

end Sys2Proof.Machine

/-! PROOFS. Resets, the requests on the night list and its chains, and those on the model table (R17 to R23, R33 to R38,
R49 to R53, R65 to R68). -/

namespace Sys2Proof.Machine

variable {s t u : State}

/-! ### Resets -/

theorem powerOnState_atPowerOn (straps : Links Straps) (low : Bool) (s : State) :
    (s.powerOnState straps low).atPowerOn straps := by
  refine ⟨⟨rfl, rfl, rfl, rfl⟩, ⟨rfl, rfl, rfl, rfl, fun ax => ?_, fun ax => ?_⟩,
    ⟨rfl, rfl, fun i => ?_, fun l => ?_⟩, ⟨rfl, rfl, fun l => ?_⟩, rfl, fun i => ?_, rfl, rfl⟩
  · cases ax <;> rfl
  · cases ax <;> rfl
  · cases i <;> rfl
  · cases l <;> rfl
  · cases l <;> rfl
  · exact Items.get_const none i

theorem reset_atPowerOn : State.reset.atPowerOn ⟨strapsLow, strapsLow, strapsLow⟩ :=
  powerOnState_atPowerOn ⟨strapsLow, strapsLow, strapsLow⟩ false State.reset

/-- Settles O2: every reset leads to one state, but for the queue, the pins, RESET_N and the straps. -/
theorem resetsLeavePowerOnState : Obligations.ResetsLeavePowerOnState := by
  refine ⟨reset_atPowerOn, fun straps s =>
    ⟨⟨_, rfl, powerOnState_atPowerOn straps false s, rfl, rfl, rfl⟩,
      ⟨_, rfl, powerOnState_atPowerOn _ true s, rfl, rfl, rfl⟩, fun hlow => ?_, fun hhigh => ?_, fun l t ht => ?_⟩⟩
  · refine ⟨_, ?_, powerOnState_atPowerOn straps false s, rfl, rfl, rfl⟩
    exact congrArg Host.Outcome.next (if_pos hlow)
  · exact congrArg Host.Outcome.next (if_neg (by rw [hhigh]; exact Bool.false_ne_true))
  · obtain ⟨_, _, _, ⟨_, _, hports⟩, _⟩ := ht
    rw [hports]
    dsimp only [Port.baud]
    unfold baudRate
    cases (straps.get l).rate1 <;> cases (straps.get l).rate0 <;> rfl

theorem defaults_lawful : itemsLawful Items.defaults.get := by
  refine ⟨fun i => ?_, fun ax => ?_⟩
  · cases i with
    | lower ax => cases ax <;> decide
    | upper ax => cases ax <;> decide
    | stepMax ax => cases ax <;> decide
    | vmax ax => cases ax <;> decide
    | acc ax => cases ax <;> decide
    | park ax => cases ax <;> decide
    | _ => decide
  · cases ax <;> decide

/-- Settles O3. -/
theorem resetMeetsEveryLaw : Obligations.ResetMeetsEveryLaw := by
  have hzero : (0 : Int) ≤ 8192 := by decide
  refine ⟨?_, ⟨Nat.zero_le _, List.nodup_nil⟩, ⟨rfl, fun _ h => absurd h List.not_mem_nil⟩,
    fun _ h => absurd h List.not_mem_nil, ⟨rfl, Nat.zero_lt_succ _, Nat.zero_lt_succ _⟩,
    cycleLaw_of_clear rfl rfl rfl, rfl, ?_, ?_, reset_attentionLaw, ItemsSettled.configLaw ⟨defaults_lawful, rfl⟩,
    fun h => absurd rfl h, GuideLaw.of_zero rfl hzero, fun ax => offsetLawful_zero (by cases ax <;> exact ⟨rfl, rfl, rfl⟩),
    lineLaw_iff.2 fun id => ⟨?_, fun h => ?_⟩, initial_lawful _, initial_lawful _, initial_lawful _⟩
  · refine ⟨Nat.zero_le _, Nat.zero_le _, Nat.zero_le _, ⟨fun h => (by cases h), fun h => (by cases h)⟩,
      fun a h => (by cases h), fun a h => (by cases h), fun a h => (by cases h), fun a h => (by cases h)⟩
  · simp [State.FaultLaw, State.reset]
  · simp [State.ShelterLaw, State.reset, State.shelterSources, Enclosure.initial, Inputs.const]
  · cases id <;> exact initialLine_lawful
  · cases id <;> cases h

/-! ### The target record -/

/-- The kind that a record's bytes give. -/
def kindOf (r : TargetRecord) : Option TargetKind :=
  match r.kind.toNat, r.fixedPosition with
  | 0, none => some .track
  | 1, some p => some (.fixed (signedAxes p))
  | _, _ => none

/-- The window that a record's bytes give does not end before it begins. -/
def windowOk (r : TargetRecord) : Bool :=
  match r.earliest, r.latest with
  | some e, some l => decide (e.toNat ≤ l.toNat)
  | _, _ => true

/-- The fields of a record that its checks let through. -/
def recordWith (r : TargetRecord) (kind : TargetKind) (wrap : WrapPref) (station : Bool) : Record where
  id := r.id.toNat
  kind := kind
  earliest := r.earliest.map BitVec.toNat
  latest := r.latest.map BitVec.toNat
  dwell := r.dwell.toNat
  maxHold := r.maxHold.toNat
  station := station
  guided := r.flags.getLsbD 0
  guideRequired := r.flags.getLsbD 1 && r.flags.getLsbD 0
  carryGuide := r.flags.getLsbD 2
  wrap := wrap

/-- The checks of a record beside its codes. -/
def RangesOk (r : TargetRecord) : Prop :=
  r.id.toNat ≠ 0 ∧ r.dwell.toNat ≠ 0 ∧ windowOk r = true ∧ r.presence.toNat < 8 ∧ r.flags.toNat < 8

theorem recordOf_eq_some {r : TargetRecord} {rec : Record} :
    recordOf r = some rec ↔
      RangesOk r ∧ ∃ kind wrap station, kindOf r = some kind ∧ wrapOfCode r.wrap = some wrap ∧
        bitOfCode r.station = some station ∧ rec = recordWith r kind wrap station := by
  have hdef : recordOf r =
      match kindOf r, wrapOfCode r.wrap, bitOfCode r.station with
      | some kind, some wrap, some station =>
        if r.id.toNat ≠ 0 ∧ r.dwell.toNat ≠ 0 ∧ windowOk r = true ∧ r.presence.toNat < 8 ∧ r.flags.toNat < 8 then
          some (recordWith r kind wrap station)
        else none
      | _, _, _ => none := rfl
  rw [hdef]
  split
  case h_1 kind wrap station hk hw hs =>
    by_cases h : r.id.toNat ≠ 0 ∧ r.dwell.toNat ≠ 0 ∧ windowOk r = true ∧ r.presence.toNat < 8 ∧ r.flags.toNat < 8
    · rw [if_pos h, Option.some.injEq]
      refine ⟨fun he => ⟨h, kind, wrap, station, hk, hw, hs, he.symm⟩, ?_⟩
      rintro ⟨_, kind', wrap', station', hk', hw', hs', rfl⟩
      rw [hk] at hk'
      rw [hw] at hw'
      rw [hs] at hs'
      cases hk'; cases hw'; cases hs'
      rfl
    · rw [if_neg h]
      exact ⟨fun h => (by cases h), fun hr => absurd hr.1 h⟩
  case h_2 hnone =>
    refine ⟨fun h => (by cases h), ?_⟩
    rintro ⟨_, kind, wrap, station, hk, hw, hs, _⟩
    exact absurd hs (hnone kind wrap station hk hw)

theorem bitOfCode_isSome (b : Byte) : (∃ x, bitOfCode b = some x) ↔ b.toNat < 2 := by
  unfold bitOfCode
  split
  · exact ⟨fun _ => by omega, fun _ => ⟨_, rfl⟩⟩
  · exact ⟨fun _ => by omega, fun _ => ⟨_, rfl⟩⟩
  case h_3 h0 h1 =>
    have h0 : b.toNat ≠ 0 := h0
    have h1 : b.toNat ≠ 1 := h1
    exact ⟨fun ⟨_, h⟩ => (by cases h), fun _ => by omega⟩

theorem bitOfCode_eq_some {b : Byte} {x : Bool} (h : bitOfCode b = some x) : x = true ↔ b.toNat = 1 := by
  unfold bitOfCode at h
  split at h <;> cases h <;> simp_all

theorem wrapOfCode_isSome (b : Byte) : (∃ x, wrapOfCode b = some x) ↔ b.toNat < 3 := by
  unfold wrapOfCode
  split
  · exact ⟨fun _ => by omega, fun _ => ⟨_, rfl⟩⟩
  · exact ⟨fun _ => by omega, fun _ => ⟨_, rfl⟩⟩
  · exact ⟨fun _ => by omega, fun _ => ⟨_, rfl⟩⟩
  case h_4 h0 h1 h2 =>
    have h0 : b.toNat ≠ 0 := h0
    have h1 : b.toNat ≠ 1 := h1
    have h2 : b.toNat ≠ 2 := h2
    exact ⟨fun ⟨_, h⟩ => (by cases h), fun _ => by omega⟩

theorem wrapOfCode_eq_some {b : Byte} {x : WrapPref} (h : wrapOfCode b = some x) :
    (x = .auto ↔ b.toNat = 0) ∧ (x = .low ↔ b.toNat = 1) ∧ (x = .high ↔ b.toNat = 2) := by
  unfold wrapOfCode at h
  split at h <;> cases h <;> simp_all

theorem kindOf_isSome (r : TargetRecord) :
    (∃ k, kindOf r = some k) ↔
      r.kind.toNat = 0 ∧ r.fixedPosition = none ∨ r.kind.toNat = 1 ∧ r.fixedPosition ≠ none := by
  unfold kindOf
  split
  case h_1 hk hf => exact ⟨fun _ => .inl ⟨hk, hf⟩, fun _ => ⟨_, rfl⟩⟩
  case h_2 p hk hf => exact ⟨fun _ => .inr ⟨hk, by rw [hf]; exact Option.some_ne_none p⟩, fun _ => ⟨_, rfl⟩⟩
  case h_3 htrack hfixed =>
    refine ⟨fun ⟨_, h⟩ => (by cases h), ?_⟩
    rintro (⟨hk, hf⟩ | ⟨hk, hf⟩)
    · exact absurd hf (htrack hk)
    · obtain ⟨p, hp⟩ := Option.ne_none_iff_exists'.1 hf
      exact absurd hp (hfixed p hk)

theorem windowOk_eq_true (r : TargetRecord) :
    windowOk r = true ↔ ¬ ∃ a b, r.earliest = some a ∧ r.latest = some b ∧ b.toNat < a.toNat := by
  unfold windowOk
  cases r.earliest <;> cases r.latest <;> simp

/-- Settles O10: a record passes exactly where each of its codes names a value and its ranges hold. -/
theorem recordChecked : Obligations.RecordChecked := by
  intro r
  refine ⟨?_, fun rec hrec => ?_⟩
  · have hsome : (∃ rec, recordOf r = some rec) ↔
        RangesOk r ∧ (∃ k, kindOf r = some k) ∧ (∃ w, wrapOfCode r.wrap = some w) ∧ ∃ b, bitOfCode r.station = some b := by
      simp only [recordOf_eq_some]
      constructor
      · rintro ⟨_, h, k, w, b, hk, hw, hb, _⟩
        exact ⟨h, ⟨k, hk⟩, ⟨w, hw⟩, b, hb⟩
      · rintro ⟨h, ⟨k, hk⟩, ⟨w, hw⟩, b, hb⟩
        exact ⟨_, h, k, w, b, hk, hw, hb, rfl⟩
    rw [← Option.not_isSome_iff_eq_none, Option.isSome_iff_exists, hsome, kindOf_isSome, wrapOfCode_isSome, bitOfCode_isSome]
    unfold RangesOk
    rw [windowOk_eq_true]
    generalize (∃ a b, r.earliest = some a ∧ r.latest = some b ∧ b.toNat < a.toNat) = bad
    by_cases hbad : bad
    · simp [hbad]
    by_cases hf : r.fixedPosition = none
    · simp only [hf, hbad, ne_eq, not_true_eq_false, not_false_eq_true, and_true, and_false, true_and, or_false, false_or]
      omega
    · simp only [hf, hbad, ne_eq, not_false_eq_true, and_true, and_false, true_and, false_or]
      omega
  · obtain ⟨_, kind, wrap, station, hk, hw, hs, rfl⟩ := recordOf_eq_some.1 hrec
    obtain ⟨hauto, hlow, hhigh⟩ := wrapOfCode_eq_some hw
    refine ⟨rfl, fun h => ?_, fun p h hp => ?_, rfl, rfl, rfl, rfl, bitOfCode_eq_some hs, rfl, Bool.and_comm _ _, rfl, hauto,
      hlow, hhigh⟩
    · unfold kindOf at hk
      rw [h] at hk
      split at hk <;> first | contradiction | (cases hk; rfl)
    · unfold kindOf at hk
      rw [h, hp] at hk
      cases hk
      rfl

end Sys2Proof.Machine

/-! PROOFS. The requests on the night list and its chains, and those on the model table (R33 to R38, R49 to R53, R65 to
R68). -/

namespace Sys2Proof.Machine

variable {s t u : State}

/-! ### The entry an id names -/

section Named

variable {l before after : List Entry} {e : Entry} {id : Nat}

theorem find_absent (h : ∀ x ∈ l, x.record.id ≠ id) : (l.find? fun x => x.record.id = id) = none := by
  rw [List.find?_eq_none]
  exact fun x hx => by simpa using h x hx

theorem find_named (hb : ∀ x ∈ before, x.record.id ≠ id) (he : e.record.id = id) :
    ((before ++ e :: after).find? fun x => x.record.id = id) = some e := by
  rw [List.find?_append, find_absent hb, Option.none_or, List.find?_cons_of_pos]
  exact decide_eq_true he

theorem positionOf_named (hb : ∀ x ∈ before, x.record.id ≠ id) (he : e.record.id = id) :
    positionOf id (before ++ e :: after) = before.length + 1 := by
  induction before with
  | nil => exact if_pos he
  | cons x before ih =>
    have hrest := ih fun y hy => hb y (List.mem_cons_of_mem x hy)
    rw [List.cons_append, positionOf, if_neg (hb x List.mem_cons_self), hrest, if_neg (Nat.succ_ne_zero _),
      List.length_cons]

theorem insertBefore_named (x : Entry) (hb : ∀ x ∈ before, x.record.id ≠ id) (he : e.record.id = id) :
    insertBefore id x (before ++ e :: after) = before ++ x :: e :: after := by
  induction before with
  | nil => exact if_pos he
  | cons y before ih =>
    refine (if_neg (hb y List.mem_cons_self)).trans ?_
    rw [List.append_eq, ih fun y hy => hb y (List.mem_cons_of_mem _ hy)]
    rfl

theorem removeId_named (hb : ∀ x ∈ before, x.record.id ≠ id) (he : e.record.id = id) :
    removeId id (before ++ e :: after) = before ++ after := by
  induction before with
  | nil => exact if_pos he
  | cons y before ih =>
    refine (if_neg (hb y List.mem_cons_self)).trans ?_
    rw [List.append_eq, ih fun y hy => hb y (List.mem_cons_of_mem _ hy)]
    rfl

theorem updateId_named (f : Entry → Entry) (hb : ∀ x ∈ before, x.record.id ≠ id) (he : e.record.id = id) :
    updateId id f (before ++ e :: after) = before ++ f e :: after := by
  unfold updateId
  induction before with
  | nil => exact if_pos (decide_eq_true he)
  | cons y before ih =>
    refine (if_neg (by rw [decide_eq_true_eq]; exact hb y List.mem_cons_self)).trans ?_
    rw [List.append_eq, ih fun y hy => hb y (List.mem_cons_of_mem _ hy)]
    rfl

theorem entryOf_absent (h : ∀ x ∈ s.night.entries, x.record.id ≠ id) : s.entryOf id = none := find_absent h

theorem entryOf_named (hs : s.night.entries = before ++ e :: after) (hb : ∀ x ∈ before, x.record.id ≠ id)
    (he : e.record.id = id) : s.entryOf id = some e := by
  unfold State.entryOf
  rw [hs]
  exact find_named hb he

theorem hasId_of_mem (h : ∃ x ∈ s.night.entries, x.record.id = id) : s.hasId id = true := by
  unfold State.hasId
  simpa using h

theorem hasId_of_absent (h : ∀ x ∈ s.night.entries, x.record.id ≠ id) : s.hasId id = false := by
  unfold State.hasId
  simpa using h

end Named

/-! ### Editing and reading the list -/

/-- Settles O11. -/
theorem targetAppendAtTail : Obligations.TargetAppendAtTail := by
  intro r s hready
  have hdo (t : State) (a : Answer) (h : targetAppend r s = (t, a)) :
      exec (.targetAppend r) s = .next (t.answered .schedule 0xA0 a.status a.fields) :=
    congrArg Host.Outcome.next (State.request_of_ready hready h)
  have hwf : recordLengthOk r = r.wf := rfl
  unfold targetAppend at hdo
  refine ⟨fun h => hdo _ (.only .badLength) (if_pos (hwf.trans h)), fun h hnone => hdo _ (.only .badValue) ?_,
    fun rec h hrec => ⟨fun hid => hdo _ (.only .duplicateId) ?_, fun hid hfull => hdo _ (.only .listFull) ?_,
      fun hid hroom => hdo (s.withEntries (s.night.entries ++ [newEntry rec])) ⟨.ok, .position (s.night.entries.length + 1)⟩ ?_⟩⟩
  · rw [hwf, h, hnone]
    rfl
  · rw [hwf, h, hrec]
    exact if_pos (hasId_of_mem hid)
  · rw [hwf, h, hrec]
    dsimp only
    rw [hasId_of_absent hid]
    exact if_pos hfull
  · rw [hwf, h, hrec]
    dsimp only
    rw [hasId_of_absent hid]
    exact if_neg (Nat.not_le.2 hroom)

/-- Settles O12. -/
theorem targetInsertBeforeNamed : Obligations.TargetInsertBeforeNamed := by
  intro named r s hready
  have hdo (t : State) (a : Answer) (h : targetInsert named r s = (t, a)) :
      exec (.targetInsert named r) s = .next (t.answered .schedule 0xA1 a.status a.fields) :=
    congrArg Host.Outcome.next (State.request_of_ready hready h)
  have hwf : recordLengthOk r = r.wf := rfl
  unfold targetInsert at hdo
  refine ⟨fun h => hdo _ (.only .badLength) (if_pos (hwf.trans h)), fun h hnone => hdo _ (.only .badValue) ?_,
    fun rec h hrec => ⟨fun hid => hdo _ (.only .noSuchTarget) ?_, fun before after e hs hb he => ?_⟩⟩
  · rw [hwf, h, hnone]
    rfl
  · rw [hwf, h, hrec, entryOf_absent hid]
    rfl
  · rw [hwf, h, hrec, entryOf_named hs hb he] at hdo
    dsimp only at hdo
    rw [if_neg (by decide)] at hdo
    refine ⟨fun hp => hdo _ (.only .notPending) (if_pos hp), fun hp hid => hdo _ (.only .duplicateId) ?_,
      fun hp hid hfull => hdo _ (.only .listFull) ?_,
      fun hp hid hroom => hdo (s.withEntries (before ++ newEntry rec :: e :: after)) ⟨.ok, .position (before.length + 1)⟩ ?_⟩
    · rw [hp, hasId_of_mem hid]
      rfl
    · rw [hp, hasId_of_absent hid]
      exact if_pos hfull
    · rw [hp, hasId_of_absent hid, hs, insertBefore_named _ hb he, positionOf_named hb he]
      refine if_neg (Nat.not_le.2 ?_)
      rw [← hs]
      exact hroom

/-- Settles O13. -/
theorem entriesLeaveTheList : Obligations.EntriesLeaveTheList := by
  intro id s hready
  have hdo (t : State) (a : Answer) (h : targetRemove id s = (t, a)) :
      exec (.targetRemove id) s = .next (t.answered .schedule 0xA2 a.status a.fields) :=
    congrArg Host.Outcome.next (State.request_of_ready hready h)
  unfold targetRemove at hdo
  refine ⟨fun h => hdo _ (.only .noSuchTarget) (by rw [entryOf_absent h]), fun before after e hs hb he => ?_, _, rfl,
    congrArg Host.Outcome.next (State.request_of_ready (effect := listPurge) hready rfl)⟩
  rw [entryOf_named hs hb he] at hdo
  dsimp only at hdo
  refine ⟨fun h => hdo _ (.only .wrongState) (if_pos h), fun h => hdo
    { s.withEntries (before ++ after) with free := s.free + e.chain.length }
    ⟨.ok, .removed e.chain.length (s.free + e.chain.length)⟩ ?_⟩
  rw [h, hs, removeId_named hb he]
  rfl

/-- Settles O14. -/
theorem listRead : Obligations.ListRead := by
  intro id s hready
  have hdo (a : Answer) (h : targetGet id s = (s, a)) :
      exec (.targetGet id) s = .next (s.answered .schedule 0xA4 a.status a.fields) :=
    congrArg Host.Outcome.next (State.request_of_ready hready h)
  unfold targetGet at hdo
  refine ⟨fun h => hdo (.only .noSuchTarget) (by rw [entryOf_absent h]), fun before after e hs hb he => ?_, ?_⟩
  · have hspan : (chainSpan e.chain).map Prod.fst = e.chain.head?.map segStart ∧
        (chainSpan e.chain).map Prod.snd = e.chain.getLast?.map segEnd := by
      unfold chainSpan
      cases e.chain with
      | nil => exact ⟨rfl, rfl⟩
      | cons g rest =>
        rw [List.getLast?_eq_getLast_of_ne_nil (List.cons_ne_nil g rest)]
        exact ⟨rfl, rfl⟩
    rw [entryOf_named hs hb he, hs, positionOf_named hb he] at hdo
    dsimp only at hdo
    rw [hspan.1, hspan.2] at hdo
    have hread := hdo _ rfl
    exact hread
  · simp only [List.countP_eq_length_filter]
    exact congrArg Host.Outcome.next (State.request_of_ready (effect := listSummary) hready rfl)

/-- Settles O17: the chains change only where every check has passed, and then in the state `stored`. -/
theorem segmentAppendAllOrNothing : Obligations.SegmentAppendAllOrNothing := by
  intro id segs s hready hlow hhigh
  have hdo (t : State) (a : Answer) (h : segmentAppend id segs s = (t, a)) :
      exec (.segmentAppend id segs) s = .next (t.answered .schedule 0xA6 a.status a.fields) :=
    congrArg Host.Outcome.next (State.request_of_ready hready h)
  unfold segmentAppend at hdo
  rw [if_neg (by omega)] at hdo
  refine ⟨fun h => hdo _ (.only .noSuchTarget) (by rw [entryOf_absent h]), fun before after e hs hb he => ?_⟩
  rw [entryOf_named hs hb he] at hdo
  dsimp only at hdo ⊢
  refine ⟨fun h => hdo _ (s.chainAnswer e .notPending none) (if_pos h),
    fun h hk => hdo _ (s.chainAnswer e .badValue none) ?_,
    fun st place h hk hf => hdo _ (s.chainAnswer e st (some place)) ?_,
    fun h hk hf hfree => hdo _ (s.chainAnswer e .poolFull none) ?_, fun h hk hf hfree => ?_⟩
  · rw [h]
    exact if_pos hk
  · rw [h, hf]
    exact if_neg (not_not.2 hk)
  · rw [h, hf]
    exact (if_neg (not_not.2 hk)).trans (if_pos hfree)
  · rw [h, if_neg Bool.false_ne_true, if_neg (not_not.2 hk), hf] at hdo
    dsimp only at hdo
    rw [if_neg (Nat.not_lt.2 hfree)] at hdo
    have hstored : s.appendSegments id.toNat segs =
        if s.inForce.poolLow ≤ (s.free : Int) ∧ ((s.free - segs.length : Nat) : Int) < s.inForce.poolLow then
          State.raise .poolLow { s with
            night := { s.night with entries := before ++ { e with chain := e.chain ++ segs } :: after }
            free := s.free - segs.length }
        else { s with
          night := { s.night with entries := before ++ { e with chain := e.chain ++ segs } :: after }
          free := s.free - segs.length } := by
      unfold State.appendSegments
      rw [hs, updateId_named _ hb he]
      rfl
    have hfreeAfter : (s.appendSegments id.toNat segs).free = s.free - segs.length := by
      rw [hstored]
      split <;> rfl
    rw [hdo _ _ rfl, hfreeAfter, hstored]

/-! ### The model table -/

theorem cellAddr_mod (page : Bool) (index : Nat) : cellAddr page (index % 128) = cellAddr page index := by
  unfold cellAddr
  rw [Nat.mod_mod]

theorem cellAddr_inj {page : Bool} {i j : Nat} : cellAddr page i = cellAddr page j ↔ i % 128 = j % 128 := by
  unfold cellAddr
  omega

theorem advance_step (p : Pointer) (j : Nat) :
    cellAddr (p.advance 1).page (((p.advance 1).index + j) % 128) = cellAddr p.page ((p.index + (j + 1)) % 128) := by
  refine cellAddr_inj.2 ?_
  show ((p.index + 1) % 128 + j) % 128 % 128 = _
  omega

theorem cellAddr_front (p : Pointer) : cellAddr p.page p.index = cellAddr p.page ((p.index + 0) % 128) :=
  (cellAddr_mod p.page p.index).symm

theorem readPairs_eq (cells : List (Nat × Pair)) (p : Pointer) (n : Nat) :
    readPairs cells p n = (List.range n).map fun j => readCell cells (cellAddr p.page ((p.index + j) % 128)) := by
  induction n generalizing p with
  | zero => rfl
  | succ n ih =>
    rw [List.range_succ_eq_map, List.map_cons, List.map_map, ← cellAddr_front]
    refine congrArg (List.cons _) ((ih (p.advance 1)).trans ?_)
    exact List.map_congr_left fun j _ => congrArg (readCell cells) (advance_step p j)

/-- A write of pairs leaves every entry that it does not come to. -/
theorem readCell_writePairs_other {cells : List (Nat × Pair)} (hwf : cellsWf cells = true) {p : Pointer} {vs : List Pair}
    {a : Nat} (h : ∀ j, j < vs.length → a ≠ cellAddr p.page ((p.index + j) % 128)) :
    readCell (writePairs cells p vs) a = readCell cells a := by
  induction vs generalizing cells p with
  | nil => rfl
  | cons v rest ih =>
    have hfront : a ≠ cellAddr p.page p.index := cellAddr_front p ▸ h 0 (Nat.zero_lt_succ _)
    refine (ih (p := p.advance 1) (writeCell_wf (cellAddr_lt _ _) hwf) fun j hj => ?_).trans
      (readCell_writeCell_other v hfront hwf)
    rw [advance_step]
    exact h (j + 1) (Nat.succ_lt_succ hj)

/-- The pairs of a write stand at the entries from the pointer onward. -/
theorem readCell_writePairs {cells : List (Nat × Pair)} (hwf : cellsWf cells = true) {p : Pointer} {vs : List Pair}
    (hlen : vs.length ≤ 128) {j : Nat} {v : Pair} (hj : vs[j]? = some v) :
    readCell (writePairs cells p vs) (cellAddr p.page ((p.index + j) % 128)) = v := by
  induction vs generalizing cells p j with
  | nil => cases hj
  | cons w rest ih =>
    have hwf' := writeCell_wf (v := w) (cellAddr_lt p.page p.index) hwf
    rw [List.length_cons] at hlen
    show readCell (writePairs (writeCell cells (cellAddr p.page p.index) w) (p.advance 1) rest) _ = _
    cases j with
    | zero =>
      cases hj
      rw [← cellAddr_front, readCell_writePairs_other hwf' (fun j hj => ?_), readCell_writeCell_same _ _ hwf]
      rw [advance_step, Ne, cellAddr_inj]
      omega
    | succ j =>
      rw [← advance_step]
      exact ih hwf' (by omega) hj

theorem bitOfCode_eq_none {b : Byte} (h : 1 < b.toNat) : bitOfCode b = none := by
  cases hb : bitOfCode b with
  | none => rfl
  | some x => exact absurd ((bitOfCode_isSome b).1 ⟨x, hb⟩) (by omega)

theorem bitOfCode_of_le {b : Byte} (h : b.toNat ≤ 1) : bitOfCode b = some (decide (b.toNat = 1)) := by
  obtain ⟨x, hx⟩ := (bitOfCode_isSome b).2 (by omega)
  rw [hx]
  congr 1
  exact Bool.eq_iff_iff.2 ((bitOfCode_eq_some hx).trans decide_eq_true_iff.symm)

/-- Settles O20. -/
theorem modelPointersAndEntries : Obligations.ModelPointersAndEntries := by
  intro pointer page index count pairs s hready
  have hseek (t : State) (a : Answer) (h : modelSeek pointer page index s = (t, a)) :
      exec (.modelSeek pointer page index) s = .next (t.answered .schedule 0xB0 a.status a.fields) :=
    congrArg Host.Outcome.next (State.request_of_ready hready h)
  have hread (t : State) (a : Answer) (h : modelRead count s = (t, a)) :
      exec (.modelRead count) s = .next (t.answered .schedule 0xB2 a.status a.fields) :=
    congrArg Host.Outcome.next (State.request_of_ready hready h)
  have hwrite (t : State) (a : Answer) (h : modelWrite pairs s = (t, a)) :
      exec (.modelWrite pairs) s = .next (t.answered .schedule 0xB1 a.status a.fields) :=
    congrArg Host.Outcome.next (State.request_of_ready hready h)
  refine ⟨fun h => hseek _ (.only .badValue) ?_, fun hp hg hi => ?_, fun h => hread _ (.only .badValue) (if_pos h),
    fun h1 h2 => ?_, fun hlaw h1 h2 => ?_⟩
  · unfold modelSeek
    split
    case h_1 a b ha hb =>
      have ha := (bitOfCode_isSome pointer).1 ⟨a, ha⟩
      have hb := (bitOfCode_isSome page).1 ⟨b, hb⟩
      exact if_pos (by omega)
    case h_2 => rfl
  · unfold modelSeek at hseek
    rw [bitOfCode_of_le hp, bitOfCode_of_le hg] at hseek
    dsimp only at hseek
    rw [if_neg (Nat.not_lt.2 hi)] at hseek
    have hmodel : (if decide (pointer.toNat = 1) = true then
          { s.model with readPtr := ⟨decide (page.toNat = 1), index.toNat⟩ }
        else { s.model with writePtr := ⟨decide (page.toNat = 1), index.toNat⟩ } : ModelTable) =
        if pointer.toNat = 0 then { s.model with writePtr := ⟨decide (page.toNat = 1), index.toNat⟩ }
        else { s.model with readPtr := ⟨decide (page.toNat = 1), index.toNat⟩ } := by
      by_cases h : pointer.toNat = 0
      · rw [if_pos h, h]
        rfl
      · rw [if_neg h, if_pos (by rw [decide_eq_true_eq]; omega)]
    rw [hmodel] at hseek
    exact hseek _ _ rfl
  · unfold modelRead at hread
    rw [if_neg (by omega), readPairs_eq] at hread
    exact hread _ _ rfl
  · obtain ⟨hwf, _, _⟩ := hlaw
    refine ⟨writePairs s.model.cells s.model.writePtr pairs, ?_, writePairs_wf _ pairs hwf,
      fun j v hj => readCell_writePairs hwf (by omega) hj, fun a ha => readCell_writePairs_other hwf ha⟩
    unfold modelWrite at hwrite
    rw [if_neg (by omega)] at hwrite
    exact hwrite _ _ rfl

end Sys2Proof.Machine

/-! PROOFS. What the end of a target leaves, what a fault found at an enabling leaves, and the requests that start, stop
and place the mount (R28, R91 to R103, R158, R168). -/

namespace Sys2Proof.Machine

variable {s t u : State}

/-! ### The end of a target -/

theorem updateFirst_updateFirst {α : Type} {p : α → Bool} {f g : α → α} (hg : ∀ x, p x = true → p (g x) = true)
    (l : List α) : updateFirst p f (updateFirst p g l) = updateFirst p (fun x => f (g x)) l := by
  induction l with
  | nil => rfl
  | cons x rest ih =>
    by_cases hx : p x = true
    · simp only [updateFirst, hx, if_true, hg x hx]
    · simp only [Bool.not_eq_true] at hx
      simp only [updateFirst, hx, ih, Bool.false_eq_true, if_false]

theorem updateFirst_of_found {α : Type} {p : α → Bool} {f : α → α} {l : List α} {a : α} (h : l.find? p = some a) :
    updateFirst p f l = updateFirst p (fun _ => f a) l := by
  obtain ⟨before, after, _, _, _, hf⟩ := updateFirst_of_find?_some h
  rw [hf, hf]

theorem isActive_onTally (f : Tally → Tally) (e : Entry) : (Entry.onTally f e).isActive = e.isActive := rfl

/-- The end of the ACTIVE entry but for the fall of ON_TARGET. -/
def State.targetEnded (o : EndOutcome) (e : Entry) (s : State) : State :=
  let s2 := (s.discardMailbox.withGuideState .off).foldAxes.onActive (Entry.finish o s.time.mountTime)
  State.give .targetEnd ({ s2 with free := s2.free + e.chain.length }.reportEnd e.record.id o)

theorem endActive_eq (o : EndOutcome) {e : Entry} (h : s.activeEntry = some e) :
    s.endActive o = State.setOnTarget false (s.targetEnded o e) := by
  unfold State.endActive
  rw [h]
  rfl

theorem targetEnded_onTarget (o : EndOutcome) (e : Entry) (s : State) : (s.targetEnded o e).onTarget = s.onTarget := by
  simp [State.targetEnded]

theorem targetEnded_lines (o : EndOutcome) (e : Entry) (s : State) :
    (s.targetEnded o e).lines = (State.give .targetEnd (State.raise .targetEnd s)).lines := rfl

theorem targetEnded_notices (o : EndOutcome) (e : Entry) (s : State) :
    (s.targetEnded o e).notices = { (State.raise .targetEnd s).notices with recentEnd := some (e.record.id, o) } := rfl

theorem targetEnded_time (o : EndOutcome) (e : Entry) (s : State) : (s.targetEnded o e).time = s.time := by
  simp [State.targetEnded]

theorem setOnTarget_false (s : State) :
    s.setOnTarget false =
      if s.onTarget then State.give .onTargetFall (State.raise .onTarget { s with onTarget := false }) else s := by
  unfold State.setOnTarget
  cases s.onTarget <;> rfl

/-- What the end of the ACTIVE entry writes, and the folding of every axis (R91). -/
theorem endActive_leaves (o : EndOutcome) {e : Entry} (h : s.activeEntry = some e) : s.EndLeaves o e (s.endActive o) := by
  obtain ⟨hon, hguide, haxes, hfree⟩ := State.endActive_some s o h
  refine ⟨⟨hfree, hon, by rw [hguide], by rw [hguide], ?_, ?_⟩, fun ax => ?_⟩
  · rw [endActive_eq o h, setOnTarget_false, targetEnded_onTarget]
    split
    · show (State.raise .onTarget _).notices.recentEnd = _
      rfl
    · rw [targetEnded_notices]
  · have hentries : (s.endActive o).night.entries =
        updateFirst Entry.isActive (Entry.finish o s.time.mountTime)
          (updateFirst Entry.isActive
            (Entry.onTally fun y => { y with guideDiscarded := count32 y.guideDiscarded s.guide.held }) s.night.entries) := by
      unfold State.endActive
      rw [h]
      simp
      rfl
    rw [hentries, updateFirst_updateFirst (fun x hx => (isActive_onTally _ x).trans hx), updateFirst_of_found h]
    rfl
  · rw [haxes, get_map]
    rfl

theorem endActive_lines (o : EndOutcome) {e : Entry} (h : s.activeEntry = some e) :
    (s.endActive o).lines =
      let r := State.give .targetEnd (State.raise .targetEnd s)
      (if s.onTarget then State.give .onTargetFall (State.raise .onTarget r) else r).lines := by
  have hl := targetEnded_lines o e s
  have ht := targetEnded_time o e s
  have ho := targetEnded_onTarget o e s
  rw [endActive_eq o h, setOnTarget_false, ho]
  generalize s.targetEnded o e = v at hl ht
  cases s.onTarget
  · exact hl
  · show v.lines.map (EventLine.receive v.time.eventDue _) = _
    rw [hl, ht]
    rfl

theorem endActive_notices (o : EndOutcome) {e : Entry} (h : s.activeEntry = some e) :
    (s.endActive o).notices =
      { (if s.onTarget then State.raise .onTarget (State.raise .targetEnd s) else State.raise .targetEnd s).notices with
        recentEnd := some (e.record.id, o) } := by
  have hn := targetEnded_notices o e s
  have ho := targetEnded_onTarget o e s
  rw [endActive_eq o h, setOnTarget_false, ho]
  generalize s.targetEnded o e = v at hn
  cases s.onTarget
  · exact hn
  · show { v.notices with boxes := v.notices.boxes.map (NoticeBox.raise .onTarget) } = _
    rw [hn]
    rfl

theorem endActive_keeps (o : EndOutcome) {e : Entry} (h : s.activeEntry = some e) : s.EndKeeps (s.endActive o) := by
  refine ⟨endActive_lines o h, ?_, ?_, by simp, by simp, by simp, by simp, by simp, by simp, by simp, by simp, by simp,
    by simp, by simp, by simp, by simp, by simp⟩
  · rw [endActive_notices o h]
    dsimp only
    cases s.onTarget <;> rfl
  · rw [endActive_notices o h]
    dsimp only
    cases s.onTarget <;> rfl

theorem EndKeeps.of_same (h : s.EndKeeps t) (hrest : { t with
      night := u.night, guide := u.guide, axes := u.axes, engine := u.engine, enable := u.enable, waitReason := u.waitReason
      free := u.free, onTarget := u.onTarget } = u) : s.EndKeeps u := by
  obtain ⟨h1, h2, h3, h4, h5, h6, h7, h8, h9, h10, h11, h12, h13, h14, h15, h16, h17⟩ := h
  rw [← hrest]
  exact ⟨h1, h2, h3, h4, h5, h6, h7, h8, h9, h10, h11, h12, h13, h14, h15, h16, h17⟩

theorem EndLeaves.of_same {o : EndOutcome} {e : Entry} (h : s.EndLeaves o e t) (hf : u.free = t.free)
    (ho : u.onTarget = t.onTarget) (hg : u.guide.state = t.guide.state ∧ u.guide.mailbox = t.guide.mailbox)
    (hn : u.notices = t.notices) (he : u.night.entries = t.night.entries) (ha : u.axes = t.axes) : s.EndLeaves o e u := by
  obtain ⟨⟨h1, h2, h3, h4, h5, h6⟩, h7⟩ := h
  exact ⟨⟨hf.trans h1, ho.trans h2, hg.1.trans h3, hg.2.trans h4, hn ▸ h5, he.trans h6⟩, fun ax => ha ▸ h7 ax⟩

/-- The end of the ACTIVE entry by a stop of the mount (R101, R102). -/
theorem stopTarget_leaves (o : EndOutcome) (dest : StopDest) {e : Entry} (h : s.activeEntry = some e) :
    s.EndLeaves o e (s.stopTarget o dest) ∧ s.EndKeeps (s.stopTarget o dest) ∧ (s.stopTarget o dest).engine = .stopping dest ∧
      (s.stopTarget o dest).enable = true ∧ (s.stopTarget o dest).waitReason = none ∧
      (s.stopTarget o dest).guide.offset = ⟨0, 0⟩ ∧ (s.stopTarget o dest).night.flag = s.night.flag := by
  have hleaves := endActive_leaves o h
  have hkeeps := endActive_keeps o h
  have hflag : (s.endActive o).night.flag = s.night.flag := by
    unfold State.endActive
    rw [h]
    simp
    rfl
  unfold State.stopTarget
  generalize s.endActive o = v at hleaves hkeeps hflag
  exact ⟨EndLeaves.of_same hleaves rfl rfl ⟨rfl, rfl⟩ rfl rfl rfl, EndKeeps.of_same hkeeps rfl, rfl, rfl, rfl, rfl, hflag⟩

/-- The end of the ACTIVE entry toward PARKING (R103, R123). -/
theorem endPark_leaves (o : EndOutcome) {e : Entry} (h : s.activeEntry = some e) :
    s.EndLeaves o e (s.endActive o).enterParking ∧ s.EndKeeps (s.endActive o).enterParking ∧
      (s.endActive o).enterParking.engine = .parking ∧ (s.endActive o).enterParking.enable = true ∧
      (s.endActive o).enterParking.waitReason = none ∧ (s.endActive o).enterParking.guide.offset = ⟨0, 0⟩ ∧
      (s.endActive o).enterParking.night.flag = false := by
  have hleaves := endActive_leaves o h
  have hkeeps := endActive_keeps o h
  have haxes : (s.endActive o).axes = s.axes.map AxisState.fold := (State.endActive_some s o h).2.2.1
  generalize s.endActive o = v at hleaves hkeeps haxes
  have hfold : v.enterParking.axes = v.axes := by
    show v.axes.map AxisState.fold = v.axes
    rw [haxes]
    rfl
  exact ⟨EndLeaves.of_same hleaves rfl rfl ⟨rfl, rfl⟩ rfl rfl hfold, EndKeeps.of_same hkeeps rfl, rfl, rfl, rfl, rfl, rfl⟩

theorem activeEntry_isSome_of_activeId {n : Nat} {e : Entry} (h : s.activeEntry = some e) (hid : e.record.id = n) :
    s.activeId = some n := by
  unfold State.activeId
  rw [h]
  exact congrArg some hid

/-- Settles O31. -/
theorem nightStopStops : Obligations.NightStopStops := by
  intro s hready
  have hdo (t : State) (a : Answer) (h : nightStop s = (t, a)) :
      exec .nightStop s = .next (t.answered .schedule 0xC1 a.status a.fields) :=
    congrArg Host.Outcome.next (State.request_of_ready hready h)
  refine ⟨fun h => hdo ((s.withReason none).enter (.stopping .idle)) (.only .ok) ?_,
    fun ht hw hs => hdo _ (.only .wrongState) ?_, fun e ht he => ?_⟩
  · unfold nightStop
    rcases h with h | h <;> rw [h]
  · unfold nightStop
    rcases hs' : s.engine with _ | _ | _ | _ | _ | _ | _ | dest | _ | _ | _
    case waiting => exact absurd hs' hw
    case stopping =>
      cases dest
      · exact absurd hs' hs
      · rfl
    all_goals first | rfl | (rw [hs'] at ht; cases ht)
  · refine ⟨s.stopTarget .stopped .idle, hdo _ (.only .ok) ?_, stopTarget_leaves .stopped .idle he⟩
    unfold nightStop
    rcases hs' : s.engine with _ | _ | _ | _ | _ | _ | _ | dest | _ | _ | _ <;> first | rfl | (rw [hs'] at ht; cases ht)

/-- Settles O32. -/
theorem targetAbortEndsActive : Obligations.TargetAbortEndsActive := by
  intro id s hready
  have hdo (t : State) (a : Answer) (h : targetAbort id s = (t, a)) :
      exec (.targetAbort id) s = .next (t.answered .schedule 0xC2 a.status a.fields) :=
    congrArg Host.Outcome.next (State.request_of_ready hready h)
  refine ⟨fun h => hdo _ (.only .wrongState) (if_neg ?_), fun e ht he hid =>
    ⟨s.stopTarget .aborted .waiting, hdo _ (.only .ok) (if_pos ⟨ht, activeEntry_isSome_of_activeId he hid⟩),
      stopTarget_leaves .aborted .waiting he⟩⟩
  rintro ⟨ht, hid⟩
  rcases h with h | h
  · rw [h] at ht
    cases ht
  · exact h hid

/-- Settles O33. -/
theorem parkFoldsAndParks : Obligations.ParkFoldsAndParks := by
  intro s hready
  have hdo (t : State) (a : Answer) (h : park s = (t, a)) :
      exec .park s = .next (t.answered .schedule 0xC3 a.status a.fields) :=
    congrArg Host.Outcome.next (State.request_of_ready hready h)
  refine ⟨fun h => hdo _ (.only .unset) ?_, fun h => hdo _ (.only .stopped) ?_, fun h => hdo _ (.only .ok) ?_,
    fun h => hdo s.enterParking (.only .ok) ?_, fun e ht he => ⟨_, hdo (s.endActive .parked).enterParking (.only .ok) ?_,
      endPark_leaves .parked he⟩⟩
  · unfold park
    rw [h]
  · unfold park
    rw [h]
  · unfold park
    rcases h with h | h <;> rw [h]
  · unfold park
    rcases h with h | h | ⟨d, h⟩ <;> rw [h]
  · unfold park
    cases hs' : s.engine <;> first | rfl | (rw [hs'] at ht; cases ht)

/-! ### Faults found when the drives are enabled -/

/-- What a fault found on entry to a state from `u` leaves (R158, R168, R170). -/
structure FaultedFrom (u t : State) : Prop where
  engine : t.engine = .stopped
  enable : t.enable = false
  flag : t.night.flag = false
  first : t.faults.first.isSome = true
  axes : t.axes = u.axes ∨ t.axes = u.axes.map AxisState.fold
  time : t.time = u.time
  inputs : t.inputs = u.inputs

theorem owesPark_eq (s : State) : ∃ e, s.owesPark = { s with enclosure := e } := by
  unfold State.owesPark
  split
  · exact ⟨_, rfl⟩
  · exact ⟨s.enclosure, rfl⟩

theorem faultStopped_fields (s : State) :
    s.faultStopped.enable = false ∧ s.faultStopped.night.flag = false ∧ s.faultStopped.axes = (s.endActive .fault).axes := by
  unfold State.faultStopped
  generalize s.endActive .fault = v
  exact ⟨rfl, rfl, rfl⟩

theorem endActive_axes_cases (o : EndOutcome) (s : State) :
    (s.endActive o).axes = s.axes ∨ (s.endActive o).axes = s.axes.map AxisState.fold := by
  cases he : s.activeEntry with
  | none => exact .inl (by rw [State.endActive_none _ _ he])
  | some e => exact .inr (State.endActive_some _ _ he).2.2.1

theorem faultEvent_from (k : FaultKind) (h : s.engine ≠ .stopped) : FaultedFrom s (s.faultEvent k) := by
  have hfirst : (s.faultEvent k).faults.first.isSome = true := by rw [faultEvent_faults_of_ne k h]; rfl
  have hparts : (s.faultEvent k).enable = false ∧ (s.faultEvent k).night.flag = false ∧
      (s.faultEvent k).axes = ((s.faultRecorded k).endActive .fault).axes := by
    rw [faultEvent_of_ne k h]
    have hf := faultStopped_fields (s.faultRecorded k)
    generalize (s.faultRecorded k).faultStopped = v at hf
    obtain ⟨e, he⟩ := owesPark_eq v
    rw [he]
    exact hf
  obtain ⟨henable, hflag, haxes⟩ := hparts
  refine ⟨by simp, henable, hflag, hfirst, ?_, by simp, by simp⟩
  rw [haxes]
  exact endActive_axes_cases .fault (s.faultRecorded k)

theorem FaultedFrom.again (k : FaultKind) (h : FaultedFrom s t) : FaultedFrom s (t.faultEvent k) := by
  have hkeep := faultEvent_stopped k h.engine
  rw [hkeep]
  refine ⟨h.engine, h.enable, h.flag, ?_, h.axes, h.time, h.inputs⟩
  show (if t.faults.second.isSome = true then _ else _ : FaultRecord).first.isSome = true
  split <;> exact h.first

/-- Faults taken one after another, each where its input is asserted: none is, or the mount is stopped. -/
theorem faultIf_from (hs : s.engine ≠ .stopped) (b b' : Bool) (k : FaultKind) (h : b = false ∧ t = s ∨ b = true ∧ FaultedFrom s t) :
    (b || b') = false ∧ t.faultIf b' k = s ∨ (b || b') = true ∧ FaultedFrom s (t.faultIf b' k) := by
  rcases h with ⟨rfl, rfl⟩ | ⟨rfl, h⟩
  · cases b'
    · exact .inl ⟨rfl, rfl⟩
    · exact .inr ⟨rfl, faultEvent_from k hs⟩
  · cases b'
    · exact .inr ⟨rfl, h⟩
    · exact .inr ⟨rfl, h.again k⟩

/-- Entry to a state that enables the drives: a filtered fault input that is asserted stops the mount at once (R158,
R168). -/
theorem enterEnabling_from {e : Engine} (hoff : s.enable = false) (hon : e.drivesOn = true) :
    s.faultAsserted = false ∧ s.enterEnabling e = s.enter e ∨
      s.faultAsserted = true ∧ FaultedFrom (s.enter e) (s.enterEnabling e) := by
  have hne : (s.enter e).engine ≠ .stopped := by
    rintro h
    have h : e = .stopped := h
    rw [h] at hon
    cases hon
  unfold State.enterEnabling
  dsimp only
  rw [if_pos ⟨hoff, hon⟩]
  have h1 := faultIf_from hne false s.inputs.driveFaultAz.level .driveAz (.inl ⟨rfl, rfl⟩)
  have h2 := faultIf_from hne _ s.inputs.driveFaultEl.level .driveEl h1
  have h3 := faultIf_from hne _ s.inputs.driveFaultRot.level .driveRot h2
  exact faultIf_from hne _ s.inputs.limitSwitch.level .limitSwitch h3

theorem enterEnabling_enabled {e : Engine} (hon : s.enable = true) : s.enterEnabling e = s.enter e := by
  unfold State.enterEnabling
  exact if_neg fun h => by rw [hon] at h; exact Bool.noConfusion h.1

/-- Settles O30. -/
theorem nightStartChecked : Obligations.NightStartChecked := by
  intro s hready
  have hdo (t : State) (a : Answer) (h : nightStart s = (t, a)) :
      exec .nightStart s = .next (t.answered .schedule 0xC0 a.status a.fields) :=
    congrArg Host.Outcome.next (State.request_of_ready hready h)
  have hgo (hi : s.engine = .idle ∨ s.engine = .parked) (hb : s.enclosure.shelter = false) (ht : s.time.timeValid = true) :
      nightStart s = (((State.raise .night (s.withNightFlag true)).withReason none).enterEnabling .waiting, .only .ok) := by
    unfold nightStart
    rw [if_neg (by rcases hi with h | h <;> rw [h] <;> decide), if_neg (by rcases hi with h | h <;> rw [h] <;> decide),
      if_neg (by rintro ⟨h1, h2⟩; exact hi.elim h1 h2), hb, ht]
    rfl
  dsimp only
  refine ⟨fun h => hdo _ (.only .unset) (if_pos h), fun h => hdo _ (.only .stopped) ?_,
    fun hu hs hi hp => hdo _ (.only .wrongState) ?_, fun hi hb => hdo _ (.only .sheltered) ?_,
    fun hi hb ht => hdo _ (.only .noTime) ?_, fun hi hon hb ht => ?_, fun hp hoff hb ht hf => ?_,
    fun hp hoff hb ht hf => ?_⟩
  · exact (if_neg (by rw [h]; decide)).trans (if_pos h)
  · exact (if_neg hu).trans ((if_neg hs).trans (if_pos ⟨hi, hp⟩))
  · unfold nightStart
    rw [if_neg (by rcases hi with h | h <;> rw [h] <;> decide), if_neg (by rcases hi with h | h <;> rw [h] <;> decide),
      if_neg (by rintro ⟨h1, h2⟩; exact hi.elim h1 h2), hb]
    rfl
  · unfold nightStart
    rw [if_neg (by rcases hi with h | h <;> rw [h] <;> decide), if_neg (by rcases hi with h | h <;> rw [h] <;> decide),
      if_neg (by rintro ⟨h1, h2⟩; exact hi.elim h1 h2), hb, ht]
    rfl
  · rw [hdo _ _ (hgo (.inl hi) hb ht), enterEnabling_enabled (by exact hon)]
    rfl
  · rcases enterEnabling_from (s := (State.raise .night (s.withNightFlag true)).withReason none) (e := .waiting) hoff rfl
      with ⟨_, h⟩ | ⟨h, _⟩
    · rw [hdo _ _ (hgo (.inr hp) hb ht), h]
      rfl
    · exact absurd (hf.symm.trans h) (by decide)
  · rcases enterEnabling_from (s := (State.raise .night (s.withNightFlag true)).withReason none) (e := .waiting) hoff rfl
      with ⟨h, _⟩ | ⟨_, h⟩
    · exact absurd (hf.symm.trans h) (by decide)
    · exact ⟨_, hdo _ _ (hgo (.inr hp) hb ht), h.engine, h.enable, h.flag, h.first, h.time⟩

/-- An axis just placed stands folded. -/
theorem fold_place (x : Axes Int) : (x.map AxisState.place).map AxisState.fold = x.map AxisState.place := rfl

theorem afterPosition_of_owed (hu : s.engine = .unset) (ho : s.enclosure.parkOwed = true) :
    s.afterPosition = (s.withParkOwed false).readyToPark.enterEnabling .parking := by
  unfold State.afterPosition
  rw [hu]
  exact if_pos ho

theorem afterPosition_of_not_owed (hu : s.engine = .unset) (ho : s.enclosure.parkOwed = false) :
    s.afterPosition = s.enterEnabling .idle := by
  unfold State.afterPosition
  rw [hu]
  exact if_neg (by rw [ho]; decide)

/-- After SET_POSITION from UNSET: the drives are enabled, or a fault found then stops the mount (R95, R158). -/
theorem afterPosition_from (hu : s.engine = .unset) (hoff : s.enable = false) :
    s.faultAsserted = false ∧
        s.afterPosition = (if s.enclosure.parkOwed then (s.withParkOwed false).readyToPark.enter .parking else s.enter .idle) ∨
      s.faultAsserted = true ∧ s.afterPosition.engine = .stopped ∧ s.afterPosition.enable = false ∧
        (s.afterPosition.axes = s.axes ∨ s.afterPosition.axes = s.axes.map AxisState.fold) ∧
        s.afterPosition.faults.first.isSome = true ∧ s.afterPosition.time = s.time ∧ s.afterPosition.inputs = s.inputs := by
  cases ho : s.enclosure.parkOwed
  · rw [afterPosition_of_not_owed hu ho]
    rcases enterEnabling_from (e := .idle) hoff rfl with h | ⟨hf, h⟩
    · exact .inl h
    · exact .inr ⟨hf, h.engine, h.enable, h.axes, h.first, h.time, h.inputs⟩
  · rw [afterPosition_of_owed hu ho]
    have hfault : (s.withParkOwed false).readyToPark.faultAsserted = s.faultAsserted := by
      unfold State.faultAsserted
      rw [State.readyToPark_inputs]
      rfl
    have hoff' : (s.withParkOwed false).readyToPark.enable = false := by
      rw [State.readyToPark_enable]
      exact hoff
    have haxes : ((s.withParkOwed false).readyToPark.enter .parking).axes = s.axes.map AxisState.fold := rfl
    have htime : ((s.withParkOwed false).readyToPark.enter .parking).time = s.time := by simp
    have hinputs : ((s.withParkOwed false).readyToPark.enter .parking).inputs = s.inputs := by simp
    rcases enterEnabling_from (e := .parking) hoff' rfl with ⟨hf, h⟩ | ⟨hf, h⟩
    · exact .inl ⟨hfault.symm.trans hf, h⟩
    · obtain ⟨h1, h2, _, h4, h5, h6, h7⟩ := h
      rw [haxes] at h5
      rw [htime] at h6
      rw [hinputs] at h7
      refine .inr ⟨hfault.symm.trans hf, h1, h2, .inr ?_, h4, h6, h7⟩
      exact h5.elim id id

/-- The axes placed by SET_POSITION, and the pulses not yet issued dropped (R94, R158). -/
def State.placedAt (p : Axes Int) (s : State) : State := { s with axes := p.map AxisState.place }.dropPulses

theorem setPosition_of_allowed {p : Axes (BitVec 32)} (hi : s.engine = .unset ∨ s.engine = .idle ∨ s.engine = .parked)
    (ha : s.positionAllowed (signedAxes p) = true) :
    setPosition p s = ((s.placedAt (signedAxes p)).afterPosition, .only .ok) := by
  unfold setPosition
  rw [if_neg (by rcases hi with h | h | h <;> rw [h] <;> decide), if_neg (by rcases hi with h | h | h <;> rw [h] <;> decide), ha]
  rfl

theorem enterParking_eq (s : State) : (s.withParkOwed false).readyToPark.enter .parking =
    { s with
      engine := .parking, enable := true, waitReason := none, night := { s.night with flag := false }
      guide := { s.guide with offset := ⟨0, 0⟩ }, enclosure := { s.enclosure with parkOwed := false }
      axes := s.axes.map AxisState.fold } := by
  simp only [State.enter, State.readyToPark, State.withParkOwed, State.withNightFlag, State.withReason, State.zeroGuide,
    State.withGuide, State.foldAxes, Engine.drivesOn]

/-- Settles O23. -/
theorem setPositionPlacesAxes : Obligations.SetPositionPlacesAxes := by
  intro p s hready
  have hdo (t : State) (a : Answer) (h : setPosition p s = (t, a)) :
      exec (.setPosition p) s = .next (t.answered .schedule 0x93 a.status a.fields) :=
    congrArg Host.Outcome.next (State.request_of_ready hready h)
  have hinside : (∀ ax : Axis, s.latest (.lower ax) ≤ (p.get ax).toInt ∧ (p.get ax).toInt ≤ s.latest (.upper ax)) ↔
      s.positionAllowed (signedAxes p) = true := by
    rw [positionAllowed_iff]
    exact forall_congr' fun ax => by cases ax <;> rfl
  dsimp only
  rw [hinside]
  refine ⟨fun h => hdo _ (.only .stopped) (if_pos h), fun h => hdo _ (.only .inMotion) ?_,
    fun hi ha => hdo _ (.only .badValue) ?_, fun hi ha => ?_, fun hu hoff ha hf ho => ?_, fun hu hoff ha hf ho => ?_,
    fun hu hoff ha hf => ?_⟩
  · exact (if_neg (fun hs => by rw [hs] at h; cases h)).trans (if_pos h)
  · unfold setPosition
    rw [if_neg (by rcases hi with h | h | h <;> rw [h] <;> decide), if_neg (by rcases hi with h | h | h <;> rw [h] <;> decide),
      (Bool.not_eq_true _).mp ha]
    rfl
  · have hafter : (s.placedAt (signedAxes p)).afterPosition = s.placedAt (signedAxes p) := by
      unfold State.afterPosition
      rcases hi with h | h <;> rw [show (s.placedAt (signedAxes p)).engine = _ from h]
    rw [hdo _ _ (setPosition_of_allowed (.inr hi) ha), hafter]
    rfl
  all_goals
    have hexec := hdo _ _ (setPosition_of_allowed (.inl hu) ha)
    have hfrom := afterPosition_from (s := s.placedAt (signedAxes p)) hu hoff
    rw [show (s.placedAt (signedAxes p)).faultAsserted = s.faultAsserted from rfl, hf] at hfrom
  · rw [show (s.placedAt (signedAxes p)).enclosure.parkOwed = false from ho] at hfrom
    rcases hfrom with ⟨_, h⟩ | ⟨h, _⟩
    · rw [hexec, h]
      rfl
    · cases h
  · rw [show (s.placedAt (signedAxes p)).enclosure.parkOwed = true from ho] at hfrom
    rcases hfrom with ⟨_, h⟩ | ⟨h, _⟩
    · rw [hexec, h, if_pos rfl, enterParking_eq]
      have haxes : (s.placedAt (signedAxes p)).axes.map AxisState.fold = (signedAxes p).map AxisState.place := fold_place _
      rw [haxes]
      rfl
    · cases h
  · rcases hfrom with ⟨h, _⟩ | ⟨_, hengine, henable, haxes, hfirst, htime, hinputs⟩
    · cases h
    · generalize (s.placedAt (signedAxes p)).afterPosition = t at *
      exact ⟨t, hexec, hengine, henable, haxes.elim id fun h => h.trans (fold_place _), hfirst, htime, hinputs⟩

end Sys2Proof.Machine

/-! PROOFS. The requests on configuration, guiding, event lines and status, SOFT_RESET, and the serial line's own events
(R127 to R137, R144, R160 to R165, R180 to R194). -/

namespace Sys2Proof.Machine

variable {s t u : State}

/-! ### Configuration -/

/-- The item codes of motion items (R190). -/
def motionCodes : List (Byte × Item) :=
  [(0x01, .lower .az), (0x02, .upper .az), (0x03, .lower .el), (0x04, .upper .el),
    (0x05, .lower .rot), (0x06, .upper .rot), (0x07, .stepMax .az), (0x08, .stepMax .el),
    (0x09, .stepMax .rot), (0x0A, .vmax .az), (0x0B, .vmax .el), (0x0C, .vmax .rot),
    (0x0D, .acc .az), (0x0E, .acc .el), (0x0F, .acc .rot), (0x11, .capturePos),
    (0x12, .captureRate), (0x13, .park .az), (0x14, .park .el), (0x15, .park .rot)]

/-- The item codes of the other items (R190). -/
def timingCodes : List (Byte × Item) :=
  [(0x20, .poolLow), (0x21, .cstep), (0x22, .lagTol), (0x23, .slewTimeout), (0x24, .settleTime),
    (0x25, .guideStepMax), (0x26, .guideRange), (0x27, .guideTimeout), (0x28, .encTimeout),
    (0x29, .encTol), (0x2A, .followEnc)]

theorem motionCodes_name : ∀ x ∈ motionCodes, itemOfCode x.1 = some x.2 ∧ x.2.isMotion = true := by decide

theorem timingCodes_name : ∀ x ∈ timingCodes, itemOfCode x.1 = some x.2 ∧ x.2.isMotion = false := by decide

theorem mem_codes_of_itemOfCode {b : Byte} {i : Item} (h : itemOfCode b = some i) :
    (b, i) ∈ motionCodes ∨ (b, i) ∈ timingCodes := by
  have hall : ∀ b : Byte, ∀ i ∈ itemOfCode b, (b, i) ∈ motionCodes ∨ (b, i) ∈ timingCodes := by decide
  exact hall b i h

/-- Settles O24: the two tables of codes, then the checks in their order. -/
theorem configRequests : Obligations.ConfigRequests := by
  intro code value s hready
  have hset (t : State) (a : Answer) (h : setConfig code value s = (t, a)) :
      exec (.setConfig code value) s = .next (t.answered .schedule 0x94 a.status a.fields) :=
    congrArg Host.Outcome.next (State.request_of_ready hready h)
  have hget (t : State) (a : Answer) (h : getConfig code s = (t, a)) :
      exec (.getConfig code) s = .next (t.answered .schedule 0x95 a.status a.fields) :=
    congrArg Host.Outcome.next (State.request_of_ready hready h)
  unfold setConfig at hset
  unfold getConfig at hget
  refine ⟨fun hnone => ?_, fun i hi => ?_⟩
  · have hcode : itemOfCode code = none := by
      cases h : itemOfCode code with
      | none => rfl
      | some i => exact absurd (mem_codes_of_itemOfCode h) (not_or.2 (hnone i))
    rw [hcode] at hset hget
    exact ⟨hset _ (.only .badValue) rfl, hget _ (.only .badValue) rfl⟩
  · have hname : itemOfCode code = some i ∧ i.isMotion = decide ((code, i) ∈ motionCodes) := by
      by_cases hm : (code, i) ∈ motionCodes
      · rw [decide_eq_true hm]
        exact motionCodes_name _ hm
      · rw [decide_eq_false hm]
        exact timingCodes_name _ (hi.resolve_left hm)
    obtain ⟨hcode, hmotion⟩ := hname
    dsimp only
    rw [hcode] at hset hget
    dsimp only at hset hget
    change _ ∧ i.isMotion = decide ((code, i) ∈ motionCodes) ∧ (decide ((code, i) ∈ motionCodes) = true → _) ∧
      ((decide ((code, i) ∈ motionCodes) = false ∨ _) → _) ∧ ((decide ((code, i) ∈ motionCodes) = false ∨ _) → _) ∧
      exec (.getConfig code) s =
        .next (s.answered .schedule 0x95 .ok
          (.configItem (decide ((code, i) ∈ motionCodes)) (s.inForce.get i) (s.pendingItems.get i)))
    rw [← hmotion]
    refine ⟨hcode, rfl, fun hm hmoving => hset _ (.only .inMotion) (if_pos ⟨hm, hmoving⟩),
      fun hm hbad => hset _ (.only .badValue) ?_, fun hm hok => ⟨{ s with pendingItems := s.pendingItems.set i (some value.toInt) },
        hset _ ⟨.ok, .configAccepted code value.toInt⟩ ?_, rfl, ?_, fun j hj => ?_⟩, hget _ _ rfl⟩
    · rw [if_neg (by rcases hm with h | h <;> rw [h] <;> simp), if_pos hbad]
    · rw [if_neg (by rcases hm with h | h <;> rw [h] <;> simp), if_neg (by rw [hok]; decide)]
    · exact (Items.get_set _ i i _).trans (if_pos rfl)
    · exact (Items.get_set _ i j _).trans (if_neg hj)

/-- Settles O26. -/
theorem softResetKeepsTheRest : Obligations.SoftResetKeepsTheRest := by
  intro s hready
  have hdo (t : State) (a : Answer) (h : softReset s = (t, a)) :
      exec .softReset s = .next (t.answered .schedule 0x96 a.status a.fields) :=
    congrArg Host.Outcome.next (State.request_of_ready hready h)
  unfold softReset at hdo
  refine ⟨fun h => hdo _ (.only .stopped) (if_pos h), fun h => hdo _ (.only .inMotion) ?_, fun h => ?_⟩
  · exact (if_neg (fun hs => by rw [hs] at h; cases h)).trans (if_pos h)
  · rw [if_neg (by rcases h with h | h | h <;> rw [h] <;> decide), if_neg (by rcases h with h | h | h <;> rw [h] <;> decide)]
      at hdo
    exact hdo s.softReset (.only .ok) rfl

/-! ### Guiding -/

theorem clampAbs_eq {m : Int} (hm : 0 ≤ m) (x : Int) : clampAbs m x = max (-m) (min m x) := by
  unfold clampAbs clamp
  split
  · omega
  · split <;> omega

theorem guideRefusal_of_active {e : Entry} (he : s.activeEntry = some e) (hf : s.engine.followsTarget = true) :
    s.guideRefusal = if e.record.guided then none else some .notGuided := by
  unfold State.guideRefusal State.activeGuided
  rw [he, hf]
  cases hg : e.record.guided <;> simp [hg]

/-- Settles O37. -/
theorem guideCorrectAndZero : Obligations.GuideCorrectAndZero := by
  intro d s hready hlimit
  have hcorrect (t : State) (a : Answer) (h : guideCorrect d s = (t, a)) :
      exec (.guideCorrect d) s = .next (t.answered .guide 0xE0 a.status a.fields) :=
    congrArg Host.Outcome.next (State.request_of_ready hready h)
  have hzero (t : State) (a : Answer) (h : guideZero s = (t, a)) :
      exec .guideZero s = .next (t.answered .guide 0xE2 a.status a.fields) :=
    congrArg Host.Outcome.next (State.request_of_ready hready h)
  have hclamp (x : AzEl Int) : x.map (clampAbs s.inForce.guideStepMax) =
      ⟨max (-s.inForce.guideStepMax) (min s.inForce.guideStepMax x.az),
        max (-s.inForce.guideStepMax) (min s.inForce.guideStepMax x.el)⟩ :=
    congrArg₂ AzEl.mk (clampAbs_eq hlimit x.az) (clampAbs_eq hlimit x.el)
  unfold guideCorrect at hcorrect
  unfold guideZero at hzero
  dsimp only
  refine ⟨fun hf => ?_, fun e hf he => ⟨fun hg => ?_, fun hg hm => ⟨fun hw => ?_, fun hw => ?_⟩,
    fun m hg hm => ⟨fun hw => ?_, fun hw => ?_⟩, fun hg => ?_⟩⟩
  · have hr : s.guideRefusal = some .notTracking := if_pos hf
    rw [hr] at hcorrect hzero
    exact ⟨hcorrect _ ⟨.notTracking, s.guide.correctionFields⟩ rfl, hzero _ (.only .notTracking) rfl⟩
  all_goals have hr := guideRefusal_of_active he hf
  · rw [hg, if_neg Bool.false_ne_true] at hr
    rw [hr] at hcorrect hzero
    exact ⟨hcorrect _ ⟨.notGuided, s.guide.correctionFields⟩ rfl, hzero _ (.only .notGuided) rfl⟩
  all_goals
    rw [hg, if_pos rfl] at hr
    rw [hr] at hcorrect hzero
    dsimp only at hcorrect hzero
  · rw [hm, mergeCorrection, hclamp, if_pos (by exact hw)] at hcorrect
    exact hcorrect _ _ rfl
  · rw [hm, mergeCorrection, hclamp, if_neg (by exact hw)] at hcorrect
    exact hcorrect _ _ rfl
  · rw [hm, mergeCorrection, hclamp, hclamp, if_pos (by exact hw)] at hcorrect
    exact hcorrect _ _ rfl
  · rw [hm, mergeCorrection, hclamp, hclamp, if_neg (by exact hw)] at hcorrect
    exact hcorrect _ _ rfl
  · have hheld : s.guide.held = (s.guide.mailbox.map fun m => 1 + m.merges).getD 0 := by
      unfold Guide.held
      cases s.guide.mailbox <;> rfl
    rw [← hheld]
    exact hzero s.discardMailbox.zeroGuide ⟨.ok, .emptied s.guide.held s.guide.state⟩ rfl

/-! ### Event lines -/

theorem lineOfCode_eq_none {b : Byte} (h : 4 ≤ b.toNat) : lineOfCode b = none := by
  unfold lineOfCode
  split <;> first | rfl | omega

theorem sourceOfCode_eq_none {b : Byte} (h : 11 ≤ b.toNat) : sourceOfCode b = none := by
  unfold sourceOfCode
  split <;> first | rfl | omega

theorem modeOfCode_eq_none {b : Byte} (h : 5 ≤ b.toNat) : modeOfCode b = none := by
  unfold modeOfCode
  split <;> first | rfl | omega

theorem eventConfig_refused {line source mode polarity : Byte} {delay width : BitVec 16}
    (h : lineOfCode line = none ∨ sourceOfCode source = none ∨ modeOfCode mode = none ∨ bitOfCode polarity = none ∨
      delay.toNat = 0 ∨ width.toNat = 0) :
    eventConfig line source mode polarity delay width s = (s, .only .badValue) := by
  unfold eventConfig
  split
  case h_1 id src m low hl hs hm hp =>
    rw [hl, hs, hm, hp] at h
    exact if_pos (by simpa using h)
  case h_2 => rfl

/-- Settles O40. -/
theorem eventLineRequests : Obligations.EventLineRequests := by
  intro line source mode polarity level delay width s hready
  have hconfig (t : State) (a : Answer) (h : eventConfig line source mode polarity delay width s = (t, a)) :
      exec (.eventConfig line source mode polarity delay width) s = .next (t.answered .schedule 0xD0 a.status a.fields) :=
    congrArg Host.Outcome.next (State.request_of_ready hready h)
  have hset (t : State) (a : Answer) (h : eventSet line level s = (t, a)) :
      exec (.eventSet line level) s = .next (t.answered .schedule 0xD1 a.status a.fields) :=
    congrArg Host.Outcome.next (State.request_of_ready hready h)
  have hget (t : State) (a : Answer) (h : eventGet line s = (t, a)) :
      exec (.eventGet line) s = .next (t.answered .schedule 0xD2 a.status a.fields) :=
    congrArg Host.Outcome.next (State.request_of_ready hready h)
  have hlines : ∀ x ∈ [((0 : Byte), LineId.ev0), (1, .ev1), (2, .ev2), (3, .ev3)], lineOfCode x.1 = some x.2 := by decide
  have hsources : ∀ x ∈ [((0 : Byte), Source.second), (1, .targetStart), (2, .capture), (3, .trackStart),
      (4, .onTargetRise), (5, .onTargetFall), (6, .dwellEnd), (7, .targetEnd), (8, .guideTake), (9, .parked), (10, .fault)],
      sourceOfCode x.1 = some x.2 := by decide
  have hmodes : ∀ x ∈ [((0 : Byte), LineMode.off), (1, .manual), (2, .pulse), (3, .delayed), (4, .toggle)], modeOfCode x.1 = some x.2 := by decide
  unfold eventSet at hset
  unfold eventGet at hget
  refine ⟨fun h => ?_, fun id hid => ?_⟩
  · have hnone := lineOfCode_eq_none h
    rw [hnone] at hset hget
    exact ⟨hconfig _ (.only .badValue) (eventConfig_refused (.inl hnone)), hset _ (.only .badValue) rfl,
      hget _ (.only .badValue) rfl⟩
  · have hline := hlines _ hid
    dsimp only at hline ⊢
    rw [hline] at hset hget
    refine ⟨fun h => hconfig _ (.only .badValue) (eventConfig_refused (.inr ?_)), fun src m hsrc hm hp hd hw => ?_,
      fun h => ?_, fun h hmode => ?_, fun h hmode => ?_, hget _ _ rfl⟩
    · exact h.imp sourceOfCode_eq_none (.imp modeOfCode_eq_none (Or.imp_left fun h => bitOfCode_eq_none (by omega)))
    · unfold eventConfig at hconfig
      rw [hline, hsources _ hsrc, hmodes _ hm, bitOfCode_of_le hp] at hconfig
      dsimp only at hconfig
      rw [if_neg (not_or.2 ⟨hd, hw⟩)] at hconfig
      have hpolarity : (!decide (polarity.toNat = 1)) = decide (polarity.toNat = 0) := by
        rw [← decide_not]
        exact decide_eq_decide.2 (by omega)
      rw [hpolarity] at hconfig
      exact hconfig _ (.only .ok) rfl
    · rw [bitOfCode_eq_none (by omega)] at hset
      exact hset _ (.only .badValue) rfl
    · rw [bitOfCode_of_le h] at hset
      dsimp only at hset
      rw [if_neg hmode] at hset
      exact hset _ (.only .wrongState) rfl
    · rw [bitOfCode_of_le h] at hset
      dsimp only at hset
      rw [if_pos hmode] at hset
      exact hset _ (.only .ok) rfl

/-! ### Status -/

/-- Settles O51. -/
theorem statusReports : Obligations.StatusReports := by
  intro s
  refine ⟨fun hready => ?_, fun hready => ?_, fun hready => ?_⟩
  · have hreport (a : AxisState) : a.report =
        ⟨(a.base + 32768) / 65536, a.vel, a.wanted, a.applied, a.host, a.demand, a.emitted, a.lag⟩ := rfl
    have hexec : exec .status s = .next (s.answered .schedule 0x90 (status s).2.status (status s).2.fields) :=
      congrArg Host.Outcome.next (State.request_of_ready (effect := status) hready rfl)
    unfold status Axes.map at hexec
    rw [hreport, hreport, hreport] at hexec
    exact hexec
  · exact congrArg Host.Outcome.next (State.request_of_ready (effect := guideStatus) hready rfl)
  · have hdestination : s.destinationAz = (match s.engine with
        | .slewing _ az => az
        | .parking => s.inForce.park.az
        | _ => s.axes.az.demand) % 16777216 := by
      unfold State.destinationAz
      cases s.engine <;> rfl
    have hexec : exec .encStatus s = .next (s.answered .enclosure 0xF1 (encStatus s).2.status (encStatus s).2.fields) :=
      congrArg Host.Outcome.next (State.request_of_ready (effect := encStatus) hready rfl)
    unfold encStatus at hexec
    rw [hdestination] at hexec
    exact hexec

/-! ### The serial line -/

theorem assembling_iff (r : Receiver) : r.assembling = true ↔ r ≠ .hunt := by
  cases r <;> simp [Receiver.assembling]

theorem abandon_of_hunt {p : Port} (h : p.receiver = .hunt) : p.abandon = p := by
  unfold Port.abandon
  rw [h]
  rfl

theorem abandon_of_ne {p : Port} (h : p.receiver ≠ .hunt) :
    p.abandon = { p with receiver := .hunt, gap := 0, timeouts := min 65535 (p.timeouts + 1) } :=
  if_pos ((assembling_iff _).2 h)

theorem pass_of_hunt {p : Port} (n : Nat) (h : p.receiver = .hunt) : p.pass n = p := by
  unfold Port.pass
  rw [h]
  split <;> rfl

theorem pass_of_short {p : Port} {n : Nat} (h : p.receiver ≠ .hunt) (hgap : p.gap + n ≤ 20000) :
    p.pass n = { p with gap := p.gap + n } := by
  unfold Port.pass
  by_cases hn : n = 0
  · subst hn
    rfl
  · rw [if_neg hn, if_pos ((assembling_iff _).2 h), if_neg (by unfold gapLimit; omega)]

theorem pass_of_long {p : Port} {n : Nat} (h : p.receiver ≠ .hunt) (hn : 0 < n) (hgap : 20000 < p.gap + n) :
    p.pass n = { p with receiver := .hunt, gap := 0, timeouts := min 65535 (p.timeouts + 1) } := by
  unfold Port.pass
  rw [if_neg (by omega), if_pos ((assembling_iff _).2 h), if_pos (by exact hgap), abandon_of_ne h]

theorem links_get_map {α β : Type} (f : α → β) (x : Links α) (l : Link) : (x.map f).get l = f (x.get l) := by
  cases l <;> rfl

theorem untilTimeout_of_hunt {p : Port} (h : p.receiver = .hunt) : p.untilTimeout = none := by
  unfold Port.untilTimeout
  rw [h]
  rfl

theorem untilTimeout_of_ne {p : Port} (h : p.receiver ≠ .hunt) : p.untilTimeout = some (20001 - p.gap) :=
  if_pos ((assembling_iff _).2 h)

theorem onPort_self {l : Link} {f : Port → Port} (h : f (s.ports.get l) = s.ports.get l) : s.onPort l f = s := by
  unfold State.onPort
  rw [h]
  cases l <;> rfl

theorem isBreak_iff (c : BreakCause) : isBreak c = true ↔ ∀ n, c = .spaceFor n → 20 ≤ n := by
  cases c with
  | spaceFor n =>
    refine decide_eq_true_iff.trans ⟨fun h m hm => ?_, fun h => h n rfl⟩
    cases hm
    exact h
  | stopBitAtSpace => exact ⟨fun _ _ h => (by cases h), fun _ => rfl⟩

/-- Settles O52. -/
theorem serialLineEvents : Obligations.SerialLineEvents := by
  refine ⟨fun p n => ⟨pass_of_hunt n, pass_of_short, pass_of_long⟩, fun l gap cause s hreset => ?_⟩
  have htimeout : exec (.frameTimeout l gap) s =
      .next (if gapLimit < gap then s.waitFor (s.ports.get l).untilTimeout else s) := rfl
  have hbreak : exec (.lineBreak l cause) s =
      .next (if s.resetLow = false ∧ isBreak cause = true then s.onPort l Port.abandon else s) := rfl
  dsimp only
  rw [htimeout, hbreak, ← isBreak_iff]
  refine ⟨fun h => ⟨?_, ?_⟩, fun h => ?_, fun h hgap hlong hwithin => ?_, fun h => ?_, fun h hb => ?_, ?_⟩
  · rw [untilTimeout_of_hunt h]
    split <;> rfl
  · rw [onPort_self (abandon_of_hunt h)]
    split <;> rfl
  · by_cases hlong : gapLimit < gap
    · rw [if_pos hlong]
      by_cases hh : (s.ports.get l).receiver = .hunt
      · rw [untilTimeout_of_hunt hh]
        rfl
      · rw [untilTimeout_of_ne hh, waitFor_outside (h.resolve_left (Nat.not_le.2 hlong))]
    · rw [if_neg hlong]
  · rw [if_pos (by exact hlong), untilTimeout_of_ne h, waitFor_within hreset hwithin]
    refine ⟨_, rfl, ?_, fun k _ => ?_, elapse_steps _ s, elapse_rest _ s, fun hslew hmax => ?_⟩
    · rw [State.elapse_ports, links_get_map, pass_of_long h (by omega) (by omega)]
    · rw [State.elapse_ports, links_get_map]
    · rw [elapse_time (by omega), passed_mountTime, counted_of_none (settled_slew_none hslew), (settled_counts s.time).1]
      rfl
  · rw [if_neg (fun hb => h hb.2)]
  · rw [if_pos ⟨hreset, hb⟩]
    unfold State.onPort
    rw [abandon_of_ne h]
  · exact congrArg Host.Outcome.next (if_neg (by rw [hreset]; decide))

end Sys2Proof.Machine

/-! PROOFS. A rising edge of PPS (R4 to R8, R12, R15): the time base it leaves, by what is kept, counted, corrected and
applied. -/

namespace Sys2Proof.Machine

variable {s : State} {t : TimeBase} {e : Int}

/-! ### The parts of a pulse -/

theorem phaseErrorAt_eq (m : Nat) : phaseErrorAt m =
    if (m : Int) % 1000000 < 500000 then (m : Int) % 1000000 else (m : Int) % 1000000 - 1000000 := by
  unfold phaseErrorAt
  split <;> split <;> omega

theorem countPulse_of_bad (h : 2 < magnitude e) : t.countPulse e = { t with goodCount := 0 } := if_pos h

theorem countPulse_of_good (h : magnitude e ≤ 2) (hg : t.goodCount < 3) :
    t.countPulse e = { t with goodCount := t.goodCount + 1 } := by
  unfold TimeBase.countPulse
  rw [if_neg (Int.not_lt.2 h), if_neg (by omega)]

theorem countPulse_of_fourth (h : magnitude e ≤ 2) (hg : 3 ≤ t.goodCount) :
    t.countPulse e = { t with goodCount := 4, discipline := .locked } := by
  unfold TimeBase.countPulse
  rw [if_neg (Int.not_lt.2 h), if_pos (by omega)]

/-- The count of good pulses, and the discipline state, are all that a pulse's count changes. -/
theorem countPulse_rest (ec : Int) (t : TimeBase) : ∃ g d, t.countPulse ec = { t with goodCount := g, discipline := d } := by
  unfold TimeBase.countPulse
  split
  · exact ⟨0, t.discipline, rfl⟩
  · split
    · exact ⟨4, .locked, rfl⟩
    · exact ⟨t.goodCount + 1, t.discipline, rfl⟩

theorem correctPulse_jump (h : 2 < magnitude e) :
    t.correctPulse true e = t.jump (min 281474976710655 ((t.mountTime : Int) - e)).toNat := by
  unfold TimeBase.correctPulse
  rw [if_pos ⟨h, rfl⟩]
  congr 1
  unfold maxTime
  omega

theorem correctPulse_slew {still : Bool} (h : magnitude e ≤ 2 ∨ still = false) :
    t.correctPulse still e = { t with slew := slewFor e } :=
  if_neg fun h' => h.elim (fun hm => absurd h'.1 (Int.not_lt.2 hm)) fun hs => by rw [hs] at h'; exact absurd h'.2 (by decide)

/-- The good pulses that count before this one: those of ACQUIRING (R7). -/
def TimeBase.goodBefore (t : TimeBase) : Nat := if t.discipline = .acquiring then t.goodCount else 0

theorem discipline1_kept (still : Bool) (ec : Int) (hd : t.discipline = .locked) (he : magnitude e ≤ 50) :
    t.discipline1 still e ec = { t with slew := slewFor e } := by
  unfold TimeBase.discipline1
  rw [hd]
  exact if_pos he

/-- A pulse that LOCKED does not keep is a pulse of ACQUIRING. -/
theorem discipline1_of_not_kept (still : Bool) (ec : Int) (h : ¬ (t.discipline = .locked ∧ magnitude e ≤ 50)) :
    t.discipline1 still e ec =
      ({ t with discipline := .acquiring, goodCount := t.goodBefore }.correctPulse still e).countPulse ec := by
  unfold TimeBase.discipline1 TimeBase.goodBefore
  cases hd : t.discipline with
  | locked => exact if_neg fun he => h ⟨hd, he⟩
  | acquiring =>
    dsimp only
    rw [if_pos rfl, ← hd]
  | free => rfl
  | holdover => rfl

/-- What becomes of a pending set at a pulse (R11, R12). -/
def TimeBase.takeSet (still : Bool) (p : Option Nat) (t : TimeBase) : TimeBase :=
  match p with
  | none => t
  | some v =>
    if still then { t.jump v with slew := none, pendingSet := none, timeValid := true } else { t with pendingSet := none }

/-- The time base at an accepted pulse, before it is handled. -/
def TimeBase.struck (e : Int) (t : TimeBase) : TimeBase :=
  { t with pulseAge := some 0, expiryDue := false, phaseError := some e, slew := none }

theorem takePulse_eq (still : Bool) (t : TimeBase) :
    t.takePulse still =
      ((t.struck (phaseErrorAt t.mountTime)).discipline1 still (phaseErrorAt t.mountTime)
        (if still && t.pendingSet.isSome then 0 else phaseErrorAt t.mountTime)).takeSet still t.pendingSet := rfl

/-- What a pulse's discipline leaves of the time base whichever way it goes. -/
theorem discipline1_rest (still : Bool) (e ec : Int) (t : TimeBase) :
    let u := t.discipline1 still e ec
    u.pulseAge = t.pulseAge ∧ u.phaseError = t.phaseError ∧ u.pendingSet = t.pendingSet ∧ u.spurious = t.spurious ∧
      u.expiryDue = t.expiryDue ∧ u.timeValid = t.timeValid := by
  dsimp only
  by_cases hk : t.discipline = .locked ∧ magnitude e ≤ 50
  · rw [discipline1_kept still ec hk.1 hk.2]
    exact ⟨rfl, rfl, rfl, rfl, rfl, rfl⟩
  · rw [discipline1_of_not_kept still ec hk]
    obtain ⟨g, d, h⟩ := countPulse_rest ec
      ({ t with discipline := .acquiring, goodCount := t.goodBefore }.correctPulse still e)
    rw [h]
    unfold TimeBase.correctPulse
    split <;> exact ⟨rfl, rfl, rfl, rfl, rfl, rfl⟩

/-- Mount time, what is due and the slew after a pulse's discipline. -/
theorem discipline1_moves_not {still : Bool} (ec : Int) (h : (t.discipline = .locked ∧ magnitude e ≤ 50) ∨ magnitude e ≤ 2 ∨
    still = false) :
    let u := t.discipline1 still e ec
    u.mountTime = t.mountTime ∧ u.eventDue = t.eventDue ∧ u.slew = slewFor e := by
  dsimp only
  by_cases hk : t.discipline = .locked ∧ magnitude e ≤ 50
  · rw [discipline1_kept still ec hk.1 hk.2]
    exact ⟨rfl, rfl, rfl⟩
  · rw [discipline1_of_not_kept still ec hk, correctPulse_slew (h.resolve_left hk)]
    obtain ⟨g, d, h⟩ := countPulse_rest ec
      { t with discipline := .acquiring, goodCount := t.goodBefore, slew := slewFor e }
    rw [h]
    exact ⟨rfl, rfl, rfl⟩

theorem discipline1_jumps {still : Bool} (ec : Int) (hs : still = true) (hk : ¬ (t.discipline = .locked ∧ magnitude e ≤ 50)) (he : 2 < magnitude e) :
    let u := t.discipline1 still e ec
    u.mountTime = (min 281474976710655 ((t.mountTime : Int) - e)).toNat ∧ u.eventDue = false ∧ u.slew = t.slew := by
  subst hs
  dsimp only
  rw [discipline1_of_not_kept true ec hk, correctPulse_jump he]
  obtain ⟨g, d, h⟩ := countPulse_rest ec
    (({ t with discipline := .acquiring, goodCount := t.goodBefore } : TimeBase).jump
      (min 281474976710655 ((t.mountTime : Int) - e)).toNat)
  dsimp only at h ⊢
  rw [h]
  exact ⟨rfl, rfl, rfl⟩

/-- The discipline state and the count of good pulses after a pulse that LOCKED does not keep. -/
theorem discipline1_counts (still : Bool) (ec : Int) (hk : ¬ (t.discipline = .locked ∧ magnitude e ≤ 50)) :
    let u := t.discipline1 still e ec
    (2 < magnitude ec → u.discipline = .acquiring ∧ u.goodCount = 0) ∧
      (magnitude ec ≤ 2 → t.goodBefore < 3 → u.discipline = .acquiring ∧ u.goodCount = t.goodBefore + 1) ∧
      (magnitude ec ≤ 2 → 3 ≤ t.goodBefore → u.discipline = .locked ∧ u.goodCount = 4) := by
  dsimp only
  rw [discipline1_of_not_kept still ec hk]
  generalize hu : ({ t with discipline := .acquiring, goodCount := t.goodBefore } : TimeBase).correctPulse still e = u
  have hkeep : u.discipline = .acquiring ∧ u.goodCount = t.goodBefore := by
    rw [← hu]
    unfold TimeBase.correctPulse
    split <;> exact ⟨rfl, rfl⟩
  obtain ⟨hd, hg⟩ := hkeep
  refine ⟨fun h => ?_, fun h hlt => ?_, fun h hge => ?_⟩
  · rw [countPulse_of_bad h]
    exact ⟨hd, rfl⟩
  · rw [countPulse_of_good h (by omega)]
    exact ⟨hd, congrArg (· + 1) hg⟩
  · rw [countPulse_of_fourth h (by omega)]
    exact ⟨rfl, rfl⟩

theorem takeSet_of_not_applied {still : Bool} {p : Option Nat} (h : ¬ (still = true ∧ p ≠ none)) :
    t.takeSet still p = if p = none then t else { t with pendingSet := none } := by
  unfold TimeBase.takeSet
  cases p with
  | none => rfl
  | some v =>
    cases still
    · rfl
    · exact absurd ⟨rfl, Option.some_ne_none v⟩ h

theorem takeSet_applied (v : Nat) :
    t.takeSet true (some v) = { t.jump v with slew := none, pendingSet := none, timeValid := true } := rfl

/-- What a set taken at a pulse leaves of the time base whether it is applied or dropped. -/
theorem takeSet_rest (still : Bool) (t : TimeBase) (p : Option Nat) (hp : p = none → t.pendingSet = none) :
    let u := t.takeSet still p
    u.pulseAge = t.pulseAge ∧ u.phaseError = t.phaseError ∧ u.pendingSet = none ∧ u.spurious = t.spurious ∧
      u.expiryDue = t.expiryDue ∧ u.discipline = t.discipline ∧ u.goodCount = t.goodCount := by
  unfold TimeBase.takeSet
  cases p with
  | none => exact ⟨rfl, rfl, hp rfl, rfl, rfl, rfl, rfl⟩
  | some v => cases still <;> exact ⟨rfl, rfl, rfl, rfl, rfl, rfl, rfl⟩

/-! ### The edge -/

theorem pulse_of_accepted (h : s.time.accepts = true) :
    s.pulse =
      if s.time.pendingSet ≠ none ∨ (s.time.takePulse s.engine.isStill).discipline ≠ s.time.discipline then
        State.raise .time (s.retime (s.time.takePulse s.engine.isStill))
      else s.retime (s.time.takePulse s.engine.isStill) := by
  unfold State.pulse
  rw [h, if_pos rfl]
  simp only [Option.isSome_iff_ne_none]

theorem retime_eq (t : TimeBase) (s : State) :
    s.retime t = { s with time := t, lines := if t.eventDue then s.lines else s.lines.map EventLine.unmark } := by
  unfold State.retime
  cases t.eventDue <;> rfl

theorem pulse_time_of_accepted (h : s.time.accepts = true) : s.pulse.time = s.time.takePulse s.engine.isStill := by
  rw [pulse_of_accepted h]
  split <;> simp

/-- Settles O4: the time base from the parts above, and the notice and the lines from the edge itself. -/
theorem pulseHandledByDiscipline : Obligations.PulseHandledByDiscipline := by
  intro s hreset
  have hexec : exec .ppsPulse s = .next s.pulse := congrArg Host.Outcome.next (if_neg (by rw [hreset]; decide))
  rw [hexec]
  refine ⟨fun a ha hlt => ?_, fun hage => ?_⟩
  · have hno : s.time.accepts = false := by
      unfold TimeBase.accepts
      rw [ha]
      exact decide_eq_false (by omega)
    unfold State.pulse
    rw [hno]
    rfl
  have haccept : s.time.accepts = true := by
    unfold TimeBase.accepts
    cases ha : s.time.pulseAge with
    | none => rfl
    | some a => exact decide_eq_true (hage a ha)
  have htime := pulse_time_of_accepted haccept
  have hpulse := pulse_of_accepted haccept
  dsimp only
  rw [← phaseErrorAt_eq]
  rw [takePulse_eq] at htime
  generalize he : phaseErrorAt s.time.mountTime = e at htime ⊢
  generalize hec : (if s.engine.isStill && s.time.pendingSet.isSome then 0 else e : Int) = ec at htime
  have hset := takeSet_rest s.engine.isStill ((s.time.struck e).discipline1 s.engine.isStill e ec) s.time.pendingSet
    fun h => (discipline1_rest s.engine.isStill e ec (s.time.struck e)).2.2.1.trans h
  have hrest := discipline1_rest s.engine.isStill e ec (s.time.struck e)
  have hcounts := discipline1_counts (t := s.time.struck e) (e := e) s.engine.isStill ec
  have hstay := discipline1_moves_not (t := s.time.struck e) (e := e) (still := s.engine.isStill) ec
  have hjump := discipline1_jumps (t := s.time.struck e) (e := e) (still := s.engine.isStill) ec
  dsimp only at hset hrest hcounts hstay hjump
  have hnot : ¬ (s.engine.isStill = true ∧ s.time.pendingSet ≠ none) →
      s.pulse.time.mountTime = ((s.time.struck e).discipline1 s.engine.isStill e ec).mountTime ∧
        s.pulse.time.eventDue = ((s.time.struck e).discipline1 s.engine.isStill e ec).eventDue ∧
        s.pulse.time.slew = ((s.time.struck e).discipline1 s.engine.isStill e ec).slew ∧
        s.pulse.time.timeValid = ((s.time.struck e).discipline1 s.engine.isStill e ec).timeValid := fun h => by
    rw [htime, takeSet_of_not_applied h]
    split <;> exact ⟨rfl, rfl, rfl, rfl⟩
  have happlied : ∀ v, s.time.pendingSet = some v → s.engine.isStill = true →
      s.pulse.time.mountTime = v ∧ s.pulse.time.slew = none ∧ s.pulse.time.timeValid = true ∧ s.pulse.time.eventDue = false :=
    fun v hv hs => by
      rw [htime, hv, hs, takeSet_applied]
      exact ⟨rfl, rfl, rfl, rfl⟩
  have hkept (hk : s.time.discipline = .locked ∧ magnitude e ≤ 50) :
      ((s.time.struck e).discipline1 s.engine.isStill e ec).discipline = .locked ∧
        ((s.time.struck e).discipline1 s.engine.isStill e ec).goodCount = s.time.goodCount := by
    rw [discipline1_kept (t := s.time.struck e) s.engine.isStill ec hk.1 hk.2]
    exact ⟨hk.1, rfl⟩
  generalize (s.time.struck e).discipline1 s.engine.isStill e ec = u at *
  rw [← htime] at hset
  obtain ⟨hage', herr, hpend, hspur, hexp, hdisc, hgood⟩ := hset
  obtain ⟨hage0, herr0, _, hspur0, hexp0, hvalid0⟩ := hrest
  have hec_counts : magnitude ec ≤ 2 ↔ magnitude e ≤ 2 ∨ s.engine.isStill = true ∧ s.time.pendingSet ≠ none := by
    rw [← hec]
    cases hs : s.engine.isStill <;> cases hp : s.time.pendingSet <;> simp [magnitude]
  refine ⟨s.pulse, rfl, ?_, ?_, hage'.trans hage0, herr.trans herr0, hpend, hspur.trans hspur0, hexp.trans hexp0,
    fun ha => ?_, fun ha hk h2 hs => ?_, fun ha h => ?_, fun hk => ?_, fun hk hc => ?_, fun hk hc hg => ?_,
    fun hk hc hg => ?_, fun v hv ha => ?_, fun ha => ?_, fun ha h => ?_, fun ha hk h2 hs => ?_, ?_⟩
  · rw [hpulse, retime_eq]
    split <;> rfl
  · rw [hpulse, retime_eq]
    split <;> rfl
  · obtain ⟨v, hv⟩ := Option.ne_none_iff_exists'.1 ha.2
    exact (happlied v hv ha.1).2.2.2
  · rw [(hnot ha).2.1]
    exact (hjump hs hk h2).2.1
  · rw [(hnot ha).2.1]
    exact (hstay h).2.1
  · exact ⟨hdisc.trans (hkept hk).1, hgood.trans (hkept hk).2⟩
  · rw [hdisc, hgood]
    exact (hcounts hk).1 (by rw [← Int.not_le, hec_counts]; exact hc)
  · rw [hdisc, hgood]
    exact (hcounts hk).2.1 (hec_counts.2 hc) hg
  · rw [hdisc, hgood]
    exact (hcounts hk).2.2 (hec_counts.2 hc) hg
  · obtain ⟨hm, hw, hv', _⟩ := happlied v hv ha.1
    exact ⟨hm, hw, hv'⟩
  · exact (hnot ha).2.2.2.trans hvalid0
  · obtain ⟨hm, _, hw, _⟩ := hnot ha
    obtain ⟨hm', _, hw'⟩ := hstay h
    exact ⟨hm.trans hm', hw.trans hw'⟩
  · obtain ⟨hm, _, hw, _⟩ := hnot ha
    obtain ⟨hm', _, hw'⟩ := hjump hs hk h2
    exact ⟨hm.trans hm', hw.trans hw'⟩
  · rw [pulse_time_of_accepted haccept, hpulse, retime_eq]
    split <;> rfl

end Sys2Proof.Machine

/-! PROOFS. How a demand event opens (R2, R3, R72): time passes up to its moment, and each turn is taken once. -/

namespace Sys2Proof.Machine

variable {s t u : State}

/-! ### The moment of the event -/

theorem exec_demandEvent (levels : Inputs Bool) (order : List Turn) (s : State) :
    exec (.demandEvent levels order) s = .next (s.demandEvent levels order) := rfl

theorem demandEvent_eq {n : Nat} (hreset : s.resetLow = false) (hn : s.time.untilEvent = some n) (levels : Inputs Bool)
    (order : List Turn) : s.demandEvent levels order = (s.elapse n).runEvent levels order := by
  unfold State.demandEvent
  rw [hn]
  dsimp only
  rw [hreset]
  rfl

theorem demandEvent_of_not_counting (h : ¬ s.counting) (levels : Inputs Bool) (order : List Turn) :
    s.demandEvent levels order = s := by
  unfold State.demandEvent
  cases hn : s.time.untilEvent with
  | none => rfl
  | some n =>
    dsimp only
    rw [if_pos]
    by_contra hlow
    exact h ⟨Bool.not_eq_true _ ▸ hlow, by rw [hn]; rfl⟩

/-- Counting on from where no event is due comes to the next multiple of 1,000, through a correction on the way. -/
theorem counted_until_next (t : TimeBase) (hle : (t.mountTime / 1000 + 1) * 1000 ≤ maxTime) :
    (t.counted (t.until ((t.mountTime / 1000 + 1) * 1000))).1 = (t.mountTime / 1000 + 1) * 1000 := by
  unfold TimeBase.until
  cases hdue : t.correctionDue with
  | none =>
    dsimp only
    rw [counted_of_none hdue]
    dsimp only
    omega
  | some w =>
    obtain ⟨_, _, _, _, hearly⟩ := correctionDue_eq_some hdue
    have hat : t.correctionAt < (t.mountTime / 1000 + 1) * 1000 := by unfold TimeBase.correctionAt; omega
    dsimp only
    rw [if_pos hat]
    cases hw : w.remove with
    | true =>
      rw [if_pos rfl, counted_past hdue (by unfold TimeBase.correctionAt; omega), hw]
      simp only [if_true]
      omega
    | false =>
      rw [if_neg Bool.false_ne_true, counted_past hdue (by unfold TimeBase.correctionAt; omega), hw]
      simp only [Bool.false_eq_true, if_false]
      omega

theorem until_next_ne_zero (t : TimeBase) : t.until ((t.mountTime / 1000 + 1) * 1000) ≠ 0 := by
  unfold TimeBase.until
  cases hdue : t.correctionDue with
  | none => dsimp only; omega
  | some w =>
    obtain ⟨_, _, _, _, hearly⟩ := correctionDue_eq_some hdue
    dsimp only
    split
    · split <;> omega
    · omega

/-- The event that comes next stands at its moment (R3). -/
theorem elapse_to_event {n : Nat} (hn : s.time.untilEvent = some n) : (s.elapse n).time.mountTime = s.nextEventTime := by
  unfold TimeBase.untilEvent at hn
  unfold State.nextEventTime
  by_cases hdue : s.time.eventDue = true
  · rw [if_pos hdue] at hn ⊢
    cases hn
    rfl
  · rw [if_neg hdue] at hn ⊢
    dsimp only at hn
    split at hn
    case isFalse => cases hn
    case isTrue hle =>
      have hval := counted_until_next s.time.settled
      rw [(settled_counts s.time).1, settled_until] at hval
      cases hn
      rw [elapse_time (until_next_ne_zero _), passed_mountTime]
      exact hval hle

/-- The notice sets as time passes: the TIME notice may be raised. -/
theorem elapse_notices {P : Notices → Prop} (n : Nat) (s : State) (hs : P s.notices)
    (hraise : ∀ u : State, P u.notices → P (u.raise .time).notices) : P (s.elapse n).notices := by
  have raises {u v w : State} (h : v.RaisesTime w) (hv : v.notices = u.notices) (hu : P u.notices) : P w.notices := by
    rw [← hv] at hu
    rcases h with rfl | rfl
    · exact hu
    · exact hraise _ hu
  by_cases hn : n = 0
  · subst hn; exact hs
  · have htake := raises (takeExpiry_cases s) (u := s) rfl hs
    unfold State.elapse
    rw [if_neg hn]
    dsimp only
    generalize s.takeExpiry = u at htake
    exact raises (agePulse_cases n { u with
      time := u.time.count n, steps := u.steps.map (StepOut.pass n), ports := u.ports.map (Port.pass n) }) (u := u) rfl htake

theorem expired_spurious (t : TimeBase) : t.expired.spurious = t.spurious := by
  unfold TimeBase.expired
  split <;> rfl

theorem passed_spurious (n : Nat) (t : TimeBase) : (t.passed n).spurious = t.spurious := by
  have hsettled : t.settled.spurious = t.spurious := by
    unfold TimeBase.settled
    split
    · exact expired_spurious t
    · rfl
  rw [← hsettled]
  unfold TimeBase.passed TimeBase.aged
  repeat' split
  all_goals first | rfl | exact expired_spurious _

theorem elapse_spurious (n : Nat) (s : State) : (s.elapse n).time.spurious = s.time.spurious := by
  by_cases hn : n = 0
  · subst hn; rfl
  · rw [elapse_time hn]
    exact passed_spurious n s.time

/-! ### Each turn once -/

theorem completeOrder_first (x : Turn) (rest : List Turn) : ∃ l, completeOrder (x :: rest) = x :: l := by
  unfold completeOrder
  rw [List.eraseDups_cons]
  exact ⟨_, rfl⟩

theorem completeOrder_two {x y : Turn} (h : y ≠ x) (rest : List Turn) : ∃ l, completeOrder (x :: y :: rest) = x :: y :: l := by
  unfold completeOrder
  have hy : (!y == x) = true := by simpa using h
  rw [List.eraseDups_cons, List.filter_cons, if_pos hy, List.eraseDups_cons]
  exact ⟨_, rfl⟩

/-- A turn stands once in the order: others before it, others after it. -/
theorem completeOrder_split (x : Turn) (order : List Turn) :
    ∃ pre post, completeOrder order = pre ++ x :: post ∧ x ∉ pre ∧ x ∉ post := by
  have hcount := completeOrder_count order x
  obtain ⟨pre, post, hsplit, hpre⟩ := List.eq_append_cons_of_mem (List.count_pos_iff.1 (hcount ▸ Nat.one_pos))
  refine ⟨pre, post, hsplit, hpre, fun hpost => ?_⟩
  rw [hsplit, List.count_append, List.count_cons_self] at hcount
  have := List.count_pos_iff.2 hpost
  omega

end Sys2Proof.Machine

/-! PROOFS. The step and the applied offset at a demand event (R72, R81, R87, R155, R156): the turns of the other blocks
leave the drives, park them or stop them; the engine's turn alone steps them. -/

namespace Sys2Proof.Machine

variable {s t u : State}

/-! ### The turns of the other blocks -/

/-- What the turns of the filters, the lines and the whole-second mark leave of the drives: they are left, sent to the park
position with every axis folded, or stopped with the pulses not yet issued dropped (R123, R158, R170). -/
structure State.Aside (s t : State) : Prop where
  axes : t.axes = s.axes ∨ t.axes = s.axes.map AxisState.fold ∧ (t.engine = .parking ∨ t.engine = .stopped)
  inForce : t.inForce = s.inForce
  drives :
    t.engine = s.engine ∧ t.steps = s.steps ∨
      t.engine = .parking ∧ (s.engine ≠ .unset ∧ s.engine ≠ .stopped ∧ s.engine ≠ .parked) ∧ t.steps = s.steps ∨
      t.engine = .stopped ∧ s.engine ≠ .stopped ∧ t.steps = s.steps.map StepOut.drop

theorem State.Aside.of_same (ha : t.axes = s.axes) (hf : t.inForce = s.inForce) (he : t.engine = s.engine)
    (hst : t.steps = s.steps) : s.Aside t :=
  ⟨.inl ha, hf, .inl ⟨he, hst⟩⟩

theorem State.Aside.refl (s : State) : s.Aside s := .of_same rfl rfl rfl rfl

/-- Drives once parked or stopped stay so. -/
theorem State.Aside.down (h : s.Aside t) (hs : s.engine = .parking ∨ s.engine = .stopped) :
    t.engine = .parking ∨ t.engine = .stopped := by
  rcases h.drives with ⟨he, _⟩ | ⟨he, _⟩ | ⟨he, _⟩
  · rw [he]; exact hs
  · exact .inl he
  · exact .inr he

theorem State.Aside.trans (h : s.Aside t) (h' : t.Aside u) : s.Aside u where
  axes := by
    rcases h.axes with ha | ⟨ha, hd⟩ <;> rcases h'.axes with hb | ⟨hb, hd'⟩
    · exact .inl (hb.trans ha)
    · exact .inr ⟨by rw [hb, ha], hd'⟩
    · exact .inr ⟨by rw [hb, ha], h'.down hd⟩
    · exact .inr ⟨by rw [hb, ha, map_fold_fold], hd'⟩
  inForce := h'.inForce.trans h.inForce
  drives := by
    rcases h'.drives with ⟨he', hst'⟩ | ⟨he', hne', hst'⟩ | ⟨he', hne', hst'⟩
    · rw [he', hst']
      exact h.drives
    · rcases h.drives with ⟨he, hst⟩ | ⟨he, hne, hst⟩ | ⟨he, hne, hst⟩
      · exact .inr (.inl ⟨he', he ▸ hne', hst'.trans hst⟩)
      · exact .inr (.inl ⟨he', hne, hst'.trans hst⟩)
      · exact absurd he hne'.2.1
    · rcases h.drives with ⟨he, hst⟩ | ⟨he, hne, hst⟩ | ⟨he, hne, hst⟩
      · exact .inr (.inr ⟨he', he ▸ hne', hst'.trans (by rw [hst])⟩)
      · exact .inr (.inr ⟨he', hne.2.1, hst'.trans (by rw [hst])⟩)
      · exact absurd he hne'

theorem faultStopped_drives (s : State) : s.faultStopped.engine = .stopped ∧ s.faultStopped.steps = s.steps.map StepOut.drop := by
  have hst := State.endActive_steps (s := s) .fault
  unfold State.faultStopped
  generalize s.endActive .fault = v at hst ⊢
  exact ⟨rfl, by rw [← hst]; rfl⟩

theorem faultEvent_aside (k : FaultKind) (s : State) : s.Aside (s.faultEvent k) := by
  by_cases h : s.engine = .stopped
  · have hsame : ∃ x y, s.faultEvent k = { s with faults := x, notices := y } := by
      unfold State.faultEvent
      rw [h]
      dsimp only
      cases s.faults.second <;> exact ⟨_, _, by rw [← h]; rfl⟩
    obtain ⟨x, y, hsame⟩ := hsame
    rw [hsame]
    exact .of_same rfl rfl rfl rfl
  · have he : (s.faultEvent k).engine = .stopped := by simp
    refine ⟨(faultEvent_folds k s).imp id fun ha => ⟨ha, .inr he⟩, by simp, .inr (.inr ⟨he, h, ?_⟩)⟩
    rw [faultEvent_of_ne k h]
    have hst := (faultStopped_drives (s.faultRecorded k)).2
    generalize (s.faultRecorded k).faultStopped = v at hst ⊢
    rw [show s.steps = (s.faultRecorded k).steps from rfl, ← hst]
    unfold State.owesPark
    split <;> rfl

theorem enterParking_aside (h : s.engine ≠ .unset ∧ s.engine ≠ .stopped ∧ s.engine ≠ .parked) : s.Aside s.enterParking :=
  ⟨.inr ⟨rfl, .inl rfl⟩, rfl, .inr (.inl ⟨rfl, h, rfl⟩)⟩

theorem endPark_aside (h : s.engine.isTarget = true) : s.Aside ((s.endActive .shelter).enterParking) := by
  refine ⟨.inr ⟨endActive_enterParking_axes .shelter s, .inl rfl⟩, by simp, .inr (.inl ⟨rfl, ?_, by simp⟩)⟩
  refine ⟨?_, ?_, ?_⟩ <;> rintro he <;> rw [he] at h <;> cases h

theorem formShelter_aside (s : State) : s.Aside s.formShelter := by
  refine formShelter_keeps (P := s.Aside) (.refl s) (fun _ h => h.trans (.of_same rfl rfl rfl rfl))
    (fun _ _ h => h.trans (.of_same rfl rfl rfl rfl)) (fun _ ht h => h.trans (endPark_aside ht)) (fun _ ht h => ?_)
  refine h.trans (enterParking_aside ?_)
  rcases ht with he | he | ⟨_, he⟩ <;> rw [he] <;> exact ⟨by rintro ⟨⟩, by rintro ⟨⟩, by rintro ⟨⟩⟩

theorem filterInput_aside (i : Input) (s : State) : s.Aside (s.filterInput i) := by
  unfold State.filterInput
  dsimp only
  generalize (s.inputs.get i).sample (s.pins.get i == assertedHigh i) = f
  have hset : s.Aside { s with inputs := s.inputs.set i f } := .of_same rfl rfl rfl rfl
  split
  · unfold State.faultIf
    split
    · exact hset.trans (faultEvent_aside _ _)
    · exact hset
  · split
    · exact hset.trans (formShelter_aside _)
    · exact hset

theorem turn_aside {x : Turn} (h : x ≠ .engine) (s : State) : s.Aside (s.turn x) := by
  cases x with
  | filter i => exact filterInput_aside i s
  | engine => exact absurd rfl h
  | line id =>
    show s.Aside (s.lineTurn id)
    unfold State.lineTurn
    dsimp only
    repeat' split
    all_goals exact .of_same rfl rfl rfl rfl
  | second =>
    show s.Aside s.secondTurn
    unfold State.secondTurn
    split
    · exact .of_same rfl rfl rfl rfl
    · exact .refl s

theorem turns_aside {l : List Turn} (h : Turn.engine ∉ l) (s : State) : s.Aside (l.foldl State.turn s) := by
  induction l generalizing s with
  | nil => exact .refl s
  | cons x rest ih =>
    obtain ⟨hx, hrest⟩ := not_or.1 (mt List.mem_cons.2 h)
    exact (turn_aside (Ne.symm hx) s).trans (ih hrest _)

/-! ### The engine's turn -/

/-- Of an axis, what the base stage and the decisions of an event leave: the demand, the emitted position and the lag,
and the applied offset or 0 in its place. -/
def AxisState.Kept (a b : AxisState) : Prop :=
  b.demand = a.demand ∧ b.emitted = a.emitted ∧ b.lag = a.lag ∧ (b.applied = a.applied ∨ b.applied = 0)

theorem AxisState.Kept.trans {a b c : AxisState} (h : a.Kept b) (h' : b.Kept c) : a.Kept c := by
  obtain ⟨hd, he, hl, ha⟩ := h
  obtain ⟨hd', he', hl', ha'⟩ := h'
  refine ⟨hd'.trans hd, he'.trans he, hl'.trans hl, ?_⟩
  rcases ha' with h | h
  · rw [h]; exact ha
  · exact .inr h

theorem kept_of_folded (h : FoldedOrSame s t) (ax : Axis) : (s.axes.get ax).Kept (t.axes.get ax) := by
  rcases h with h | h <;> rw [h]
  · exact ⟨rfl, rfl, rfl, .inl rfl⟩
  · rw [get_map]
    exact ⟨rfl, rfl, rfl, .inr rfl⟩

theorem kept_withMotions (m : Axes Motion) (s : State) (ax : Axis) : (s.axes.get ax).Kept ((s.withMotions m).axes.get ax) := by
  cases ax <;> exact ⟨rfl, rfl, rfl, .inl rfl⟩

/-- What the base stage and the decisions of an event leave of the drives. -/
structure State.Steady (s t : State) : Prop where
  axes : ∀ ax, (s.axes.get ax).Kept (t.axes.get ax)
  steps : t.steps = s.steps
  enclosure : t.enclosure = s.enclosure
  runs : s.engine ≠ .stopped → t.engine ≠ .stopped

theorem State.Steady.of_folded (ha : FoldedOrSame s t) (hst : t.steps = s.steps ∧ t.enclosure = s.enclosure)
    (he : s.engine ≠ .stopped → t.engine ≠ .stopped) : s.Steady t :=
  ⟨kept_of_folded ha, hst.1, hst.2, he⟩

theorem State.Steady.refl (s : State) : s.Steady s := .of_folded (.inl rfl) ⟨rfl, rfl⟩ id

theorem State.Steady.trans (h : s.Steady t) (h' : t.Steady u) : s.Steady u :=
  ⟨fun ax => (h.axes ax).trans (h'.axes ax), h'.steps.trans h.steps, h'.enclosure.trans h.enclosure, fun hs => h'.runs (h.runs hs)⟩

theorem scan_steps (b : Bool) (n : Nat) (s : State) :
    (State.scan b n s).steps = s.steps ∧ (State.scan b n s).enclosure = s.enclosure := by
  obtain ⟨s', hs', h⟩ := State.scan_cases (P := fun x => x.steps = s.steps ∧ x.enclosure = s.enclosure) b
    (fun _ _ _ h _ => h) (fun _ _ h _ => h) n s ⟨rfl, rfl⟩
  rcases h with ⟨r, h⟩ | ⟨e, k, az, _, h⟩ <;> rw [h]
  · unfold State.wait; dsimp only; split <;> split <;> exact hs'
  · unfold State.start; dsimp only; split <;> exact hs'

/-- Selection ends in a wait or in a start. -/
theorem scan_runs (b : Bool) (n : Nat) (s : State) : (State.scan b n s).engine ≠ .stopped := by
  obtain ⟨s', _, h⟩ := State.scan_cases (P := fun _ => True) b
    (fun _ _ _ h _ => h) (fun _ _ h _ => h) n s trivial
  rcases h with ⟨r, h⟩ | ⟨e, k, az, _, h⟩ <;> rw [h]
  · unfold State.wait; dsimp only; split <;> split <;> exact nofun
  · unfold State.start; dsimp only; split <;> exact nofun

theorem endAndSelect_steady (o : EndOutcome) (s : State) : s.Steady (s.endAndSelect o) :=
  .of_folded (endAndSelect_folds o s) (by
      obtain ⟨hst, henc⟩ := scan_steps true ((s.endActive o).night.entries.length + 1) (s.endActive o)
      unfold State.endAndSelect State.select
      rw [hst, henc]
      simp)
    fun _ => scan_runs _ _ _

theorem ranOut_steady (x : Expiry) (s : State) : s.Steady (s.ranOut x) := .of_folded (.inl rfl) ⟨rfl, rfl⟩ id

theorem give_steady (src : Source) (s : State) : s.Steady (s.give src) := .of_folded (.inl rfl) ⟨rfl, rfl⟩ id

theorem enter_steady {e : Engine} (he : e ≠ .stopped) (s : State) : s.Steady (s.enter e) := .of_folded (.inl rfl) ⟨rfl, rfl⟩ fun _ => he

theorem onActive_steady (f : Entry → Entry) (s : State) : s.Steady (s.onActive f) := .of_folded (.inl rfl) ⟨rfl, rfl⟩ id

theorem capture_steady (s : State) : s.Steady s.capture :=
  .of_folded (.inl (capture_axes s)) (by unfold State.capture; dsimp only; split <;> exact ⟨rfl, rfl⟩)
    fun _ => by unfold State.capture; dsimp only; split <;> exact nofun

theorem dwellEnds_steady (n : Nat) (s : State) : s.Steady (s.dwellEnds n) := by
  have hgive : s.Steady ((State.give .dwellEnd s).ranOut .dwellEnd) := (give_steady _ s).trans (ranOut_steady _ _)
  unfold State.dwellEnds
  dsimp only
  split
  · exact (hgive.trans (enter_steady (e := .holding n) nofun _)).trans (onActive_steady _ _)
  · exact hgive.trans (endAndSelect_steady _ _)

theorem decideSlewing_steady (b : BaseStage) (n : Nat) (s : State) : s.Steady (s.decideSlewing b n) := by
  unfold State.decideSlewing
  split
  · exact endAndSelect_steady _ _
  split
  · exact endAndSelect_steady _ _
  split
  · exact capture_steady s
  split
  · exact (ranOut_steady _ s).trans (endAndSelect_steady _ _)
  · exact .refl s

theorem decideSettling_steady (runout clamped : Bool) (n : Nat) (s : State) : s.Steady (s.decideSettling runout clamped n) := by
  unfold State.decideSettling
  split
  · exact endAndSelect_steady _ _
  split
  · exact endAndSelect_steady _ _
  split
  · exact .of_folded (.inl rfl) ⟨rfl, rfl⟩ fun _ => nofun
  · exact enter_steady (e := .settling (n + 1)) nofun s

theorem decideTracking_steady (runout clamped : Bool) (n : Nat) (s : State) : s.Steady (s.decideTracking runout clamped n) := by
  unfold State.decideTracking
  dsimp only
  split
  · exact endAndSelect_steady _ _
  split
  · exact endAndSelect_steady _ _
  split
  · exact dwellEnds_steady _ s
  · exact enter_steady (e := .tracking (n + 1)) nofun s

theorem decideHolding_steady (runout clamped : Bool) (s : State) : s.Steady (s.decideHolding runout clamped) := by
  have hcount : s.Steady (if s.inputs.instHold.level then s.countHold else s) := by
    split
    · exact onActive_steady _ s
    · exact .refl s
  unfold State.decideHolding
  dsimp only
  refine hcount.trans ?_
  generalize (if s.inputs.instHold.level then s.countHold else s) = v
  split
  · exact endAndSelect_steady _ v
  split
  · exact endAndSelect_steady _ v
  split
  · split
    · exact (ranOut_steady _ v).trans (endAndSelect_steady _ _)
    · exact .refl v
  · exact endAndSelect_steady _ v

theorem takeDecision_steady (b : BaseStage) (clamped : Bool) (s : State) : s.Steady (s.takeDecision b clamped) := by
  unfold State.takeDecision
  split
  case h_1 => exact decideSlewing_steady b _ s
  case h_2 => exact decideSettling_steady _ _ _ s
  case h_3 => exact decideTracking_steady _ _ _ s
  case h_4 => exact decideHolding_steady _ _ s
  case h_5 dest _ =>
    split
    · cases dest <;> exact .of_folded (.inl rfl) ⟨rfl, rfl⟩ fun _ => nofun
    · exact .refl s
  case h_6 =>
    split
    · exact ⟨kept_withMotions (Axes.of fun ax => ⟨s.inForce.park.get ax * fineUnits, 0⟩) s, rfl, rfl, fun _ => nofun⟩
    · exact .refl s
  case h_7 => exact .of_folded (.inl (scan_axes _ _ s)) (scan_steps _ _ s) fun _ => scan_runs _ _ s
  all_goals exact .refl s

end Sys2Proof.Machine

/-! PROOFS. The stages of the engine's computation on the axes (R72 to R87), and the law of the step and of the applied
offset at one demand event (R81, R87). -/

namespace Sys2Proof.Machine

variable {s t u : State}

/-! ### What each stage leaves -/

theorem takeMailbox_frame (s : State) : ∃ x y z, s.takeMailbox = { s with night := x, guide := y, lines := z } := by
  unfold State.takeMailbox
  split
  · exact ⟨s.night, s.guide, s.lines, rfl⟩
  · exact ⟨_, _, _, rfl⟩

theorem countGuide_frame (s : State) : ∃ x y z, s.countGuide = { s with guide := x, notices := y, expiries := z } := by
  unfold State.countGuide
  split
  · split
    · exact ⟨_, _, _, rfl⟩
    · exact ⟨_, s.notices, s.expiries, rfl⟩
  all_goals exact ⟨s.guide, s.notices, s.expiries, rfl⟩

theorem guideStage_frame (runout : Bool) (s : State) : ∃ v w x y z,
    s.guideStage runout = { s with night := v, guide := w, lines := x, notices := y, expiries := z } := by
  unfold State.guideStage
  split
  · obtain ⟨x, y, z, h⟩ : ∃ x y z, (if runout then s else s.takeMailbox) = { s with night := x, guide := y, lines := z } := by
      split
      · exact ⟨s.night, s.guide, s.lines, rfl⟩
      · exact takeMailbox_frame s
    rw [h]
    obtain ⟨x', y', z', h'⟩ := countGuide_frame { s with night := x, guide := y, lines := z }
    exact ⟨x, x', z, y', z', h'⟩
  · exact ⟨s.night, s.guide, s.lines, s.notices, s.expiries, rfl⟩

theorem judgeAlignment_frame (s : State) : ∃ x y, s.judgeAlignment = { s with enclosure := x, expiries := y } := by
  unfold State.judgeAlignment
  split
  · exact ⟨_, s.expiries, rfl⟩
  · dsimp only
    split
    · exact ⟨_, _, rfl⟩
    · exact ⟨_, s.expiries, rfl⟩

theorem setOnTarget_frame (b : Bool) (s : State) : ∃ x y z, s.setOnTarget b = { s with onTarget := x, notices := y, lines := z } := by
  unfold State.setOnTarget
  split
  · exact ⟨s.onTarget, s.notices, s.lines, rfl⟩
  · exact ⟨_, _, _, rfl⟩

theorem evaluateOnTarget_frame (runout : Bool) (s : State) : ∃ w x y z,
    s.evaluateOnTarget runout = { s with onTarget := w, notices := x, lines := y, night := z } := by
  obtain ⟨x, y, z, h⟩ := setOnTarget_frame (s.onTargetNow runout) s
  unfold State.evaluateOnTarget
  dsimp only
  rw [h]
  split
  · exact ⟨_, _, _, _, rfl⟩
  · exact ⟨x, y, z, s.night, rfl⟩

/-! ### The base stage on the drives -/

/-- The base stage runs out with every axis folded, or gives every axis a motion (R73, R92). -/
theorem baseStage_axes (s : State) :
    s.baseStage.runout = true ∧ s.baseStage.state = s.foldAxes ∨
      ∃ m, s.baseStage.state.axes = s.axes.map₂ AxisState.withMotion m := by
  have hmotions (m : Axes Motion) (v : State) (hv : v.axes = s.axes) :
      (v.withMotions m).axes = s.axes.map₂ AxisState.withMotion m := by rw [← hv]; rfl
  have htarget : s.baseTarget.runout = true ∧ s.baseTarget.state = s.foldAxes ∨
      ∃ m, s.baseTarget.state.axes = s.axes.map₂ AxisState.withMotion m := by
    unfold State.baseTarget
    split
    · exact .inl ⟨rfl, rfl⟩
    · exact .inr ⟨_, hmotions _ _ (aim_axes ‹_›)⟩
  unfold State.baseStage
  split
  case h_1 timer az _ =>
    unfold State.baseSlewing
    split
    · exact .inl ⟨rfl, rfl⟩
    · rename_i s1 g r ha
      exact .inr ⟨_, hmotions _ { s1 with engine := .slewing (timer + 1) (roundCounts g.az) } (aim_axes (s := s) ha)⟩
  case h_5 => exact .inr ⟨_, hmotions _ s rfl⟩
  case h_6 => exact .inr ⟨_, hmotions _ s rfl⟩
  case h_7 => exact .inr ⟨s.axes.map fun a => ⟨a.base, 0⟩, rfl⟩
  case h_8 => exact .inr ⟨s.axes.map fun a => ⟨a.base, 0⟩, rfl⟩
  case h_9 => exact .inr ⟨s.axes.map fun a => ⟨a.base, 0⟩, rfl⟩
  case h_10 => exact .inr ⟨s.axes.map AxisState.motion, rfl⟩
  case h_11 => exact .inr ⟨s.axes.map AxisState.motion, rfl⟩
  all_goals exact htarget

theorem aim_frame {a : State × Axes Int × Axes Int} (h : s.aim = some a) : ∃ x y, a.1 = { s with night := x, free := y } := by
  rcases s.aim_cases h with h | ⟨_, _, _, _, h⟩ <;> rw [h]
  · exact ⟨s.night, s.free, rfl⟩
  · exact ⟨_, _, rfl⟩

theorem baseStage_frame (s : State) : ∃ w x y z,
    s.baseStage.state = { s with night := w, free := x, engine := y, axes := z } := by
  have htarget : ∃ w x y z, s.baseTarget.state = { s with night := w, free := x, engine := y, axes := z } := by
    unfold State.baseTarget
    split
    · exact ⟨s.night, s.free, s.engine, _, rfl⟩
    · obtain ⟨x, y, h⟩ := aim_frame ‹_›
      dsimp only at h ⊢
      rw [h]
      exact ⟨x, y, s.engine, _, rfl⟩
  unfold State.baseStage
  split
  case h_1 timer az _ =>
    unfold State.baseSlewing
    split
    · exact ⟨s.night, s.free, s.engine, _, rfl⟩
    · obtain ⟨x, y, h⟩ := aim_frame ‹_›
      dsimp only at h ⊢
      rw [h]
      exact ⟨x, y, _, _, rfl⟩
  case h_2 => exact htarget
  case h_3 => exact htarget
  case h_4 => exact htarget
  all_goals exact ⟨s.night, s.free, s.engine, _, rfl⟩

/-- The base stage leaves the emitted positions, and the applied offsets but where it runs out (R92). -/
theorem baseStage_axis (s : State) (ax : Axis) :
    (s.baseStage.state.axes.get ax).emitted = (s.axes.get ax).emitted ∧
      ((s.baseStage.state.axes.get ax).applied = (s.axes.get ax).applied ∨
        s.baseStage.runout = true ∧ (s.baseStage.state.axes.get ax).applied = 0) := by
  rcases baseStage_axes s with ⟨hr, h⟩ | ⟨m, h⟩ <;> rw [h]
  · refine ⟨?_, .inr ⟨hr, ?_⟩⟩ <;> cases ax <;> rfl
  · cases ax <;> exact ⟨rfl, .inl rfl⟩

/-- The base stage counts a slew's timer, and else leaves the engine state. -/
theorem baseStage_engine (s : State) :
    s.baseStage.state.engine = s.engine ∨
      (∃ n az, s.engine = .slewing n az) ∧ ∃ n az, s.baseStage.state.engine = .slewing n az := by
  have haim {a : State × Axes Int × Axes Int} (h : s.aim = some a) : a.1.engine = s.engine := by
    rcases s.aim_cases h with h | ⟨_, _, _, _, h⟩ <;> rw [h]
    rfl
  have htarget : s.baseTarget.state.engine = s.engine := by
    unfold State.baseTarget
    split
    · rfl
    · exact haim ‹_›
  unfold State.baseStage
  split
  case h_1 timer az he =>
    unfold State.baseSlewing
    split
    · exact .inl rfl
    · exact .inr ⟨⟨_, _, he⟩, _, _, rfl⟩
  case h_2 => exact .inl htarget
  case h_3 => exact .inl htarget
  case h_4 => exact .inl htarget
  all_goals exact .inl rfl

theorem baseStage_engine_iff {e : Engine} (hne : ∀ n az, e ≠ .slewing n az) (s : State) :
    s.baseStage.state.engine = e ↔ s.engine = e := by
  rcases baseStage_engine s with h | ⟨⟨n, az, h⟩, n', az', h'⟩
  · rw [h]
  · rw [h, h']
    exact ⟨fun h => absurd h.symm (hne _ _), fun h => absurd h.symm (hne _ _)⟩

/-! ### The stages after it on the drives -/

/-- The state that the limit and the step stage find. -/
def State.blended (s : State) : State := (s.baseStage.state.correctionStage).blendStage s.baseStage.runout

theorem evaluated_eq (s : State) :
    s.evaluated = ((s.blended.limitStage.stepStage).judgeAlignment).evaluateOnTarget s.baseStage.runout := rfl

theorem blended_frame (s : State) : ∃ r v w x y z, s.blended =
    { s.baseStage.state with night := r, guide := v, lines := w, notices := x, expiries := y, model := z
                             axes := s.blended.axes } := by
  obtain ⟨v, w, x, y, z, h⟩ := guideStage_frame s.baseStage.runout s.baseStage.state.correctionStage
  unfold State.blended State.blendStage
  rw [h]
  exact ⟨v, w, x, y, z, _, rfl⟩

/-- The blend of one axis: toward a wanted offset, which is 0 outside the target states and at a runout (R79, R81, R92). -/
theorem blended_axis (s : State) (ax : Axis) : ∃ w,
    (s.blended.axes.get ax).applied = blend s.inForce.cstep w (s.baseStage.state.axes.get ax).applied ∧
      (s.blended.axes.get ax).emitted = (s.axes.get ax).emitted ∧
      (s.baseStage.runout = true ∨ s.engine.isTarget = false → w = 0) := by
  have hforce : s.baseStage.state.inForce = s.inForce := by simp
  obtain ⟨x1, x2, x3, x4, x5, h⟩ := guideStage_frame s.baseStage.runout s.baseStage.state.correctionStage
  have hemit := (baseStage_axis s ax).1
  refine ⟨((s.baseStage.state.correctionStage.guideStage s.baseStage.runout).wantedOf s.baseStage.runout).get ax, ?_, ?_, ?_⟩
  · unfold State.blended State.blendStage
    rw [h, ← hforce]
    cases ax <;> rfl
  · unfold State.blended State.blendStage
    rw [h, ← hemit]
    cases ax <;> rfl
  · intro hrest
    have hnone : ((s.baseStage.state.correctionStage.guideStage s.baseStage.runout).engine.isTarget && !s.baseStage.runout) = false := by
      rw [h]
      show (s.baseStage.state.engine.isTarget && !s.baseStage.runout) = false
      rcases hrest with hr | ht
      · rw [hr, Bool.not_true, Bool.and_false]
      · rcases baseStage_engine s with he | ⟨⟨n, az, he⟩, _⟩
        · rw [he, ht, Bool.false_and]
        · rw [he] at ht
          cases ht
    unfold State.wantedOf
    rw [hnone]
    cases ax <;> rfl

/-- The step of one axis: its demand stands, the emitted position moves by the step count, and the rest is the lag (R87). -/
theorem evaluated_axis (s : State) (ax : Axis) :
    s.evaluated.axes.get ax =
      ((s.blended.axes.get ax).limit (s.inForce.lower.get ax) (s.inForce.upper.get ax)).step
        (s.blended.limitStage.stepCount ax) := by
  have hforce : s.blended.inForce = s.inForce := by unfold State.blended; simp
  rw [evaluated_eq, evaluateOnTarget_axes, ← hforce]
  obtain ⟨x, y, h⟩ := judgeAlignment_frame s.blended.limitStage.stepStage
  rw [h]
  exact step_axis s.blended ax

theorem evaluated_steps (s : State) (ax : Axis) :
    s.evaluated.steps.get ax = (s.steps.get ax).hand (s.blended.limitStage.stepCount ax) := by
  obtain ⟨w, x, y, z, h⟩ := evaluateOnTarget_frame s.baseStage.runout (s.blended.limitStage.stepStage).judgeAlignment
  obtain ⟨x', y', h'⟩ := judgeAlignment_frame s.blended.limitStage.stepStage
  rw [evaluated_eq, h, h']
  obtain ⟨a, b, c, d, e, f, hb⟩ := blended_frame s
  obtain ⟨a', b', c', d', hs⟩ := baseStage_frame s
  have hsteps : s.blended.steps = s.steps := by rw [hb, hs]
  rw [← hsteps]
  cases ax <;> rfl

theorem evaluated_engine (s : State) : s.evaluated.engine = s.baseStage.state.engine := by
  obtain ⟨w, x, y, z, h⟩ := evaluateOnTarget_frame s.baseStage.runout (s.blended.limitStage.stepStage).judgeAlignment
  obtain ⟨x', y', h'⟩ := judgeAlignment_frame s.blended.limitStage.stepStage
  obtain ⟨a, b, c, d, e, f, hb⟩ := blended_frame s
  rw [evaluated_eq, h, h']
  show s.blended.engine = _
  rw [hb]

/-- The step count of an axis (R87). -/
theorem stepCount_eq (s : State) (ax : Axis) :
    s.blended.limitStage.stepCount ax =
      if s.engine = .parked then 0
      else clampAbs (s.inForce.stepMax.get ax)
        (clamp (s.inForce.lower.get ax) (s.inForce.upper.get ax) (s.blended.axes.get ax).sum - (s.axes.get ax).emitted) := by
  obtain ⟨w, _, hemit, _⟩ := blended_axis s ax
  obtain ⟨a, b, c, d, e, f, hb⟩ := blended_frame s
  have hengine : s.blended.limitStage.engine = .parked ↔ s.engine = .parked := by
    rw [← baseStage_engine_iff (e := .parked) nofun s]
    show s.blended.engine = .parked ↔ _
    rw [hb]
  have hforce : s.blended.inForce = s.inForce := by unfold State.blended; simp
  have haxis : s.blended.limitStage.axes.get ax =
      (s.blended.axes.get ax).limit (s.inForce.lower.get ax) (s.inForce.upper.get ax) := by
    rw [← hforce]
    cases ax <;> rfl
  unfold State.stepCount
  rw [haxis, if_congr hengine rfl rfl, ← hemit]
  show (if _ then _ else clampAbs (s.blended.inForce.stepMax.get ax) _) = _
  rw [hforce]
  rfl

/-! ### One computation on one axis -/

/-- The step law and the law of the applied offset at one computation (R81, R87). -/
theorem computeEvent_drives (hcstep : 0 ≤ s.inForce.cstep) (he : s.engine ≠ .stopped) (ax : Axis) :
    let a := s.axes.get ax
    let b := s.computeEvent.axes.get ax
    s.computeEvent.engine ≠ .stopped ∧ b.lag = b.demand - b.emitted ∧
      s.computeEvent.steps.get ax = (s.steps.get ax).hand (b.emitted - a.emitted) ∧
      b.emitted - a.emitted =
        (if s.engine = .parked then 0 else clampAbs (s.inForce.stepMax.get ax) (b.demand - a.emitted)) ∧
      (b.applied = 0 ∨ magnitude (b.applied - a.applied) ≤ s.inForce.cstep) ∧
      (s.engine = .parking → a.applied = 0 → b.applied = 0) := by
  have hsteady := takeDecision_steady s.baseStage s.clampedNow s.evaluated
  obtain ⟨hdemand, hemit, hlag, happ⟩ := hsteady.axes ax
  have hengine : s.evaluated.engine ≠ .stopped := by
    rw [evaluated_engine, ne_eq, baseStage_engine_iff (e := .stopped) nofun]
    exact he
  have haxis := evaluated_axis s ax
  have hcount := stepCount_eq s ax
  obtain ⟨w, hblend, hstart, hw⟩ := blended_axis s ax
  have hsteps := (congrArg (fun x => x.get ax) hsteady.steps).trans (evaluated_steps s ax)
  rw [computeEvent_eq]
  dsimp only
  show (s.evaluated.takeDecision s.baseStage s.clampedNow).engine ≠ .stopped ∧ _
  rw [State.evaluateCorrection_axes, State.evaluateCorrection_steps]
  have he' : (s.evaluated.axes.get ax).emitted = (s.axes.get ax).emitted + s.blended.limitStage.stepCount ax := by
    rw [haxis, ← hstart]; rfl
  have hd' : (s.evaluated.axes.get ax).demand =
      clamp (s.inForce.lower.get ax) (s.inForce.upper.get ax) (s.blended.axes.get ax).sum := by rw [haxis]; rfl
  have hl' : (s.evaluated.axes.get ax).lag = (s.evaluated.axes.get ax).demand - (s.evaluated.axes.get ax).emitted := by
    rw [haxis]; rfl
  have ha' : (s.evaluated.axes.get ax).applied = blend s.inForce.cstep w (s.baseStage.state.axes.get ax).applied := by
    rw [haxis, ← hblend]; rfl
  have hmoved : (s.evaluated.axes.get ax).emitted - (s.axes.get ax).emitted = s.blended.limitStage.stepCount ax := by
    rw [he']; omega
  refine ⟨hsteady.runs hengine, ?_, ?_, ?_, ?_, ?_⟩
  · rw [hlag, hdemand, hemit, hl']
  · rw [hemit, hmoved]
    exact hsteps
  · rw [hemit, hmoved, hdemand, hd']
    exact hcount
  · rcases happ with h | h
    · rw [h, ha']
      rcases (baseStage_axis s ax).2 with hb | ⟨hr, hb⟩
      · right
        rw [hb, magnitude_le_iff]
        unfold blend
        split
        · omega
        · split <;> omega
      · left
        rw [hb, hw (.inl hr), blend_zero hcstep]
    · exact .inl h
  · intro hpark hzero
    rcases happ with h | h
    · rw [h, ha', hw (.inr (by rw [hpark]; rfl))]
      rcases (baseStage_axis s ax).2 with hb | ⟨_, hb⟩ <;> rw [hb]
      · rw [hzero, blend_zero hcstep]
      · exact blend_zero hcstep
    · exact h

theorem engineTurn_of_down (h : s.engine = .unset ∨ s.engine = .stopped) : s.engineTurn = s.judgeAlignment := by
  unfold State.engineTurn
  rcases h with h | h <;> rw [h]

theorem engineTurn_of_ne (hu : s.engine ≠ .unset) (hs : s.engine ≠ .stopped) : s.engineTurn = s.computeEvent := by
  unfold State.engineTurn
  split <;> first | rfl | contradiction

/-- A demand event is its opening, the turns of the others, the engine's turn, the turns of the others that remain, and its
close. -/
theorem runEvent_split (levels : Inputs Bool) (order : List Turn) (s : State) :
    ∃ pre post : List Turn, Turn.engine ∉ pre ∧ Turn.engine ∉ post ∧
      s.runEvent levels order =
        (post.foldl State.turn (pre.foldl State.turn (s.openEvent levels)).engineTurn).closeEvent := by
  obtain ⟨pre, post, hsplit, hpre, hpost⟩ := completeOrder_split .engine order
  refine ⟨pre, post, hpre, hpost, ?_⟩
  unfold State.runEvent
  rw [hsplit, List.foldl_append]
  rfl

/-- What the engine's turn does to one axis (R72, R81, R87). -/
structure State.Driven (s t : State) (ax : Axis) : Prop where
  runs : s.engine ≠ .stopped → t.engine ≠ .stopped
  stands : s.engine = .stopped → t.engine = .stopped
  steps : t.steps.get ax = (s.steps.get ax).hand ((t.axes.get ax).emitted - (s.axes.get ax).emitted)
  still : s.engine = .unset ∨ s.engine = .parked ∨ s.engine = .stopped → (t.axes.get ax).emitted = (s.axes.get ax).emitted
  moves : s.engine ≠ .unset → s.engine ≠ .parked → s.engine ≠ .stopped →
    (t.axes.get ax).emitted - (s.axes.get ax).emitted =
      clampAbs (s.inForce.stepMax.get ax) ((t.axes.get ax).demand - (s.axes.get ax).emitted)
  lag : s.engine ≠ .unset → s.engine ≠ .stopped → (t.axes.get ax).lag = (t.axes.get ax).demand - (t.axes.get ax).emitted
  applied : (t.axes.get ax).applied = 0 ∨ magnitude ((t.axes.get ax).applied - (s.axes.get ax).applied) ≤ s.inForce.cstep
  parks : s.engine = .parking ∨ s.engine = .stopped → (s.axes.get ax).applied = 0 → (t.axes.get ax).applied = 0
  inForce : t.inForce = s.inForce

theorem engineTurn_driven (hcstep : 0 ≤ s.inForce.cstep) (ax : Axis) : s.Driven s.engineTurn ax := by
  by_cases hdown : s.engine = .unset ∨ s.engine = .stopped
  · rw [engineTurn_of_down hdown]
    obtain ⟨x, y, h⟩ := judgeAlignment_frame s
    rw [h]
    refine ⟨id, id, ?_, fun _ => rfl, fun h1 _ h2 => absurd hdown (not_or.2 ⟨h1, h2⟩),
      fun h1 h2 => absurd hdown (not_or.2 ⟨h1, h2⟩), .inr ?_, fun _ h => h, rfl⟩
    · simp [StepOut.hand]
    · simpa [magnitude] using hcstep
  · obtain ⟨hu, hs⟩ := not_or.1 hdown
    rw [engineTurn_of_ne hu hs]
    obtain ⟨hruns, hlag, hsteps, hmoves, happ, hparks⟩ := computeEvent_drives hcstep hs ax
    refine ⟨fun _ => hruns, fun h => absurd h hs, hsteps, ?_, ?_, fun _ _ => hlag, happ, ?_, by simp⟩
    · rintro (h | h | h)
      · exact absurd h hu
      · rw [if_pos h] at hmoves
        omega
      · exact absurd h hs
    · intro _ h _
      rw [if_neg h] at hmoves
      exact hmoves
    · rintro (h | h)
      · exact hparks h
      · exact absurd h hs

/-- The step law and the law of the applied offset, with the turns of the others before and after the engine's
(R81, R87, R155, R158). -/
theorem Driven.between {u v : State} (hp : s.Aside u) (h : u.Driven v ax) (hq : v.Aside t)
    (hmax : 1 ≤ s.inForce.stepMax.get ax) :
    let a := s.axes.get ax
    let b := t.axes.get ax
    let m := t.inForce.stepMax.get ax
    let handed := (s.steps.get ax).hand (b.emitted - a.emitted)
    magnitude (b.emitted - a.emitted) ≤ m ∧
      (s.engine = .unset ∨ s.engine = .parked ∨ s.engine = .stopped → b.emitted = a.emitted) ∧
      (b.applied = 0 ∨ magnitude (b.applied - a.applied) ≤ t.inForce.cstep) ∧
      (s.engine ≠ .unset → t.engine ≠ .stopped → b.lag = b.demand - b.emitted) ∧
      (s.engine ≠ .unset → s.engine ≠ .parked → t.engine ≠ .stopped →
        b.emitted = a.emitted + max (-m) (min m (b.demand - a.emitted))) ∧
      (t.engine ≠ .stopped ∨ s.engine = .stopped → t.steps.get ax = handed) ∧
      (t.engine = .stopped → s.engine ≠ .stopped → t.steps.get ax = handed.drop) := by
  have hfolded {x y : State} (h : x.Aside y) : FoldedOrSame x y := h.axes.imp id And.left
  obtain ⟨hd1, he1, hl1, ha1⟩ := kept_of_folded (hfolded hp) ax
  obtain ⟨hd3, he3, hl3, ha3⟩ := kept_of_folded (hfolded hq) ax
  have hforce : t.inForce = s.inForce := by rw [hq.inForce, h.inForce, hp.inForce]
  have hforce' : u.inForce = s.inForce := hp.inForce
  -- Before the engine's turn the drives are as they were, on the way to the park position, or stopped.
  have hunset : s.engine ≠ .unset → u.engine ≠ .unset := by
    intro hs
    rcases hp.drives with ⟨he, _⟩ | ⟨he, _⟩ | ⟨he, _⟩ <;> rw [he]
    · exact hs
    · exact nofun
    · exact nofun
  have hparked : s.engine ≠ .parked → u.engine ≠ .parked := by
    intro hs
    rcases hp.drives with ⟨he, _⟩ | ⟨he, _⟩ | ⟨he, _⟩ <;> rw [he]
    · exact hs
    · exact nofun
    · exact nofun
  have hstill : s.engine = .unset ∨ s.engine = .parked ∨ s.engine = .stopped →
      u.engine = .unset ∨ u.engine = .parked ∨ u.engine = .stopped := by
    intro hs
    rcases hp.drives with ⟨he, _⟩ | ⟨_, ⟨h1, h2, h3⟩, _⟩ | ⟨he, _⟩
    · rw [he]; exact hs
    · rcases hs with hs | hs | hs <;> contradiction
    · exact .inr (.inr he)
  have hrun : t.engine ≠ .stopped → u.engine ≠ .stopped := by
    intro ht hu
    rcases hq.drives with ⟨he, _⟩ | ⟨_, ⟨_, h2, _⟩, _⟩ | ⟨he, _⟩
    · exact ht (he.trans (h.stands hu))
    · exact h2 (h.stands hu)
    · exact ht he
  have hle : -(t.inForce.stepMax.get ax) ≤ (t.axes.get ax).emitted - (s.axes.get ax).emitted ∧
      (t.axes.get ax).emitted - (s.axes.get ax).emitted ≤ t.inForce.stepMax.get ax := by
    rw [he3, ← he1, hforce]
    by_cases hu : u.engine = .unset ∨ u.engine = .parked ∨ u.engine = .stopped
    · rw [h.still hu]
      omega
    · obtain ⟨h1, h2⟩ := not_or.1 hu
      obtain ⟨h2, h3⟩ := not_or.1 h2
      rw [h.moves h1 h2 h3, hforce']
      exact clampAbs_mem (by omega) _
  refine ⟨(magnitude_le_iff _ _).2 hle, fun hs => ?_, ?_, fun hs ht => ?_, fun hs hs' ht => ?_, fun ht => ?_, fun ht hs => ?_⟩
  · rw [he3, h.still (hstill hs), he1]
  · rcases ha3 with ha3 | ha3
    · rw [ha3, hforce]
      rcases hp.axes with hsame | ⟨hfold, hdown⟩
      · rw [← hsame, ← hforce']
        exact h.applied
      · refine .inl (h.parks hdown ?_)
        rw [hfold, get_map]
        rfl
    · exact .inl ha3
  · rw [hl3, hd3, he3]
    exact h.lag (hunset hs) (hrun ht)
  · have hmoved := h.moves (hunset hs) (hparked hs') (hrun ht)
    rw [clampAbs_eq (by rw [hforce']; omega), hforce', he1] at hmoved
    rw [he3, hd3, hforce]
    omega
  · have hlast : t.steps = v.steps := by
      rcases hq.drives with ⟨_, hst⟩ | ⟨_, _, hst⟩ | ⟨he, hne, _⟩
      · exact hst
      · exact hst
      · rcases ht with ht | ht
        · exact absurd he ht
        · rcases hp.drives with ⟨he', _⟩ | ⟨_, ⟨_, h2, _⟩, _⟩ | ⟨_, h2, _⟩
          · exact absurd (h.stands (he'.trans ht)) hne
          · exact absurd ht h2
          · exact absurd ht h2
    have hfirst : u.steps = s.steps := by
      rcases hp.drives with ⟨_, hst⟩ | ⟨_, _, hst⟩ | ⟨he, hne, _⟩
      · exact hst
      · exact hst
      · rcases ht with ht | ht
        · exact absurd he (hrun ht)
        · exact absurd ht hne
    rw [hlast, h.steps, hfirst, he1, he3]
  · rcases hp.drives with ⟨he, hst⟩ | ⟨he, _, hst⟩ | ⟨he, _, hst⟩
    all_goals rcases hq.drives with ⟨he', hst'⟩ | ⟨he', hne', hst'⟩ | ⟨he', hne', hst'⟩
    · exact absurd (he'.symm.trans ht) (h.runs (he ▸ hs))
    · rw [he'] at ht; cases ht
    · rw [hst', get_map, h.steps, hst, he1, he3]
    · exact absurd (he'.symm.trans ht) (h.runs (by rw [he]; exact nofun))
    · rw [he'] at ht; cases ht
    · rw [hst', get_map, h.steps, hst, he1, he3]
    · have hzero := h.still (.inr (.inr he))
      rw [hst', h.steps, hst, get_map, he3, hzero, he1, Int.sub_self]
      rfl
    · exact absurd (h.stands he) hne'.2.1
    · exact absurd (h.stands he) hne'

/-- Settles O27: the other blocks' turns leave the drives, park them or stop them, and the engine's turn steps them once. -/
theorem demandEventBoundsStepAndBlend : Obligations.DemandEventBoundsStepAndBlend := by
  intro levels order s t hlaw hexec ax
  have ht : s.demandEvent levels order = t := by
    rw [exec_demandEvent] at hexec
    injection hexec
  by_cases hcount : s.counting
  · obtain ⟨hreset, hsome⟩ := hcount
    obtain ⟨n, hn⟩ := Option.isSome_iff_exists.1 hsome
    obtain ⟨pre, post, hpre, hpost, hsplit⟩ := runEvent_split levels order (s.elapse n)
    rw [demandEvent_eq hreset hn, hsplit] at ht
    obtain ⟨y, z, hframe⟩ := elapse_frame n s
    have hitems : itemsLawful ((s.elapse n).openEvent levels).inForce.get := by
      rw [openEvent_inForce, hframe]
      exact hlaw.2
    have hcstep : 0 ≤ ((s.elapse n).openEvent levels).inForce.cstep := Int.le_trans (by decide) (hitems.1 .cstep).1
    have hp := turns_aside hpre ((s.elapse n).openEvent levels)
    have hd := engineTurn_driven (s := pre.foldl State.turn ((s.elapse n).openEvent levels)) (by rw [hp.inForce]; exact hcstep) ax
    have hq := turns_aside hpost (pre.foldl State.turn ((s.elapse n).openEvent levels)).engineTurn
    have hall := Driven.between hp hd hq (hitems.1 (.stepMax ax)).1
    have haxes : ((s.elapse n).openEvent levels).axes = s.axes := by rw [hframe]; rfl
    have hengine : ((s.elapse n).openEvent levels).engine = s.engine := by rw [hframe]; rfl
    have hsteps : ((s.elapse n).openEvent levels).steps.get ax = (s.steps.get ax).pass n := by
      rw [hframe]
      exact get_map _ _ _
    rw [haxes, hengine, hsteps] at hall
    generalize post.foldl State.turn _ = w at ht hall
    obtain ⟨h1, h2, h3, h4, h5, h6, h7⟩ := hall
    subst ht
    refine ⟨h1, h2, h3, fun n' _ hn' => ?_⟩
    rw [hn] at hn'
    cases hn'
    exact ⟨h4, h5, h6, h7⟩
  · rw [demandEvent_of_not_counting hcount] at ht
    subst ht
    have hmax : (1 : Int) ≤ s.inForce.stepMax.get ax := (hlaw.1.1 (.stepMax ax)).1
    have hcstep : (0 : Int) ≤ s.inForce.cstep := Int.le_trans (by decide) (hlaw.1.1 .cstep).1
    refine ⟨?_, fun _ => rfl, .inr ?_, fun n hreset hn => absurd ⟨hreset, by rw [hn]; rfl⟩ hcount⟩
    · rw [Int.sub_self, magnitude_le_iff]
      omega
    · rw [Int.sub_self, magnitude_le_iff]
      omega

end Sys2Proof.Machine

/-! PROOFS. What the operations of a demand event do to the event lines and to the timers noted as run out, and that they
look at neither, nor at the samples the filters hold (R124, R154, R160; log entry 4). -/

namespace Sys2Proof.Machine

variable {s t u : State} {P : Source → Prop} {f g : State → State}

/-! ### The side of a state -/

/-- What the engine does not look at: the event lines, the timers noted as run out and the filters' last samples. -/
structure Side where
  lines : Lines EventLine
  expiries : List Expiry
  previous : Input → Bool

/-- The filters with other samples. -/
def withPrevious (x : Input → Bool) (f : Inputs Filter) : Inputs Filter :=
  ⟨⟨x .driveFaultAz, f.driveFaultAz.level⟩, ⟨x .driveFaultEl, f.driveFaultEl.level⟩, ⟨x .driveFaultRot, f.driveFaultRot.level⟩,
    ⟨x .limitSwitch, f.limitSwitch.level⟩, ⟨x .instHold, f.instHold.level⟩, ⟨x .shelter, f.shelter.level⟩⟩

/-- A state with another side. -/
def State.withSide (σ : Side) (s : State) : State :=
  { s with lines := σ.lines, expiries := σ.expiries, inputs := withPrevious σ.previous s.inputs }

/-- The side of a state. -/
def State.side (s : State) : Side := ⟨s.lines, s.expiries, fun i => (s.inputs.get i).previous⟩

/-- Sources that give their events one after another, at a demand event or not (R160). -/
def giveAll (due : Bool) (gs : List Source) (x : Lines EventLine) : Lines EventLine :=
  gs.foldl (fun x src => x.map (EventLine.receive due src)) x

/-- A side after events given and timers run out. -/
def Side.after (due : Bool) (gs : List Source) (xs : List Expiry) (σ : Side) : Side :=
  { σ with lines := giveAll due gs σ.lines, expiries := σ.expiries ++ xs }

theorem withSide_side (s : State) : s.withSide s.side = s := by
  have h : withPrevious (fun i => (s.inputs.get i).previous) s.inputs = s.inputs := rfl
  unfold State.withSide State.side
  dsimp only
  rw [h]

theorem giveAll_append (due : Bool) (gs gs' : List Source) (x : Lines EventLine) :
    giveAll due (gs ++ gs') x = giveAll due gs' (giveAll due gs x) := List.foldl_append

theorem Side.after_after (due : Bool) (gs gs' : List Source) (xs xs' : List Expiry) (σ : Side) :
    (σ.after due gs xs).after due gs' xs' = σ.after due (gs ++ gs') (xs ++ xs') := by
  unfold Side.after
  rw [giveAll_append, List.append_assoc]

theorem Side.after_nil (due : Bool) (σ : Side) : σ.after due [] [] = σ := by
  unfold Side.after
  rw [List.append_nil]
  rfl

/-! ### Operations that give events and note timers, and look at neither -/

/-- At a state, an operation takes no mount time, gives events of certain sources to the lines and notes timers, and does
so whatever the side is. -/
def ActsAt (P : Source → Prop) (f : State → State) (s : State) : Prop :=
  (f s).time = s.time ∧ ∃ gs xs, (∀ src ∈ gs, P src) ∧
    ∀ σ, f (s.withSide σ) = (f s).withSide (σ.after s.time.eventDue gs xs)

theorem ActsAt.plain (ht : (f s).time = s.time) (h : ∀ σ, f (s.withSide σ) = (f s).withSide σ) : ActsAt P f s :=
  ⟨ht, [], [], nofun, fun σ => by rw [h, Side.after_nil]⟩

theorem ActsAt.mono {Q : Source → Prop} (hPQ : ∀ src, P src → Q src) (h : ActsAt P f s) : ActsAt Q f s := by
  obtain ⟨ht, gs, xs, hP, h⟩ := h
  exact ⟨ht, gs, xs, fun src hs => hPQ src (hP src hs), h⟩

theorem ActsAt.comp (hg : ActsAt P g (f s)) (hf : ActsAt P f s) : ActsAt P (fun s => g (f s)) s := by
  obtain ⟨ht, gs, xs, hP, h⟩ := hf
  obtain ⟨ht', gs', xs', hP', h'⟩ := hg
  refine ⟨ht'.trans ht, gs ++ gs', xs ++ xs', fun src hs => ?_, fun σ => ?_⟩
  · rcases List.mem_append.1 hs with hs | hs
    · exact hP src hs
    · exact hP' src hs
  · dsimp only
    rw [h, h', ht, Side.after_after]

theorem ActsAt.congr (h : ∀ σ, f (s.withSide σ) = g (s.withSide σ)) (hg : ActsAt P g s) : ActsAt P f s := by
  have hs : f s = g s := by
    have := h s.side
    rwa [withSide_side] at this
  unfold ActsAt
  rw [hs]
  obtain ⟨ht, gs, xs, hP, hg⟩ := hg
  exact ⟨ht, gs, xs, hP, fun σ => (h σ).trans (hg σ)⟩

theorem ActsAt.ite {c : State → Prop} [∀ s, Decidable (c s)] (hc : ∀ σ, c (s.withSide σ) ↔ c s)
    (hf : c s → ActsAt P f s) (hg : ¬ c s → ActsAt P g s) : ActsAt P (fun s => if c s then f s else g s) s := by
  by_cases h : c s
  · exact .congr (fun σ => if_pos ((hc σ).2 h)) (hf h)
  · exact .congr (fun σ => if_neg (mt (hc σ).1 h)) (hg h)

theorem ActsAt.id : ActsAt P (fun s => s) s := .plain rfl fun _ => rfl

theorem acts_give {src : Source} (h : P src) : ActsAt P (State.give src) s :=
  ⟨rfl, [src], [], fun x hx => by rw [List.mem_singleton.1 hx]; exact h, fun σ => by
    unfold Side.after
    rw [List.append_nil]
    rfl⟩

theorem acts_ranOut (x : Expiry) : ActsAt P (State.ranOut x) s := ⟨rfl, [], [x], nofun, fun _ => rfl⟩

/-! ### The ends -/

theorem acts_setOnTarget {b : Bool} (h : P (if b then .onTargetRise else .onTargetFall)) : ActsAt P (State.setOnTarget b) s := by
  refine .congr (g := fun s => if s.onTarget = b then s
    else State.give (if b then .onTargetRise else .onTargetFall) (State.raise .onTarget { s with onTarget := b }))
    (fun _ => rfl) (.ite (fun _ => Iff.rfl) (fun _ => .id) fun _ => ?_)
  exact .comp (f := fun s => State.raise .onTarget { s with onTarget := b }) (acts_give h) (.plain rfl fun _ => rfl)

/-- The ACTIVE entry written ENDED and reported, before the event lines and ON_TARGET hear of it (R28). -/
def State.endWritten (o : EndOutcome) (e : Entry) (s : State) : State :=
  let s2 := ((s.discardMailbox.withGuideState .off).foldAxes).onActive (Entry.finish o s.time.mountTime)
  { s2 with free := s2.free + e.chain.length }.reportEnd e.record.id o

theorem endActive_of_some {e : Entry} (he : s.activeEntry = some e) (o : EndOutcome) :
    s.endActive o = State.setOnTarget false (State.give .targetEnd (s.endWritten o e)) := by
  unfold State.endActive
  rw [he]
  rfl

theorem acts_endActive (h : P .targetEnd) (h' : P .onTargetFall) (o : EndOutcome) : ActsAt P (State.endActive o) s := by
  cases he : s.activeEntry with
  | none => exact .congr (g := fun s => s) (fun σ => State.endActive_none (s.withSide σ) o he) .id
  | some e =>
    refine .congr (g := fun s => State.setOnTarget false (State.give .targetEnd (s.endWritten o e)))
      (fun σ => endActive_of_some (s := s.withSide σ) he o) ?_
    refine .comp (f := fun s => State.give .targetEnd (s.endWritten o e)) (acts_setOnTarget h') ?_
    exact .comp (f := State.endWritten o e) (acts_give h) (.plain rfl fun _ => rfl)

/-- The drives off and the night over (R170). -/
def State.halted (s : State) : State := (((s.zeroGuide.enter .stopped).dropPulses).withNightFlag false).withReason none

theorem acts_halted : ActsAt P State.halted s := .plain rfl fun _ => rfl

theorem acts_enterParking : ActsAt P State.enterParking s := .plain rfl fun _ => rfl

theorem acts_faultStopped (h : P .targetEnd) (h' : P .onTargetFall) : ActsAt P State.faultStopped s :=
  .comp (f := State.endActive .fault) (g := State.halted) acts_halted (acts_endActive h h' .fault)

theorem acts_owesPark : ActsAt P State.owesPark s :=
  .ite (c := fun s => s.enclosure.shelter = true) (fun _ => Iff.rfl) (fun _ => .plain rfl fun _ => rfl) fun _ => .id

theorem acts_faultEvent (h : P .targetEnd) (h' : P .onTargetFall) (hf : P .fault) (k : FaultKind) :
    ActsAt P (State.faultEvent k) s := by
  by_cases he : s.engine = .stopped
  · refine .plain (by simp) fun σ => ?_
    rw [faultEvent_stopped k he, faultEvent_stopped k (show (s.withSide σ).engine = .stopped from he)]
    rfl
  · refine .congr (g := fun s => State.give .fault (State.raise .fault (s.faultRecorded k).faultStopped.owesPark))
      (fun σ => faultEvent_of_ne (s := s.withSide σ) k he) ?_
    refine .comp (f := fun s => State.raise .fault (s.faultRecorded k).faultStopped.owesPark) (acts_give hf) ?_
    refine .comp (f := fun s => (s.faultRecorded k).faultStopped.owesPark) (g := State.raise .fault) (.plain rfl fun _ => rfl) ?_
    refine .comp (f := fun s => (s.faultRecorded k).faultStopped) acts_owesPark ?_
    exact .comp (f := State.faultRecorded k) (acts_faultStopped h h') (.plain rfl fun _ => rfl)

theorem acts_endPark (h : P .targetEnd) (h' : P .onTargetFall) (o : EndOutcome) :
    ActsAt P (fun s => (s.endActive o).enterParking) s :=
  .comp (f := State.endActive o) (g := State.enterParking) acts_enterParking (acts_endActive h h' o)

theorem acts_shelterRise (h : P .targetEnd) (h' : P .onTargetFall) : ActsAt P State.shelterRise s := by
  have rise (σ : Side) : (s.withSide σ).shelterRise =
      match s.engine with
      | .slewing _ _ | .settling _ | .tracking _ | .holding _ => ((s.withSide σ).endActive .shelter).enterParking
      | .idle | .waiting | .stopping _ => (s.withSide σ).enterParking
      | .parking | .parked => s.withSide σ
      | .unset | .stopped => (s.withSide σ).withParkOwed true := by
    unfold State.shelterRise
    rw [show (s.withSide σ).engine = s.engine from rfl] <;> (cases s.engine <;> rfl)
  have hend := acts_endPark (s := s) h h' .shelter
  have hpark := acts_enterParking (P := P) (s := s)
  have howed : ActsAt P (State.withParkOwed true) s := .plain rfl fun _ => rfl
  cases he : s.engine <;> rw [he] at rise
  case slewing => exact .congr rise hend
  case settling => exact .congr rise hend
  case tracking => exact .congr rise hend
  case holding => exact .congr rise hend
  case idle => exact .congr rise hpark
  case waiting => exact .congr rise hpark
  case stopping => exact .congr rise hpark
  case parking => exact .congr rise .id
  case parked => exact .congr rise .id
  case unset => exact .congr rise howed
  case stopped => exact .congr rise howed

theorem acts_formShelter (h : P .targetEnd) (h' : P .onTargetFall) : ActsAt P State.formShelter s := by
  refine .ite (c := fun s => s.shelterSources = s.enclosure.shelter) (fun _ => Iff.rfl) (fun _ => .id) fun _ => ?_
  refine .ite (c := fun s => s.shelterSources = true) (f := fun s => s.shelterEdge.shelterRise)
    (g := fun s => s.shelterEdge.withParkOwed false) (fun _ => Iff.rfl) (fun _ => ?_) fun _ => ?_
  · exact .comp (f := State.shelterEdge) (acts_shelterRise h h') (.plain rfl fun _ => rfl)
  · exact .plain rfl fun _ => rfl

end Sys2Proof.Machine

/-! PROOFS. The engine's turn gives its events and notes its timers whatever the event lines are (R72, R124, R160). -/

namespace Sys2Proof.Machine

variable {s t u : State} {P : Source → Prop} {f g : State → State}

/-! ### Selection -/

theorem acts_wait (r : WaitReason) (b : Bool) : ActsAt P (State.wait r b) s := by
  refine .plain (by unfold State.wait; dsimp only; split <;> split <;> rfl) fun σ => ?_
  unfold State.wait
  dsimp only
  by_cases h : r = .nonePending ∧ s.waitReason ≠ some .nonePending
  · rw [if_pos h, if_pos (show r = .nonePending ∧ (s.withSide σ).waitReason ≠ some .nonePending from h)]
    cases b <;> rfl
  · rw [if_neg h, if_neg (show ¬ (r = .nonePending ∧ (s.withSide σ).waitReason ≠ some .nonePending) from h)]
    cases b <;> rfl

/-- The first PENDING entry started, before TARGET_START is given (R27, R60, R106). -/
def State.started (e : Entry) (k az : Int) (keep : Bool) (s : State) : State :=
  let s1 := (s.onPending (Entry.activate s.time.mountTime k)).enter (.slewing 0 (az + k * fullTurn))
  let s2 := { s1 with model := { s1.model with pageInUse := e.record.station } }
  let s3 := State.raise .targetStart (s2.withReason none)
  let s4 := { s3 with notices := { s3.notices with recentStart := some e.record.id } }
  if keep then s4 else s4.zeroGuide

theorem start_eq (e : Entry) (k az : Int) (keep : Bool) (s : State) :
    s.start e k az keep = State.give .targetStart (s.started e k az keep) := rfl

theorem acts_start (h : P .targetStart) (e : Entry) (k az : Int) (keep : Bool) :
    ActsAt P (fun s => s.start e k az keep) s := by
  refine .comp (f := fun s => s.started e k az keep) (acts_give h) (.plain ?_ fun σ => ?_)
  · cases keep <;> rfl
  · cases keep <;> rfl

theorem acts_scan (h : P .targetStart) (b : Bool) (n : Nat) : ActsAt P (State.scan b n) s := by
  induction n generalizing s with
  | zero => exact acts_wait _ _
  | succ n ih =>
    have hfirst (σ : Side) : (s.withSide σ).firstPending = s.firstPending := rfl
    cases hp : s.firstPending with
    | none =>
      refine .congr (g := State.wait .nonePending b) (fun σ => ?_) (acts_wait _ _)
      unfold State.scan
      rw [hfirst, hp]
    | some e =>
      have hwindow (σ : Side) : windowVerdict (s.withSide σ).time.mountTime e.record = windowVerdict s.time.mountTime e.record := rfl
      have hscan (σ : Side) : State.scan b (n + 1) (s.withSide σ) =
          match windowVerdict s.time.mountTime e.record with
          | some (.ends o) => State.scan b n ((s.withSide σ).endPending o e)
          | some (.waits r) => (s.withSide σ).wait r b
          | some (.starts _ _) => s.withSide σ
          | none =>
            match (s.releaseStale e).chainVerdict (e.releaseStale s.time.mountTime) with
            | .ends o => State.scan b n (((s.withSide σ).releaseStale e).endPending o (e.releaseStale s.time.mountTime))
            | .waits r => ((s.withSide σ).releaseStale e).wait r b
            | .starts k az =>
              ((s.withSide σ).releaseStale e).start (e.releaseStale s.time.mountTime) k az (b && e.record.carryGuide) := by
        conv_lhs => unfold State.scan
        rw [hfirst, hp]
        dsimp only
        have hverdict : ((s.withSide σ).releaseStale e).chainVerdict (e.releaseStale (s.withSide σ).time.mountTime) =
            (s.releaseStale e).chainVerdict (e.releaseStale s.time.mountTime) := rfl
        rw [hwindow, hverdict] <;> rcases windowVerdict s.time.mountTime e.record with _ | _ | _ | _ <;>
          cases (s.releaseStale e).chainVerdict (e.releaseStale s.time.mountTime) <;> rfl
      have hrelease : ActsAt P (fun s => s.releaseStale e) s := .plain rfl fun _ => rfl
      cases hw : windowVerdict s.time.mountTime e.record with
      | some v =>
        rw [hw] at hscan
        cases v with
        | ends o =>
          exact .congr hscan (.comp (f := fun s => s.endPending o e) (g := State.scan b n) ih (.plain rfl fun _ => rfl))
        | waits r => exact .congr hscan (acts_wait r b)
        | starts k az => exact .congr hscan .id
      | none =>
        rw [hw] at hscan
        cases hv : (s.releaseStale e).chainVerdict (e.releaseStale s.time.mountTime) with
        | ends o =>
          rw [hv] at hscan
          exact .congr hscan
            (.comp (f := fun s => (s.releaseStale e).endPending o (e.releaseStale s.time.mountTime)) (g := State.scan b n)
              ih (.plain rfl fun _ => rfl))
        | waits r =>
          rw [hv] at hscan
          exact .congr hscan (.comp (f := fun s => s.releaseStale e) (acts_wait r b) hrelease)
        | starts k az =>
          rw [hv] at hscan
          exact .congr hscan
            (.comp (f := fun s => s.releaseStale e) (g := fun v => v.start (e.releaseStale s.time.mountTime) k az (b && e.record.carryGuide))
              (acts_start h _ k az _) hrelease)

theorem acts_select (h : P .targetStart) (b : Bool) : ActsAt P (State.select b) s :=
  .congr (g := State.scan b (s.night.entries.length + 1)) (fun _ => rfl) (acts_scan h b _)

/-! ### The stages -/

/-- A full mailbox taken, before GUIDE_TAKE is given (R130). -/
def State.mailTaken (m : Mailbox) (s : State) : State :=
  let sum := s.guide.offset.map₂ (· + ·) m.correction
  let g := sum.map (clampAbs s.inForce.guideRange)
  let saturated : Nat := if g = sum then 0 else 1
  let s1 := s.onActive <| Entry.onTally fun y =>
    { y with
      guideSaturations := count32 y.guideSaturations saturated
      guideTaken := count32 y.guideTaken 1
      guideMerged := count32 y.guideMerged m.merges }
  s1.withGuide { s1.guide with mailbox := none, offset := g }

theorem takeMailbox_of_some {m : Mailbox} (h : s.guide.mailbox = some m) :
    s.takeMailbox = State.give .guideTake (s.mailTaken m) := by
  unfold State.takeMailbox
  rw [h]
  rfl

theorem takeMailbox_of_none (h : s.guide.mailbox = none) : s.takeMailbox = s := by
  unfold State.takeMailbox
  rw [h]

theorem acts_takeMailbox (h : P .guideTake) : ActsAt P State.takeMailbox s := by
  cases hm : s.guide.mailbox with
  | none => exact .congr (g := fun s => s) (fun σ => takeMailbox_of_none (s := s.withSide σ) hm) .id
  | some m =>
    refine .congr (g := fun s => State.give .guideTake (s.mailTaken m)) (fun σ => takeMailbox_of_some (s := s.withSide σ) hm) ?_
    exact .comp (f := State.mailTaken m) (acts_give h) (.plain rfl fun _ => rfl)

theorem acts_countGuide : ActsAt P State.countGuide s := by
  have hcount (σ : Side) : (s.withSide σ).countGuide =
      match s.guide.state with
      | .guiding n =>
        if s.inForce.guideTimeout ≤ (n + 1 : Nat) then
          (State.raise .guide ((s.withSide σ).withGuideState .lost)).ranOut .guideLost
        else (s.withSide σ).withGuideState (.guiding (n + 1))
      | .off | .seeking | .lost => s.withSide σ := by
    unfold State.countGuide
    rw [show (s.withSide σ).guide = s.guide from rfl] <;> (cases s.guide.state <;> rfl)
  cases hg : s.guide.state with
  | guiding n =>
    rw [hg] at hcount
    dsimp only at hcount
    by_cases h : s.inForce.guideTimeout ≤ (n + 1 : Nat)
    · simp only [if_pos h] at hcount
      exact .congr hcount (.comp (f := fun s => State.raise .guide (s.withGuideState .lost)) (acts_ranOut _) (.plain rfl fun _ => rfl))
    · simp only [if_neg h] at hcount
      exact .congr hcount (.plain rfl fun _ => rfl)
  | off => rw [hg] at hcount; exact .congr hcount .id
  | seeking => rw [hg] at hcount; exact .congr hcount .id
  | lost => rw [hg] at hcount; exact .congr hcount .id

theorem acts_guideStage (h : P .guideTake) (runout : Bool) : ActsAt P (State.guideStage runout) s := by
  refine .ite (c := fun s => s.engine.followsTarget = true) (f := fun s => (if runout then s else s.takeMailbox).countGuide)
    (fun _ => Iff.rfl) (fun _ => ?_) fun _ => .id
  exact .comp (f := fun s => if runout then s else s.takeMailbox) acts_countGuide
    (.ite (c := fun _ => runout = true) (fun _ => Iff.rfl) (fun _ => .id) fun _ => acts_takeMailbox h)

theorem acts_blendStage (h : P .guideTake) (runout : Bool) : ActsAt P (State.blendStage runout) s :=
  .comp (f := State.guideStage runout)
    (g := fun s => { s with axes := (s.wantedOf runout).map₂ (AxisState.blend s.inForce.cstep) s.axes })
    (.plain rfl fun _ => rfl) (acts_guideStage h runout)

/-- The report one millisecond older, and the judgement of it (R141, R142). -/
def State.judged (r : EncReport) (s : State) : State :=
  let r' := { r with age := saturate 600001 r.age 1 }
  { s with
    enclosure :=
      { s.enclosure with
        report := some r', alignment := judge s.inForce.encTimeout s.inForce.encTol r' s.axes.az.demand } }

theorem judgeAlignment_of_some {r : EncReport} (h : s.enclosure.report = some r) :
    s.judgeAlignment =
      if (s.judged r).enclosure.alignment = .unknown ∧ s.enclosure.alignment ≠ .unknown then (s.judged r).ranOut .encReport
      else s.judged r := by
  unfold State.judgeAlignment
  rw [h]
  rfl

theorem acts_judgeAlignment : ActsAt P State.judgeAlignment s := by
  cases hr : s.enclosure.report with
  | none =>
    have hnone (v : State) (h : v.enclosure.report = none) :
        v.judgeAlignment = { v with enclosure := { v.enclosure with alignment := .unknown } } := by
      unfold State.judgeAlignment
      rw [h]
    refine .congr (g := fun v => { v with enclosure := { v.enclosure with alignment := .unknown } })
      (fun σ => hnone (s.withSide σ) hr) (.plain rfl fun _ => rfl)
  | some r =>
    refine .congr
      (g := fun s => if (s.judged r).enclosure.alignment = .unknown ∧ s.enclosure.alignment ≠ .unknown then
        (s.judged r).ranOut .encReport else s.judged r)
      (fun σ => judgeAlignment_of_some (s := s.withSide σ) hr) ?_
    refine .ite (c := fun s => (s.judged r).enclosure.alignment = .unknown ∧ s.enclosure.alignment ≠ .unknown)
      (f := fun s => (s.judged r).ranOut .encReport) (g := fun s => s.judged r) (fun _ => Iff.rfl) (fun _ => ?_) fun _ => ?_
    · exact .comp (f := State.judged r) (acts_ranOut _) (.plain rfl fun _ => rfl)
    · exact .plain rfl fun _ => rfl

theorem acts_onActive (k : Entry → Entry) : ActsAt P (State.onActive k) s := .plain rfl fun _ => rfl

theorem acts_evaluateOnTarget (h : P .onTargetRise) (h' : P .onTargetFall) (runout : Bool) :
    ActsAt P (State.evaluateOnTarget runout) s := by
  have heval (σ : Side) : (s.withSide σ).evaluateOnTarget runout =
      if s.onTargetNow runout then
        ((s.withSide σ).setOnTarget true).onActive (Entry.onTally fun y => { y with onTargetMs := count32 y.onTargetMs 1 })
      else (s.withSide σ).setOnTarget false := by
    unfold State.evaluateOnTarget
    rw [show (s.withSide σ).onTargetNow runout = s.onTargetNow runout from rfl] <;>
      (cases s.onTargetNow runout <;> rfl)
  cases hb : s.onTargetNow runout with
  | true =>
    simp only [hb, if_true] at heval
    exact .congr heval (.comp (f := State.setOnTarget true) (acts_onActive _) (acts_setOnTarget h))
  | false =>
    simp only [hb, Bool.false_eq_true, if_false] at heval
    exact .congr heval (acts_setOnTarget h')

/-! ### The decisions -/

theorem acts_capture (h : P .capture) : ActsAt P State.capture s := by
  have hgive : ActsAt P (fun s => State.give .capture ((s.enter (.settling 0)).onActive fun e =>
      { e.withPhase .settling with results := { e.results with capturedAt := some s.time.mountTime } })) s :=
    .comp (g := State.give .capture) (acts_give h) (.plain rfl fun _ => rfl)
  refine .ite (c := fun s => (s.activeEntry.any fun e => e.record.guided) = true) (fun _ => Iff.rfl) (fun _ => ?_) fun _ => hgive
  exact .comp (g := State.withGuideState .seeking) (.plain rfl fun _ => rfl) hgive

theorem acts_settleEnds (h : P .trackStart) : ActsAt P State.settleEnds s := by
  have hgive : ActsAt P (fun s => State.give .trackStart ((s.enter (.tracking 0)).onActive fun e =>
      { e.withPhase .tracking with results := { e.results with trackingFrom := some s.time.mountTime } })) s :=
    .comp (g := State.give .trackStart) (acts_give h) (.plain rfl fun _ => rfl)
  exact .comp (g := State.ranOut .settleEnd) (acts_ranOut _) hgive

section
variable (hend : P .targetEnd) (hfall : P .onTargetFall) (hstart : P .targetStart)
include hend hfall hstart

theorem acts_endAndSelect (o : EndOutcome) : ActsAt P (State.endAndSelect o) s :=
  .comp (f := State.endActive o) (acts_select hstart true) (acts_endActive hend hfall o)

theorem acts_dwellEnds (hdwell : P .dwellEnd) (n : Nat) : ActsAt P (State.dwellEnds n) s := by
  have hgive : ActsAt P (fun s => (State.give .dwellEnd s).ranOut .dwellEnd) s :=
    .comp (f := State.give .dwellEnd) (acts_ranOut _) (acts_give hdwell)
  refine .ite (c := fun s => s.inputs.instHold.level = true ∧ 0 < (s.activeEntry.map fun e => e.record.maxHold).getD 0)
    (f := fun s => (((State.give .dwellEnd s).ranOut .dwellEnd).enter (.holding n)).onActive (Entry.withPhase .holding))
    (g := fun s => ((State.give .dwellEnd s).ranOut .dwellEnd).endAndSelect .complete)
    (fun _ => Iff.rfl) (fun _ => ?_) fun _ => ?_
  · exact .comp (g := fun v => (v.enter (.holding n)).onActive (Entry.withPhase .holding)) (.plain rfl fun _ => rfl) hgive
  · exact .comp (acts_endAndSelect hend hfall hstart _) hgive

theorem acts_decideSlewing (hcapture : P .capture) (b : BaseStage) (n : Nat) : ActsAt P (State.decideSlewing b n) s := by
  refine .ite (c := fun _ => b.runout = true) (fun _ => Iff.rfl) (fun _ => acts_endAndSelect hend hfall hstart _) fun _ => ?_
  refine .ite (c := fun _ => b.offLimits = true) (fun _ => Iff.rfl) (fun _ => acts_endAndSelect hend hfall hstart _) fun _ => ?_
  refine .ite (c := fun _ => b.capture = true) (fun _ => Iff.rfl) (fun _ => acts_capture hcapture) fun _ => ?_
  refine .ite (c := fun s => s.inForce.slewTimeout ≤ (n : Int)) (f := fun s => (s.ranOut .slewTimeout).endAndSelect .slewTimeout)
    (fun _ => Iff.rfl) (fun _ => ?_) fun _ => .id
  exact .comp (acts_endAndSelect hend hfall hstart _) (acts_ranOut _)

theorem acts_decideSettling (htrack : P .trackStart) (runout clamped : Bool) (n : Nat) :
    ActsAt P (State.decideSettling runout clamped n) s := by
  refine .ite (c := fun _ => runout = true) (fun _ => Iff.rfl) (fun _ => acts_endAndSelect hend hfall hstart _) fun _ => ?_
  refine .ite (c := fun _ => clamped = true) (fun _ => Iff.rfl) (fun _ => acts_endAndSelect hend hfall hstart _) fun _ => ?_
  exact .ite (c := fun s => s.inForce.settleTime ≤ (n + 1 : Nat)) (fun _ => Iff.rfl) (fun _ => acts_settleEnds htrack)
    fun _ => .plain rfl fun _ => rfl

theorem acts_decideTracking (hdwell : P .dwellEnd) (runout clamped : Bool) (n : Nat) :
    ActsAt P (State.decideTracking runout clamped n) s := by
  refine .ite (c := fun _ => runout = true) (fun _ => Iff.rfl) (fun _ => acts_endAndSelect hend hfall hstart _) fun _ => ?_
  refine .ite (c := fun _ => clamped = true) (fun _ => Iff.rfl) (fun _ => acts_endAndSelect hend hfall hstart _) fun _ => ?_
  exact .ite (c := fun s => (s.activeEntry.map fun e => e.record.dwell).getD 0 ≤ n + 1) (fun _ => Iff.rfl)
    (fun _ => acts_dwellEnds hend hfall hstart hdwell _) fun _ => .plain rfl fun _ => rfl

theorem acts_decideHolding (runout clamped : Bool) : ActsAt P (State.decideHolding runout clamped) s := by
  have hcounted : ActsAt P (fun s => if s.inputs.instHold.level then s.countHold else s) s :=
    .ite (c := fun s => s.inputs.instHold.level = true) (fun _ => Iff.rfl) (fun _ => .plain rfl fun _ => rfl) fun _ => .id
  have hends (o : EndOutcome) : ActsAt P (fun s => (if s.inputs.instHold.level then s.countHold else s).endAndSelect o) s :=
    .comp (acts_endAndSelect hend hfall hstart o) hcounted
  refine .ite (c := fun _ => runout = true) (fun _ => Iff.rfl) (fun _ => hends _) fun _ => ?_
  refine .ite (c := fun _ => clamped = true) (fun _ => Iff.rfl) (fun _ => hends _) fun _ => ?_
  refine .ite (c := fun s => s.inputs.instHold.level = true) (fun _ => Iff.rfl) (fun _ => ?_) fun _ => hends _
  refine .comp (f := fun s => if s.inputs.instHold.level then s.countHold else s)
    (g := fun v => if v.holdSpent then (v.ranOut .holdExpired).endAndSelect .holdExpired else v) ?_ hcounted
  refine .ite (c := fun v => v.holdSpent = true) (f := fun v => (v.ranOut .holdExpired).endAndSelect .holdExpired)
    (fun _ => Iff.rfl) (fun _ => ?_) fun _ => .id
  exact .comp (acts_endAndSelect hend hfall hstart _) (acts_ranOut _)

/-- The decisions give no whole-second mark, nor a guide or fault event (R124). -/
theorem acts_takeDecision (hcapture : P .capture) (htrack : P .trackStart) (hdwell : P .dwellEnd) (hparked : P .parked)
    (b : BaseStage) (clamped : Bool) : ActsAt P (State.takeDecision b clamped) s := by
  have decide (σ : Side) : (s.withSide σ).takeDecision b clamped =
      match s.engine with
      | .slewing timer _ => (s.withSide σ).decideSlewing b timer
      | .settling timer => (s.withSide σ).decideSettling b.runout clamped timer
      | .tracking count => (s.withSide σ).decideTracking b.runout clamped count
      | .holding _ => (s.withSide σ).decideHolding b.runout clamped
      | .stopping dest => if s.axes.all (fun a => a.vel = 0) then (s.withSide σ).arrive dest else s.withSide σ
      | .parking => if b.capture then (s.withSide σ).parkArrives else s.withSide σ
      | .waiting => (s.withSide σ).select false
      | .idle | .parked | .unset | .stopped => s.withSide σ := by
    unfold State.takeDecision
    rw [show (s.withSide σ).engine = s.engine from rfl] <;> (cases s.engine <;> rfl)
  cases he : s.engine with
  | slewing timer az => rw [he] at decide; exact .congr decide (acts_decideSlewing hend hfall hstart hcapture b timer)
  | settling timer => rw [he] at decide; exact .congr decide (acts_decideSettling hend hfall hstart htrack _ _ timer)
  | tracking count => rw [he] at decide; exact .congr decide (acts_decideTracking hend hfall hstart hdwell _ _ count)
  | holding n => rw [he] at decide; exact .congr decide (acts_decideHolding hend hfall hstart _ _)
  | stopping dest =>
    rw [he] at decide
    refine .congr (g := fun s => if s.axes.all (fun a => a.vel = 0) then s.arrive dest else s) decide ?_
    refine .ite (c := fun s => s.axes.all (fun a => a.vel = 0) = true) (fun _ => Iff.rfl) (fun _ => ?_) fun _ => .id
    cases dest <;> exact .plain rfl fun _ => rfl
  | parking =>
    rw [he] at decide
    refine .congr (g := fun s => if b.capture then s.parkArrives else s) decide ?_
    refine .ite (c := fun _ => b.capture = true) (fun _ => Iff.rfl) (fun _ => ?_) fun _ => .id
    exact .comp (f := fun s => State.raise .night
      ({ s with axes := Axes.of fun ax => (s.axes.get ax).withMotion ⟨s.inForce.park.get ax * fineUnits, 0⟩ }.enter .parked))
      (acts_give hparked) (.plain rfl fun _ => rfl)
  | waiting => rw [he] at decide; exact .congr decide (acts_select hstart false)
  | idle => rw [he] at decide; exact .congr decide .id
  | parked => rw [he] at decide; exact .congr decide .id
  | unset => rw [he] at decide; exact .congr decide .id
  | stopped => rw [he] at decide; exact .congr decide .id

end

/-! ### The engine's turn -/

theorem aim_withSide (σ : Side) (s : State) : (s.withSide σ).aim = s.aim.map fun a => (a.1.withSide σ, a.2) := by
  unfold State.aim
  rw [show (s.withSide σ).activeEntry = s.activeEntry from rfl]
  cases s.activeEntry with
  | none => rfl
  | some e =>
    dsimp only
    cases e.record.kind with
    | fixed p => rfl
    | track =>
      dsimp only
      rw [show (s.withSide σ).time = s.time from rfl]
      cases covering s.time.mountTime e.chain <;> rfl

theorem baseStage_withSide (σ : Side) (s : State) :
    (s.withSide σ).baseStage = { s.baseStage with state := s.baseStage.state.withSide σ } := by
  have htarget : (s.withSide σ).baseTarget = { s.baseTarget with state := s.baseTarget.state.withSide σ } := by
    unfold State.baseTarget
    rw [aim_withSide]
    cases s.aim <;> rfl
  have hslewing (n : Nat) : (s.withSide σ).baseSlewing n = { s.baseSlewing n with state := (s.baseSlewing n).state.withSide σ } := by
    unfold State.baseSlewing
    rw [aim_withSide]
    cases s.aim <;> rfl
  unfold State.baseStage
  rw [show (s.withSide σ).engine = s.engine from rfl]
  cases s.engine with
  | slewing n az => exact hslewing n
  | settling n => exact htarget
  | tracking n => exact htarget
  | holding n => exact htarget
  | _ => rfl

theorem takeDecision_state (b : BaseStage) (v : State) (clamped : Bool) (s : State) :
    s.takeDecision { b with state := v } clamped = s.takeDecision b clamped := rfl

theorem acts_blended (hP : P .guideTake) : ActsAt P State.blended s := by
  refine .congr (g := fun s' => (s'.baseStage.state.correctionStage).blendStage s.baseStage.runout)
    (fun σ => by unfold State.blended; rw [baseStage_withSide]) ?_
  refine .comp (f := fun s => s.baseStage.state.correctionStage) (acts_blendStage hP _) (.plain (by simp) fun σ => ?_)
  rw [baseStage_withSide]
  rfl

theorem acts_evaluated (hP : ∀ src, src = .guideTake ∨ src = .onTargetRise ∨ src = .onTargetFall → P src) :
    ActsAt P State.evaluated s := by
  refine .congr (g := fun s' => ((s'.blended.limitStage.stepStage).judgeAlignment).evaluateOnTarget s.baseStage.runout)
    (fun σ => by rw [evaluated_eq, baseStage_withSide]) ?_
  refine .comp (f := fun s => (s.blended.limitStage.stepStage).judgeAlignment)
    (acts_evaluateOnTarget (hP _ (.inr (.inl rfl))) (hP _ (.inr (.inr rfl))) _) ?_
  refine .comp (f := fun s => s.blended.limitStage.stepStage) acts_judgeAlignment ?_
  exact .comp (f := State.blended) (g := fun s => s.limitStage.stepStage) (.plain rfl fun _ => rfl) (acts_blended (hP _ (.inl rfl)))

/-- The computation of a demand event, with what its base stage decided written out. -/
theorem computeEvent_withSide (σ : Side) (s : State) :
    (s.withSide σ).computeEvent =
      ((s.withSide σ).evaluated.takeDecision s.baseStage s.clampedNow).evaluateCorrection
        s.baseStage.state.axes.az.base s.baseStage.state.axes.el.base := by
  obtain ⟨_, gs, xs, _, hblend⟩ := acts_blended (P := fun _ => True) (s := s) trivial
  have hclamp : (s.withSide σ).clampedNow = s.clampedNow := by
    show (s.withSide σ).blended.clampsAny = s.blended.clampsAny
    rw [hblend]
    rfl
  rw [computeEvent_eq, baseStage_withSide, takeDecision_state, hclamp]
  rfl

/-- The computation of a demand event gives no whole-second mark and no fault event (R124). -/
theorem acts_computeEvent (hP : ∀ src, src ≠ .second → P src) : ActsAt P State.computeEvent s := by
  refine .congr (g := fun s' => (s'.evaluated.takeDecision s.baseStage s.clampedNow).evaluateCorrection
    s.baseStage.state.axes.az.base s.baseStage.state.axes.el.base) (fun σ => computeEvent_withSide σ s) ?_
  have hdecide (v : State) : ActsAt P (State.takeDecision s.baseStage s.clampedNow) v :=
    acts_takeDecision (hP _ nofun) (hP _ nofun) (hP _ nofun) (hP _ nofun) (hP _ nofun) (hP _ nofun) (hP _ nofun) _ _
  have hevaluated : ActsAt P State.evaluated s :=
    acts_evaluated fun src h => hP src (by rcases h with h | h | h <;> rw [h] <;> exact nofun)
  exact .comp (f := fun s' => s'.evaluated.takeDecision s.baseStage s.clampedNow)
    (g := State.evaluateCorrection s.baseStage.state.axes.az.base s.baseStage.state.axes.el.base)
    (.plain rfl fun _ => rfl) (.comp (f := State.evaluated) (hdecide _) hevaluated)

theorem acts_engineTurn (hP : ∀ src, src ≠ .second → P src) : ActsAt P State.engineTurn s := by
  by_cases hdown : s.engine = .unset ∨ s.engine = .stopped
  · exact .congr (fun σ => engineTurn_of_down (s := s.withSide σ) hdown) acts_judgeAlignment
  · obtain ⟨hu, hs⟩ := not_or.1 hdown
    exact .congr (fun σ => engineTurn_of_ne (s := s.withSide σ) hu hs) (acts_computeEvent hP)

end Sys2Proof.Machine

/-! PROOFS. An event line along a demand event (R160 to R163): the events it hears before and after the turn that counts
its timer. -/

namespace Sys2Proof.Machine

variable {s t u : State} {P : Source → Prop} {f g : State → State} {l : EventLine}

/-! ### What a line hears -/

/-- A line after events given one after another. -/
def EventLine.heard (due : Bool) (gs : List Source) (l : EventLine) : EventLine :=
  gs.foldl (fun l src => l.receive due src) l

theorem giveAll_get (due : Bool) (gs : List Source) (x : Lines EventLine) (id : LineId) :
    (giveAll due gs x).get id = (x.get id).heard due gs := by
  induction gs generalizing x with
  | nil => rfl
  | cons src rest ih =>
    show (giveAll due rest (x.map (EventLine.receive due src))).get id = ((x.get id).receive due src).heard due rest
    rw [ih, lines_map_get]

theorem heard_append (due : Bool) (a b : List Source) (l : EventLine) : l.heard due (a ++ b) = (l.heard due a).heard due b :=
  List.foldl_append

theorem trigger_source (due : Bool) (l : EventLine) : (l.trigger due).source = l.source := by
  unfold EventLine.trigger
  split
  · rfl
  · rfl
  · rfl
  · rfl
  · split <;> rfl

theorem receive_of_ne {due : Bool} {src : Source} (h : l.source ≠ src) : l.receive due src = l := if_neg h

theorem receive_of_eq {due : Bool} {src : Source} (h : l.source = src) : l.receive due src = l.trigger due := if_pos h

/-- A line does not act on the events of other sources (R160). -/
theorem heard_of_not_mem {due : Bool} {gs : List Source} (h : l.source ∉ gs) : l.heard due gs = l := by
  induction gs with
  | nil => rfl
  | cons src rest ih =>
    obtain ⟨hsrc, hrest⟩ := not_or.1 (mt List.mem_cons.2 h)
    show (l.receive due src).heard due rest = l
    rw [receive_of_ne hsrc, ih hrest]

/-- A line acts once on the one event of its source. -/
theorem heard_of_count_one {due : Bool} {gs : List Source} (h : gs.count l.source = 1) : l.heard due gs = l.trigger due := by
  induction gs with
  | nil => cases h
  | cons src rest ih =>
    show (l.receive due src).heard due rest = _
    by_cases hsrc : l.source = src
    · rw [receive_of_eq hsrc]
      refine heard_of_not_mem fun hmem => ?_
      rw [trigger_source] at hmem
      have hpos := List.count_pos_iff.2 hmem
      rw [hsrc, List.count_cons_self, ← hsrc] at h
      omega
    · rw [receive_of_ne hsrc]
      rw [List.count_cons_of_ne (Ne.symm hsrc)] at h
      exact ih h

/-- What a line keeps of itself whatever it hears and counts (R160). -/
structure EventLine.SameSet (l l' : EventLine) : Prop where
  source : l'.source = l.source
  mode : l'.mode = l.mode
  delay : l'.delay = l.delay
  width : l'.width = l.width
  activeHigh : l'.activeHigh = l.activeHigh

theorem EventLine.SameSet.trans {a b c : EventLine} (h : a.SameSet b) (h' : b.SameSet c) : a.SameSet c :=
  ⟨h'.source.trans h.source, h'.mode.trans h.mode, h'.delay.trans h.delay, h'.width.trans h.width,
    h'.activeHigh.trans h.activeHigh⟩

theorem trigger_sameSet (due : Bool) (l : EventLine) : l.SameSet (l.trigger due) := by
  unfold EventLine.trigger
  split
  · exact ⟨rfl, rfl, rfl, rfl, rfl⟩
  · exact ⟨rfl, rfl, rfl, rfl, rfl⟩
  · exact ⟨rfl, rfl, rfl, rfl, rfl⟩
  · exact ⟨rfl, rfl, rfl, rfl, rfl⟩
  · split <;> exact ⟨rfl, rfl, rfl, rfl, rfl⟩

/-- What an event of a line's source keeps, and so any number of events given. -/
theorem heard_keeps {Q : EventLine → Prop} {due : Bool} (hQ : ∀ l, Q l → Q (l.trigger due)) (gs : List Source) (hl : Q l) :
    Q (l.heard due gs) := by
  induction gs generalizing l with
  | nil => exact hl
  | cons src rest ih =>
    show Q ((l.receive due src).heard due rest)
    unfold EventLine.receive
    split
    · exact ih (hQ _ hl)
    · exact ih hl

theorem heard_sameSet (due : Bool) (gs : List Source) (l : EventLine) : l.SameSet (l.heard due gs) :=
  heard_keeps (Q := l.SameSet) (fun l' h => h.trans (trigger_sameSet due l')) gs ⟨rfl, rfl, rfl, rfl, rfl⟩

theorem count_sameSet (l : EventLine) : l.SameSet l.count := by
  unfold EventLine.count EventLine.expire
  repeat' split
  all_goals exact ⟨rfl, rfl, rfl, rfl, rfl⟩

theorem heard_of_unmoved {due : Bool} (h : l.mode = .off ∨ l.mode = .manual) (gs : List Source) : l.heard due gs = l := by
  refine heard_keeps (Q := fun l' => l' = l) (fun l' hl => ?_) gs rfl
  rw [hl]
  unfold EventLine.trigger
  rcases h with h | h <;> rw [h]

/-- A line of DELAYED that is not QUIET only counts what it hears (R163). -/
theorem heard_of_busy {due : Bool} (hm : l.mode = .delayed) (hp : l.phase ≠ .quiet) (gs : List Source) :
    ∃ k, l.heard due gs = { l with ignored := k } := by
  refine heard_keeps (Q := fun l' => ∃ k, l' = { l with ignored := k }) (fun l' hl => ?_) gs ⟨l.ignored, rfl⟩
  obtain ⟨k, rfl⟩ := hl
  refine ⟨count16 k 1, ?_⟩
  unfold EventLine.trigger
  dsimp only
  rw [hm]
  cases hphase : l.phase with
  | quiet => exact absurd hphase hp
  | delay => rfl
  | active => rfl

/-- A line of PULSE that hears its source is active for its width, from the last event on (R162). -/
theorem heard_of_pulse {due : Bool} (hm : l.mode = .pulse) (gs : List Source) :
    l.heard due gs = l ∨ l.heard due gs = { l with phase := .active, output := true, timer := some l.width, fresh := due } := by
  refine heard_keeps (Q := fun l' => l' = l ∨ l' = { l with phase := .active, output := true, timer := some l.width, fresh := due })
    (fun l' hl => .inr ?_) gs (.inl rfl)
  have htrigger (l' : EventLine) (hm : l'.mode = .pulse) :
      l'.trigger due = { l' with phase := .active, output := true, timer := some l'.width, fresh := due } := by
    unfold EventLine.trigger
    rw [hm]
    rfl
  rcases hl with rfl | rfl
  · exact htrigger _ hm
  · exact htrigger _ hm

/-- A line of DELAYED that is QUIET starts its delay at the first event it hears, and counts the others (R163). -/
theorem heard_of_delayed {due : Bool} (hm : l.mode = .delayed) (hp : l.phase = .quiet) (gs : List Source) :
    l.heard due gs = l ∨
      ∃ k, l.heard due gs = { l with phase := .delay, timer := some l.delay, fresh := due, ignored := k } := by
  refine heard_keeps
    (Q := fun l' => l' = l ∨ ∃ k, l' = { l with phase := .delay, timer := some l.delay, fresh := due, ignored := k })
    (fun l' hl => .inr ?_) gs (.inl rfl)
  unfold EventLine.trigger
  rcases hl with rfl | ⟨k, rfl⟩
  · rw [hm, hp]
    exact ⟨l'.ignored, rfl⟩
  · dsimp only
    rw [hm]
    exact ⟨_, rfl⟩

/-! ### The turns of an event on one line -/

/-- Between two states events were given to the lines and timers noted. -/
def State.Sounds (P : Source → Prop) (s t : State) : Prop :=
  t.time = s.time ∧ ∃ gs xs, (∀ src ∈ gs, P src) ∧ t.lines = giveAll s.time.eventDue gs s.lines ∧ t.expiries = s.expiries ++ xs

theorem ActsAt.sounds (h : ActsAt P f s) : s.Sounds P (f s) := by
  obtain ⟨ht, gs, xs, hP, h⟩ := h
  have hside := h s.side
  rw [withSide_side] at hside
  refine ⟨ht, gs, xs, hP, ?_, ?_⟩ <;> rw [hside] <;> rfl

theorem filterInput_sounds (i : Input) (s : State) : s.Sounds (· ≠ .second) (s.filterInput i) := by
  unfold State.filterInput
  dsimp only
  generalize (s.inputs.get i).sample (s.pins.get i == assertedHigh i) = f
  have hset : s.Sounds (· ≠ .second) { s with inputs := s.inputs.set i f } := ⟨rfl, [], [], nofun, rfl, (List.append_nil _).symm⟩
  split
  · unfold State.faultIf
    split
    · exact (acts_faultEvent (s := { s with inputs := s.inputs.set i f }) nofun nofun nofun _).sounds
    · exact hset
  · split
    · exact (acts_formShelter (s := { s with inputs := s.inputs.set i f }) nofun nofun).sounds
    · exact hset

/-- The mount time is a whole second (R3). -/
def State.atSecond (s : State) : Bool := decide (s.time.mountTime % 1000000 = 0)

/-- Between two states a line hears events, so many of them whole-second marks, and timers are noted. -/
def State.Hears (id : LineId) (marks : Nat) (s t : State) : Prop :=
  t.time = s.time ∧ ∃ gs xs, gs.count .second = marks ∧
    t.lines.get id = (s.lines.get id).heard s.time.eventDue gs ∧ t.expiries = s.expiries ++ xs

theorem State.Hears.trans {id : LineId} {m n : Nat} (h : s.Hears id m t) (h' : t.Hears id n u) : s.Hears id (m + n) u := by
  obtain ⟨ht, gs, xs, hc, hl, hx⟩ := h
  obtain ⟨ht', gs', xs', hc', hl', hx'⟩ := h'
  refine ⟨ht'.trans ht, gs ++ gs', xs ++ xs', ?_, ?_, ?_⟩
  · rw [List.count_append, hc, hc']
  · rw [hl', hl, ht, heard_append]
  · rw [hx', hx, List.append_assoc]

theorem State.Sounds.hears (h : s.Sounds (· ≠ .second) t) (id : LineId) : s.Hears id 0 t := by
  obtain ⟨ht, gs, xs, hP, hl, hx⟩ := h
  exact ⟨ht, gs, xs, List.count_eq_zero.2 fun hmem => hP _ hmem rfl, by rw [hl, giveAll_get], hx⟩

theorem lineTurn_lines (id : LineId) (s : State) : (s.lineTurn id).lines = s.lines.set id (s.lines.get id).count := by
  unfold State.lineTurn
  dsimp only
  split
  · split <;> rfl
  · rfl

theorem lineTurn_expiries (id : LineId) (s : State) : ∃ xs, (s.lineTurn id).expiries = s.expiries ++ xs ∧
    ((s.lines.get id).runsOut = true → ((s.lines.get id).phase = .delay → .lineDelay id ∈ xs) ∧
      ((s.lines.get id).phase = .active → .lineWidth id ∈ xs)) := by
  unfold State.lineTurn
  dsimp only
  split
  · cases hp : (s.lines.get id).phase with
    | delay => exact ⟨_, rfl, fun _ => ⟨fun _ => List.mem_singleton.2 rfl, nofun⟩⟩
    | active => exact ⟨_, rfl, fun _ => ⟨nofun, fun _ => List.mem_singleton.2 rfl⟩⟩
    | quiet => exact ⟨[], (List.append_nil _).symm, fun _ => ⟨nofun, nofun⟩⟩
  · rename_i h
    exact ⟨[], (List.append_nil _).symm, fun h' => absurd h' h⟩

theorem turn_hears {id : LineId} {x : Turn} (hx : x ≠ .line id) (s : State) :
    s.Hears id (if x = .second ∧ s.atSecond = true then 1 else 0) (s.turn x) := by
  cases x with
  | filter i => rw [if_neg (by rintro ⟨h, _⟩; cases h)]; exact (filterInput_sounds i s).hears id
  | engine => rw [if_neg (by rintro ⟨h, _⟩; cases h)]; exact (acts_engineTurn fun _ h => h).sounds.hears id
  | line id' =>
    rw [if_neg (by rintro ⟨h, _⟩; cases h)]
    obtain ⟨xs, hxs, _⟩ := lineTurn_expiries id' s
    refine ⟨State.lineTurn_time s id', [], xs, rfl, ?_, hxs⟩
    show (s.lineTurn id').lines.get id = s.lines.get id
    rw [lineTurn_lines, lines_get_set, if_neg]
    rintro rfl
    exact hx rfl
  | second =>
    show s.Hears id _ s.secondTurn
    unfold State.secondTurn
    by_cases h : s.time.mountTime % 1000000 = 0
    · rw [if_pos h, if_pos ⟨rfl, decide_eq_true h⟩]
      exact ⟨rfl, [.second], [], rfl, by rw [State.give_lines, lines_map_get]; rfl, (List.append_nil _).symm⟩
    · rw [if_neg h, if_neg (by rintro ⟨_, h'⟩; exact h (of_decide_eq_true h'))]
      exact ⟨rfl, [], [], rfl, rfl, (List.append_nil _).symm⟩

theorem turns_hears {id : LineId} {l : List Turn} (h : Turn.line id ∉ l) (s : State) :
    s.Hears id (if s.atSecond = true then l.count .second else 0) (l.foldl State.turn s) := by
  induction l generalizing s with
  | nil => exact ⟨rfl, [], [], by simp, rfl, (List.append_nil _).symm⟩
  | cons x rest ih =>
    obtain ⟨hx, hrest⟩ := not_or.1 (mt List.mem_cons.2 h)
    have hhead := turn_hears (Ne.symm hx) s
    have htail := ih hrest (s.turn x)
    have hsecond : (s.turn x).atSecond = s.atSecond := by
      unfold State.atSecond
      rw [hhead.1]
    rw [hsecond] at htail
    have hall := hhead.trans htail
    rw [List.foldl_cons]
    convert hall using 1
    by_cases hs : s.atSecond = true
    · by_cases hx : x = .second
      · subst hx
        simp [hs, Nat.add_comm]
      · simp [hs, hx]
    · simp [hs]

/-- A line along a demand event: the events it hears before its turn, its turn, those it hears after it; one of them is
the whole-second mark where the event stands at one (R3, R161). -/
theorem demandEvent_line (hcount : s.counting) (id : LineId) (levels : Inputs Bool) (order : List Turn) :
    ∃ before after : List Source,
      let t := s.demandEvent levels order
      let l := (s.lines.get id).heard true before
      t.lines.get id = (l.count.heard true after).unmark ∧
        (before ++ after).count .second = (if s.nextEventTime % 1000000 = 0 then 1 else 0) ∧
        ((∃ rest, order = .line id :: rest) → before = []) ∧
        (l.runsOut = true → (l.phase = .delay → .lineDelay id ∈ t.expiries) ∧
          (l.phase = .active → .lineWidth id ∈ t.expiries)) := by
  obtain ⟨hreset, hsome⟩ := hcount
  obtain ⟨n, hn⟩ := Option.isSome_iff_exists.1 hsome
  obtain ⟨y, z, hframe⟩ := elapse_frame n s
  obtain ⟨pre, post, hsplit, hpre, hpost, hfirst⟩ : ∃ pre post, completeOrder order = pre ++ .line id :: post ∧
      Turn.line id ∉ pre ∧ Turn.line id ∉ post ∧ ((∃ rest, order = .line id :: rest) → pre = []) := by
    obtain ⟨pre, post, hsplit, hpre, hpost⟩ := completeOrder_split (.line id) order
    refine ⟨pre, post, hsplit, hpre, hpost, ?_⟩
    rintro ⟨rest, rfl⟩
    obtain ⟨l, hl⟩ := completeOrder_first (.line id) rest
    cases pre with
    | nil => rfl
    | cons x pre =>
      rw [hl] at hsplit
      injection hsplit with hx
      exact absurd (hx ▸ List.mem_cons_self) hpre
  have hbefore : ∃ gs xs, (pre = [] → gs = []) ∧
      gs.count .second = (if s.nextEventTime % 1000000 = 0 then pre.count .second else 0) ∧
      (pre.foldl State.turn ((s.elapse n).openEvent levels)).lines.get id = (s.lines.get id).heard true gs ∧
      (pre.foldl State.turn ((s.elapse n).openEvent levels)).expiries = xs ∧
      (pre.foldl State.turn ((s.elapse n).openEvent levels)).time = ((s.elapse n).openEvent levels).time := by
    have hlines : ((s.elapse n).openEvent levels).lines = s.lines := by rw [hframe]; rfl
    have hat : ((s.elapse n).openEvent levels).atSecond = decide (s.nextEventTime % 1000000 = 0) := by
      rw [← elapse_to_event hn]; rfl
    obtain ⟨ht, gs, xs, hc, hl, hx⟩ := turns_hears hpre ((s.elapse n).openEvent levels)
    rw [hat] at hc
    rw [hlines] at hl
    cases hp : pre with
    | nil => subst hp; exact ⟨[], _, fun _ => rfl, by simp, by rw [List.foldl_nil, hlines]; rfl, rfl, rfl⟩
    | cons x rest =>
      rw [← hp]
      refine ⟨gs, _, fun h => absurd (h.symm.trans hp) nofun, ?_, hl, rfl, ht⟩
      rw [hc]
      simp
  obtain ⟨before, xs, hnil, hbc, hbl, -, hbt⟩ := hbefore
  generalize hu : pre.foldl State.turn ((s.elapse n).openEvent levels) = u at hbl hbt
  obtain ⟨ys, hys, hout⟩ := lineTurn_expiries id u
  have hline : (u.lineTurn id).lines.get id = ((s.lines.get id).heard true before).count := by
    rw [lineTurn_lines, lines_get_set, if_pos rfl, hbl]
  have hdue : (u.lineTurn id).time.eventDue = true := by rw [State.lineTurn_time, hbt]; rfl
  have hat : (u.lineTurn id).atSecond = decide (s.nextEventTime % 1000000 = 0) := by
    unfold State.atSecond
    rw [State.lineTurn_time, hbt, ← elapse_to_event hn]
    rfl
  obtain ⟨-, after, zs, hac, hal, hax⟩ := turns_hears hpost (u.lineTurn id)
  rw [hdue, hline] at hal
  rw [hat] at hac
  have hrun : s.demandEvent levels order = (post.foldl State.turn (u.lineTurn id)).closeEvent := by
    rw [demandEvent_eq hreset hn]
    unfold State.runEvent
    rw [hsplit, List.foldl_append, hu]
    rfl
  have hexpiry (x : Expiry) (hx : x ∈ ys) : x ∈ (s.demandEvent levels order).expiries := by
    rw [hrun]
    show x ∈ (post.foldl State.turn (u.lineTurn id)).expiries
    rw [hax, hys]
    exact List.mem_append_left _ (List.mem_append_right _ hx)
  refine ⟨before, after, ?_, ?_, fun h => hnil (hfirst h), fun hruns => ?_⟩
  · rw [hrun]
    show ((post.foldl State.turn (u.lineTurn id)).lines.map EventLine.unmark).get id = _
    rw [lines_map_get, hal]
  · have hone := completeOrder_count order .second
    rw [hsplit, List.count_append, List.count_cons_of_ne (a := Turn.second) (b := Turn.line id) nofun] at hone
    rw [List.count_append, hbc, hac]
    by_cases h : s.nextEventTime % 1000000 = 0
    · simp only [h, if_true, decide_true]
      exact hone
    · simp only [h, if_false, decide_false, Bool.false_eq_true]
  · rw [← hbl] at hruns ⊢
    obtain ⟨h1, h2⟩ := hout hruns
    exact ⟨fun h => hexpiry _ (h1 h), fun h => hexpiry _ (h2 h)⟩

end Sys2Proof.Machine

/-! PROOFS. The modes of the event lines and their timers at a demand event (R160 to R163; log entries 3, 4, 5). -/

namespace Sys2Proof.Machine

variable {s t u : State} {l : EventLine}

/-! ### A line's own turn -/

theorem demandEventOf_of_mem {x : Expiry} {levels : Inputs Bool} {order : List Turn}
    (h : x ∈ (s.demandEvent levels order).expiries) :
    s.demandEventOf x levels order = s.demandEvent levels order := by
  unfold State.demandEventOf
  rw [if_pos (List.contains_iff_mem.2 h)]

theorem count_of_none (h : l.timer = none) : l.count = l := by
  unfold EventLine.count
  rw [h]

theorem count_of_fresh (h : l.fresh = true) : l.count = l := by
  unfold EventLine.count
  split
  · rfl
  · rw [if_pos h]

theorem count_of_running {n : Nat} (ht : l.timer = some n) (hf : l.fresh = false) (hn : 1 < n) :
    l.count = { l with timer := some (n - 1) } := by
  unfold EventLine.count
  rw [ht]
  dsimp only
  rw [hf, if_neg Bool.false_ne_true, if_neg (by omega)]

theorem count_of_last (ht : l.timer = some 1) (hf : l.fresh = false) : l.count = l.expire := by
  unfold EventLine.count
  rw [ht]
  dsimp only
  rw [hf, if_neg Bool.false_ne_true, if_pos (by omega)]

theorem runsOut_of_last (ht : l.timer = some 1) (hf : l.fresh = false) : l.runsOut = true := by
  unfold EventLine.runsOut
  rw [ht, hf]
  rfl

/-- A delayed line that is not QUIET hears nothing but to count it, around its own turn too (R163). -/
theorem busy_around {before after : List Source} (hm : l.mode = .delayed) (hp : l.phase ≠ .quiet)
    {c : EventLine} (hc : ∀ k, { l with ignored := k }.count = { c with ignored := k }) (hcm : c.mode = .delayed)
    (hcp : c.phase ≠ .quiet) :
    ∃ k, ((l.heard true before).count.heard true after).unmark = { c with ignored := k, fresh := false } := by
  obtain ⟨k, hk⟩ := heard_of_busy (due := true) hm hp before
  obtain ⟨k', hk'⟩ := heard_of_busy (l := { c with ignored := k }) (due := true) hcm hcp after
  rw [hk, hc, hk']
  exact ⟨k', rfl⟩

/-- Heard once, before a line's turn or after it. -/
theorem count_one_cases {before after : List Source} {src : Source} (h : (before ++ after).count src = 1) :
    before.count src = 1 ∧ src ∉ after ∨ src ∉ before ∧ after.count src = 1 := by
  rw [List.count_append] at h
  rcases Nat.eq_zero_or_pos (before.count src) with h0 | h0
  · exact .inr ⟨List.count_eq_zero.1 h0, by omega⟩
  · exact .inl ⟨by omega, List.count_eq_zero.1 (by omega)⟩

theorem give_line (src : Source) (s : State) (id : LineId) :
    (State.give src s).lines.get id = (s.lines.get id).receive s.time.eventDue src := by
  rw [State.give_lines, lines_map_get]

/-! ### An event of a line's source, by the line's mode -/

theorem trigger_unmoved {due : Bool} (h : l.mode = .off ∨ l.mode = .manual) : l.trigger due = l := by
  unfold EventLine.trigger
  rcases h with h | h <;> rw [h]

theorem trigger_toggle {due : Bool} (h : l.mode = .toggle) : l.trigger due = { l with output := !l.output } := by
  unfold EventLine.trigger
  rw [h]

theorem trigger_pulse {due : Bool} (h : l.mode = .pulse) :
    l.trigger due = { l with phase := .active, output := true, timer := some l.width, fresh := due } := by
  unfold EventLine.trigger
  rw [h]
  rfl

theorem trigger_quiet {due : Bool} (h : l.mode = .delayed) (hp : l.phase = .quiet) :
    l.trigger due = { l with phase := .delay, timer := some l.delay, fresh := due } := by
  unfold EventLine.trigger
  rw [h, hp]
  rfl

theorem trigger_busy {due : Bool} (h : l.mode = .delayed) (hp : l.phase ≠ .quiet) :
    l.trigger due = { l with ignored := min 65535 (l.ignored + 1) } := by
  unfold EventLine.trigger
  rw [h]
  cases hphase : l.phase with
  | quiet => exact absurd hphase hp
  | delay => rfl
  | active => rfl

/-! ### A line of the whole-second mark -/

/-- A line of SECOND hears its mark once at a whole second, before its own turn or after it, and else nothing (R3). -/
theorem second_line {before after : List Source} (hsrc : l.source = .second) {event : Prop} [Decidable event]
    (hc : (before ++ after).count .second = if event then 1 else 0) :
    (¬ event → (l.heard true before).count.heard true after = l.count) ∧
      (event → l.heard true before = l.trigger true ∧ (l.heard true before).count.heard true after = (l.trigger true).count ∨
        l.heard true before = l ∧ (l.heard true before).count.heard true after = l.count.trigger true) := by
  have hcount (x : EventLine) : x.count.source = x.source := (count_sameSet x).source
  rw [← hsrc] at hc
  refine ⟨fun h => ?_, fun h => ?_⟩
  · rw [if_neg h, List.count_append] at hc
    have hb : l.source ∉ before := List.count_eq_zero.1 (by omega)
    have ha : l.count.source ∉ after := by rw [hcount]; exact List.count_eq_zero.1 (by omega)
    rw [heard_of_not_mem hb, heard_of_not_mem ha]
  · rw [if_pos h] at hc
    rcases count_one_cases hc with ⟨hb, ha⟩ | ⟨hb, ha⟩
    · left
      rw [heard_of_count_one hb]
      refine ⟨rfl, heard_of_not_mem ?_⟩
      rw [hcount, trigger_source]
      exact ha
    · right
      rw [heard_of_not_mem hb]
      refine ⟨rfl, heard_of_count_one ?_⟩
      rw [hcount]
      exact ha

theorem second_toggle {before after : List Source} (hsrc : l.source = .second)
    (hc : (before ++ after).count .second = 1) (hm : l.mode = .toggle) (ht : l.timer = none) :
    ((l.heard true before).count.heard true after).output = !l.output := by
  rcases (second_line (event := True) hsrc (by rw [hc]; rfl)).2 trivial with ⟨_, h⟩ | ⟨_, h⟩ <;> rw [h]
  · rw [trigger_toggle hm, count_of_none (show ({ l with output := !l.output } : EventLine).timer = none from ht)]
  · rw [count_of_none ht, trigger_toggle hm]

theorem second_pulse {before after : List Source} (hsrc : l.source = .second)
    (hc : (before ++ after).count .second = 1) (hm : l.mode = .pulse) :
    let l' := (l.heard true before).count.heard true after
    l'.phase = .active ∧ l'.output = true ∧ l'.timer = some l.width := by
  have hsame := count_sameSet l
  dsimp only
  rcases (second_line (event := True) hsrc (by rw [hc]; rfl)).2 trivial with ⟨_, h⟩ | ⟨_, h⟩ <;> rw [h]
  · rw [trigger_pulse hm, count_of_fresh (by rfl)]
    exact ⟨rfl, rfl, rfl⟩
  · rw [trigger_pulse (hsame.mode.trans hm), hsame.width]
    exact ⟨rfl, rfl, rfl⟩

theorem second_delayed {before after : List Source} (hsrc : l.source = .second)
    (hc : (before ++ after).count .second = 1) (hm : l.mode = .delayed) (hp : l.phase = .quiet) (ht : l.timer = none) :
    let l' := (l.heard true before).count.heard true after
    l'.phase = .delay ∧ l'.output = l.output ∧ l'.timer = some l.delay := by
  dsimp only
  rcases (second_line (event := True) hsrc (by rw [hc]; rfl)).2 trivial with ⟨_, h⟩ | ⟨_, h⟩ <;> rw [h]
  · rw [trigger_quiet hm hp, count_of_fresh (by rfl)]
    exact ⟨rfl, rfl, rfl⟩
  · rw [count_of_none ht, trigger_quiet hm hp]
    exact ⟨rfl, rfl, rfl⟩

theorem second_ignored {before after : List Source} {n : Nat} (hsrc : l.source = .second)
    (hc : (before ++ after).count .second = 1) (hm : l.mode = .delayed) (hp : l.phase ≠ .quiet) (ht : l.timer = some n)
    (hn : 1 < n) :
    let l' := (l.heard true before).count.heard true after
    l'.phase = l.phase ∧ l'.ignored = min 65535 (l.ignored + 1) := by
  have hcount (x : EventLine) (hx : x.timer = some n) : x.count = x ∨ x.count = { x with timer := some (n - 1) } := by
    rcases Bool.eq_false_or_eq_true x.fresh with hf | hf
    · exact .inl (count_of_fresh hf)
    · exact .inr (count_of_running hx hf hn)
  dsimp only
  rcases (second_line (event := True) hsrc (by rw [hc]; rfl)).2 trivial with ⟨_, h⟩ | ⟨_, h⟩ <;> rw [h]
  · rw [trigger_busy hm hp]
    rcases hcount { l with ignored := min 65535 (l.ignored + 1) } ht with h | h <;> rw [h] <;> exact ⟨rfl, rfl⟩
  · rcases hcount l ht with h | h <;> rw [h]
    · rw [trigger_busy hm hp]
      exact ⟨rfl, rfl⟩
    · rw [trigger_busy (l := { l with timer := some (n - 1) }) hm hp]
      exact ⟨rfl, rfl⟩

/-! ### A width that runs out -/

/-- A line whose width runs out is QUIET, or started again by its source at the same event (R162, R163). -/
theorem width_runs_out {before after : List Source} (ht : l.timer = some 1) (hf : l.fresh = false) (hp : l.phase = .active)
    (hm : l.mode = .pulse ∨ l.mode = .delayed) :
    let l' := (l.heard true before).count.heard true after
    l'.phase = .quiet ∧ l'.timer = none ∧ l'.output = false ∨
      l.mode = .pulse ∧ l'.phase = .active ∧ l'.timer = some l.width ∧ l'.output = true ∨
      l.mode = .delayed ∧ l'.phase = .delay ∧ l'.timer = some l.delay ∧ l'.output = false := by
  dsimp only
  have hexpire (k : Nat) : ({ l with ignored := k } : EventLine).count = { l.quiet with ignored := k } := by
    rw [count_of_last (l := { l with ignored := k }) ht hf]
    unfold EventLine.expire
    dsimp only
    rw [hp]
    rfl
  rcases hm with hm | hm
  · rcases heard_of_pulse (due := true) hm before with h | h <;> rw [h]
    · rw [show l.count = l.quiet from hexpire l.ignored]
      rcases heard_of_pulse (l := l.quiet) (due := true) hm after with h | h <;> rw [h]
      · exact .inl ⟨rfl, rfl, rfl⟩
      · exact .inr (.inl ⟨hm, rfl, rfl, rfl⟩)
    · rw [count_of_fresh (by rfl)]
      rcases heard_of_pulse (l := { l with phase := .active, output := true, timer := some l.width, fresh := true })
        (due := true) hm after with h | h <;> rw [h] <;> exact .inr (.inl ⟨hm, rfl, rfl, rfl⟩)
  · obtain ⟨k, hk⟩ := heard_of_busy (due := true) hm (by rw [hp]; exact nofun) before
    rw [hk, hexpire]
    rcases heard_of_delayed (l := { l.quiet with ignored := k }) (due := true) hm rfl after with h | ⟨k', h⟩ <;> rw [h]
    · exact .inl ⟨rfl, rfl, rfl⟩
    · exact .inr (.inr ⟨hm, rfl, rfl, rfl⟩)

/-- A delay that runs out makes the line active for its width (R163). -/
theorem delay_runs_out {before after : List Source} (ht : l.timer = some 1) (hf : l.fresh = false) (hp : l.phase = .delay)
    (hm : l.mode = .delayed) :
    ∃ k, (l.heard true before).count.heard true after =
      { l with phase := .active, output := true, timer := some l.width, fresh := true, ignored := k } := by
  obtain ⟨k, hk⟩ := heard_of_busy (due := true) hm (by rw [hp]; exact nofun) before
  have hexpire : ({ l with ignored := k } : EventLine).count =
      { l with phase := .active, output := true, timer := some l.width, fresh := true, ignored := k } := by
    rw [count_of_last (l := { l with ignored := k }) ht hf]
    unfold EventLine.expire
    dsimp only
    rw [hp]
    rfl
  rw [hk, hexpire]
  exact heard_of_busy
    (l := { l with phase := .active, output := true, timer := some l.width, fresh := true, ignored := k }) hm nofun after

/-- Settles O41: a line hears its source before its own turn or after it, and its turn counts its timer once. -/
theorem lineTimersExpire : Obligations.LineTimersExpire := by
  refine ⟨fun src s id => ?_, fun id levels order s hcount => ?_, fun id levels order rest s hcount htimer hfresh => ?_⟩
  · dsimp only
    rw [give_line]
    generalize s.lines.get id = l
    exact ⟨fun h => receive_of_ne h, fun h => by
      rw [receive_of_eq h]
      exact ⟨trigger_unmoved, trigger_toggle, trigger_pulse, trigger_quiet, trigger_busy⟩⟩
  · refine ⟨_, exec_demandEvent levels order s, ?_⟩
    obtain ⟨before, after, hline, hc, -, -⟩ := demandEvent_line hcount id levels order
    dsimp only at hline ⊢
    rw [hline]
    generalize s.lines.get id = l
    have hset := ((heard_sameSet true before l).trans (count_sameSet _)).trans (heard_sameSet true after _)
    refine ⟨hset.source, hset.mode, hset.delay, hset.width, hset.activeHigh, rfl, fun hm ht => ?_, fun n hm hp ht hf hn => ?_,
      fun n hm hp ht hf => ?_, fun hsrc => ⟨fun he ht => ?_, fun he hm ht => ?_, fun he hm hp ht => ?_, fun he hm hp ht => ?_,
        fun n he hm hp ht hn => ?_⟩⟩
    · rw [heard_of_unmoved hm, count_of_none ht, heard_of_unmoved hm]
      exact ⟨rfl, rfl, ht⟩
    · have hbusy : l.phase ≠ .quiet := by rw [hp]; exact nofun
      obtain ⟨k, hk⟩ := busy_around (before := before) (after := after) (c := { l with timer := some (n - 1) }) hm hbusy
        (fun k => count_of_running (l := { l with ignored := k }) ht hf hn) hm hbusy
      rw [hk]
      exact ⟨hp, rfl, rfl⟩
    · obtain ⟨k, hk⟩ := busy_around (before := before) (after := after) (c := l) hm hp
        (fun k => count_of_fresh (l := { l with ignored := k }) hf) hm hp
      rw [hk]
      exact ⟨rfl, ht, rfl⟩
    · rw [(second_line hsrc hc).1 he, count_of_none ht]
      exact ⟨rfl, rfl, ht⟩
    · exact second_toggle hsrc (by rw [hc, if_pos he]) hm ht
    · exact second_pulse hsrc (by rw [hc, if_pos he]) hm
    · exact second_delayed hsrc (by rw [hc, if_pos he]) hm hp ht
    · exact second_ignored hsrc (by rw [hc, if_pos he]) hm hp ht hn
  · obtain ⟨before, after, hline, hc, hfirst, hout⟩ := demandEvent_line hcount id levels order
    dsimp only at hline hout ⊢
    generalize s.lines.get id = l at *
    refine ⟨fun hm hp => ⟨_, ?_, exec_demandEvent levels order s, ?_⟩,
      fun hm hp => ⟨_, exec_demandEvent levels order s, fun hwhen => ?_, ?_, fun hsrc he => ?_, fun hsrc he hpulse => ?_⟩⟩
    · obtain ⟨k, hk⟩ := heard_of_busy (due := true) hm (by rw [hp]; exact nofun) before
      rw [hk] at hout
      exact congrArg _ (demandEventOf_of_mem ((hout (runsOut_of_last htimer hfresh)).1 hp))
    · obtain ⟨k, hk⟩ := delay_runs_out (before := before) (after := after) htimer hfresh hp hm
      rw [hline, hk]
      exact ⟨rfl, rfl, rfl⟩
    · have hkept : ∃ k, l.heard true before = { l with ignored := k } := by
        rcases hwhen with hd | hrest
        · exact heard_of_busy hd (by rw [hp]; exact nofun) before
        · rw [hfirst ⟨_, hrest⟩]
          exact ⟨l.ignored, rfl⟩
      obtain ⟨k, hk⟩ := hkept
      rw [hk] at hout
      exact congrArg _ (demandEventOf_of_mem ((hout (runsOut_of_last htimer hfresh)).2 hp))
    · rw [hline]
      exact width_runs_out htimer hfresh hp hm
    · rw [hline, (second_line hsrc hc).1 he, count_of_last htimer hfresh]
      unfold EventLine.expire
      rw [hp]
      rfl
    · obtain ⟨h1, h2, h3⟩ := second_pulse (before := before) (after := after) hsrc (by rw [hc, if_pos he]) hpulse
      rw [hline]
      exact ⟨h1, h3, h2⟩

end Sys2Proof.Machine

/-! PROOFS. A calm demand event is the engine's turn alone, but for the event lines, the timers noted and the samples of
the filters (R72, R149, R154, R161). -/

namespace Sys2Proof.Machine

variable {s t u : State} {levels : Inputs Bool}

/-! ### The turns of the others, where nothing changes for them -/

/-- Every pin shows its filtered level and the shelter condition stands as its sources form it. -/
structure State.Quiet (levels : Inputs Bool) (s : State) : Prop where
  pins : s.pins = levels
  inputs : ∀ i : Input, (s.inputs.get i).level = showsLevel levels i
  shelter : s.shelterSources = s.enclosure.shelter

/-- From one side to another, TOGGLE lines with no timer that another source than SECOND drives stay, and timers noted stay
noted. -/
structure Side.Beside (σ τ : Side) : Prop where
  lines : ∀ id, (σ.lines.get id).mode = .toggle → (σ.lines.get id).timer = none → (σ.lines.get id).source ≠ .second →
    τ.lines.get id = σ.lines.get id
  expiries : ∀ x ∈ σ.expiries, x ∈ τ.expiries

theorem Side.Beside.refl (σ : Side) : σ.Beside σ := ⟨fun _ _ _ _ => rfl, fun _ h => h⟩

theorem Side.Beside.trans {σ τ ρ : Side} (h : σ.Beside τ) (h' : τ.Beside ρ) : σ.Beside ρ where
  lines id hm ht hs := by
    have heq := h.lines id hm ht hs
    rw [← heq] at hm ht hs
    rw [h'.lines id hm ht hs, heq]
  expiries x hx := h'.expiries x (h.expiries x hx)

/-- The side after one filter's sample. -/
def Side.sampled (i : Input) (x : Bool) (σ : Side) : Side := { σ with previous := fun j => if j = i then x else σ.previous j }

theorem withSide_sampled (i : Input) (x : Bool) (σ : Side) (s : State) :
    { s.withSide σ with inputs := (s.withSide σ).inputs.set i ⟨x, (s.inputs.get i).level⟩ } = s.withSide (σ.sampled i x) := by
  cases i <;> rfl

/-- A filter whose pin shows its level samples it, and does nothing else (R154). -/
theorem filterInput_quiet (h : s.Quiet levels) (i : Input) (σ : Side) :
    (s.withSide σ).filterInput i = s.withSide (σ.sampled i (showsLevel levels i)) := by
  have hlevel := h.inputs i
  have hsample : ((s.withSide σ).inputs.get i).sample ((s.withSide σ).pins.get i == assertedHigh i) =
      ⟨showsLevel levels i, (s.inputs.get i).level⟩ := by
    have hget : (s.withSide σ).inputs.get i = ⟨σ.previous i, (s.inputs.get i).level⟩ := by cases i <;> rfl
    have hpin : ((s.withSide σ).pins.get i == assertedHigh i) = showsLevel levels i := by
      show (s.pins.get i == assertedHigh i) = _
      rw [h.pins]
      rfl
    rw [hget, hpin]
    unfold Filter.sample
    dsimp only
    rw [if_neg (by rintro ⟨hne, _⟩; exact hne hlevel.symm)]
  have hold : ((s.withSide σ).inputs.get i).level = (s.inputs.get i).level := by cases i <;> rfl
  unfold State.filterInput
  dsimp only
  rw [hsample, withSide_sampled, hold]
  split
  · have hno : ((s.inputs.get i).level && !(s.inputs.get i).level) = false := by cases (s.inputs.get i).level <;> rfl
    dsimp only
    rw [hno, Bool.false_and]
    rfl
  · split
    · unfold State.formShelter
      rw [if_pos]
      exact h.shelter
    · rfl

theorem count_of_idle {l : EventLine} (h : l.timer = none) : l.count = l ∧ l.runsOut = false := by
  refine ⟨count_of_none h, ?_⟩
  unfold EventLine.runsOut
  rw [h]

theorem quiet_turn (h : s.Quiet levels) {x : Turn} (hx : x ≠ .engine) (σ : Side) :
    ∃ τ, (s.withSide σ).turn x = s.withSide τ ∧ σ.Beside τ := by
  cases x with
  | filter i => exact ⟨_, filterInput_quiet h i σ, fun _ _ _ _ => rfl, fun _ h => h⟩
  | engine => exact absurd rfl hx
  | line id =>
    obtain ⟨xs, hxs, -⟩ := lineTurn_expiries id (s.withSide σ)
    have hframe : ∃ y, (s.withSide σ).lineTurn id = { s.withSide σ with lines := ((s.withSide σ).lineTurn id).lines, expiries := y } := by
      unfold State.lineTurn
      dsimp only
      split
      · split <;> exact ⟨_, rfl⟩
      · exact ⟨_, rfl⟩
    obtain ⟨y, hy⟩ := hframe
    have hyx : y = σ.expiries ++ xs := by rw [hy] at hxs; exact hxs
    refine ⟨{ σ with lines := ((s.withSide σ).lineTurn id).lines, expiries := y }, hy, fun id' hm ht _ => ?_, fun x hx => ?_⟩
    · show ((s.withSide σ).lineTurn id).lines.get id' = σ.lines.get id'
      rw [lineTurn_lines, lines_get_set]
      split
      · rename_i hid
        subst hid
        exact count_of_none ht
      · rfl
    · show x ∈ y
      rw [hyx]
      exact List.mem_append_left _ hx
  | second =>
    show ∃ τ, (s.withSide σ).secondTurn = s.withSide τ ∧ _
    unfold State.secondTurn
    split
    · refine ⟨{ σ with lines := σ.lines.map (EventLine.receive s.time.eventDue .second) }, rfl, fun id _ _ hs => ?_, fun _ h => h⟩
      rw [lines_map_get]
      exact receive_of_ne hs
    · exact ⟨σ, rfl, .refl σ⟩

theorem quiet_turns (h : s.Quiet levels) {l : List Turn} (hl : Turn.engine ∉ l) (σ : Side) :
    ∃ τ, l.foldl State.turn (s.withSide σ) = s.withSide τ ∧ σ.Beside τ := by
  induction l generalizing σ with
  | nil => exact ⟨σ, rfl, .refl σ⟩
  | cons x rest ih =>
    obtain ⟨hx, hrest⟩ := not_or.1 (mt List.mem_cons.2 hl)
    obtain ⟨τ, hτ, hb⟩ := quiet_turn h (Ne.symm hx) σ
    obtain ⟨ρ, hρ, hb'⟩ := ih hrest τ
    refine ⟨ρ, ?_, hb.trans hb'⟩
    rw [List.foldl_cons, hτ, hρ]

/-! ### The whole event -/

theorem side_withSide (σ : Side) (s : State) : (s.withSide σ).side = σ := by
  unfold State.side State.withSide
  dsimp only
  congr 1
  funext i
  cases i <;> rfl

theorem computeEvent_steady (s : State) : s.evaluated.Steady s.computeEvent := by
  rw [computeEvent_eq]
  exact (takeDecision_steady _ _ _).trans (.of_folded (.inl rfl) ⟨rfl, rfl⟩ id)

/-- What an engine's computation leaves of the enclosure is its judgement of the report (R141, R142). -/
theorem computeEvent_enclosure (s : State) :
    s.computeEvent.enclosure = (s.blended.limitStage.stepStage).judgeAlignment.enclosure := by
  rw [(computeEvent_steady s).enclosure, evaluated_eq]
  obtain ⟨w, x, y, z, h⟩ := evaluateOnTarget_frame s.baseStage.runout (s.blended.limitStage.stepStage).judgeAlignment
  rw [h]

theorem blended_enclosure (s : State) :
    (s.blended.limitStage.stepStage).enclosure = s.enclosure ∧ (s.blended.limitStage.stepStage).inputs = s.inputs ∧
      (s.blended.limitStage.stepStage).inForce = s.inForce := by
  obtain ⟨a, b, c, d, e, f, hb⟩ := blended_frame s
  obtain ⟨a', b', c', d', hs⟩ := baseStage_frame s
  refine ⟨?_, ?_, ?_⟩
  · show s.blended.enclosure = _; rw [hb, hs]
  · show s.blended.inputs = _; rw [hb, hs]
  · show s.blended.inForce = _; rw [hb, hs]

/-- The engine's turn leaves the shelter condition and its sources (R149). -/
theorem engineTurn_shelter (s : State) :
    s.engineTurn.shelterSources = s.shelterSources ∧ s.engineTurn.enclosure.shelter = s.enclosure.shelter ∧
      s.engineTurn.enclosure.parkOwed = s.enclosure.parkOwed := by
  by_cases hdown : s.engine = .unset ∨ s.engine = .stopped
  · rw [engineTurn_of_down hdown]
    obtain ⟨_, h1, h2, h3⟩ := judgeAlignment_shelter s
    exact ⟨h3, h1, h2⟩
  · obtain ⟨hu, hs⟩ := not_or.1 hdown
    rw [engineTurn_of_ne hu hs]
    obtain ⟨_, h1, h2, h3⟩ := judgeAlignment_shelter s.blended.limitStage.stepStage
    obtain ⟨h4, h5, _⟩ := blended_enclosure s
    have henc := computeEvent_enclosure s
    have hin : s.computeEvent.inputs = s.inputs := by simp
    generalize s.blended.limitStage.stepStage = v at *
    have hjin : v.judgeAlignment.inputs = v.inputs := by
      obtain ⟨x, y, h⟩ := judgeAlignment_frame v
      rw [h]
    refine ⟨?_, ?_, ?_⟩
    · unfold State.shelterSources at h3 ⊢
      rw [henc, hin, ← h5, ← h4, ← h3, hjin]
    · rw [henc, h1, h4]
    · rw [henc, h2, h4]

theorem engineTurn_quiet (h : s.Quiet levels) : s.engineTurn.Quiet levels := by
  obtain ⟨hsrc, hsh, _⟩ := engineTurn_shelter s
  exact ⟨by simpa using h.pins, by simpa using h.inputs, by rw [hsrc, hsh]; exact h.shelter⟩

theorem calm_opens {n : Nat} (h : s.calm levels) : ((s.elapse n).openEvent levels).Quiet levels := by
  obtain ⟨_, hin, hsh, _⟩ := h
  obtain ⟨y, z, hframe⟩ := elapse_frame n s
  rw [hframe]
  exact ⟨rfl, hin, hsh.symm⟩

theorem toggle_of_heard {due : Bool} {gs : List Source} {l : EventLine} (hm : (l.heard due gs).mode = .toggle)
    (ht : (l.heard due gs).timer = none) : l.timer = none := by
  have hmode : l.mode = .toggle := (heard_sameSet due gs l).mode ▸ hm
  have hkeep : (l.heard due gs).timer = l.timer ∧ (l.heard due gs).mode = .toggle :=
    heard_keeps (Q := fun l' => l'.timer = l.timer ∧ l'.mode = .toggle)
      (fun l' h => by rw [trigger_toggle h.2]; exact h) gs ⟨rfl, hmode⟩
  rw [← hkeep.1]
  exact ht

/-- From a state where the other turns change nothing, a demand event's turns are the engine's, and beside it what the event
lines, the noted timers and the samples make of the others. -/
theorem quiet_closes (h : s.Quiet levels) {pre post : List Turn} (hpre : Turn.engine ∉ pre) (hpost : Turn.engine ∉ post) :
    ∃ σ, (post.foldl State.turn (pre.foldl State.turn s).engineTurn).closeEvent = (s.engineTurn.withSide σ).closeEvent ∧
      s.engineTurn.side.Beside σ := by
  obtain ⟨σ, hσ, hb⟩ := quiet_turns h hpre s.side
  obtain ⟨_, gs, xs, _, hacts⟩ := acts_engineTurn (P := (· ≠ .second)) (s := s) fun _ h => h
  obtain ⟨τ, hτ, hb'⟩ := quiet_turns (engineTurn_quiet h) hpost (σ.after s.time.eventDue gs xs)
  have hside : s.engineTurn.side = s.side.after s.time.eventDue gs xs := by
    have := hacts s.side
    rw [withSide_side] at this
    rw [this, side_withSide]
  refine ⟨τ, ?_, ?_⟩
  · rw [withSide_side] at hσ
    rw [hσ, hacts, hτ]
  · refine .trans ?_ hb'
    rw [hside]
    refine ⟨fun id hm ht hs => ?_, fun x hx => ?_⟩
    · have hget (ρ : Side) : (ρ.after s.time.eventDue gs xs).lines.get id = (ρ.lines.get id).heard s.time.eventDue gs :=
        giveAll_get _ _ _ _
      rw [hget] at hm ht hs ⊢
      have hset := heard_sameSet s.time.eventDue gs (s.side.lines.get id)
      rw [hget, hb.lines id (hset.mode ▸ hm) (toggle_of_heard hm ht) (hset.source ▸ hs)]
    · rcases List.mem_append.1 hx with hx | hx
      · exact List.mem_append_left _ (hb.expiries x hx)
      · exact List.mem_append_right _ hx

/-- A calm demand event is the engine's turn, and beside it what the event lines, the noted timers and the samples make
of the other turns. -/
theorem calm_event (h : s.calm levels) (order : List Turn) : ∃ n σ, s.time.untilEvent = some n ∧
    s.demandEvent levels order = (((s.elapse n).openEvent levels).engineTurn.withSide σ).closeEvent ∧
    ((s.elapse n).openEvent levels).engineTurn.side.Beside σ := by
  obtain ⟨hreset, hsome⟩ := h.1
  obtain ⟨n, hn⟩ := Option.isSome_iff_exists.1 hsome
  obtain ⟨pre, post, hpre, hpost, hsplit⟩ := runEvent_split levels order (s.elapse n)
  obtain ⟨σ, hσ, hb⟩ := quiet_closes (calm_opens (n := n) h) hpre hpost
  rw [demandEvent_eq hreset hn, hsplit]
  exact ⟨n, σ, hn, hσ, hb⟩

end Sys2Proof.Machine

/-! PROOFS. The state a calm demand event's engine finds and leaves (R72, R190), and the follower, the step of deceleration
and the ends of STOPPING and PARKING (R109, R110, R118 to R121). -/

namespace Sys2Proof.Machine

variable {s t u : State} {levels : Inputs Bool}

/-! ### The opening -/

/-- The state that the turns of a demand event find, so many microseconds ahead. -/
def State.opened (levels : Inputs Bool) (n : Nat) (s : State) : State := (s.elapse n).openEvent levels

theorem opened_frame (levels : Inputs Bool) (n : Nat) (s : State) : ∃ y z,
    s.opened levels n =
      { s with
        time := y, notices := z, steps := s.steps.map (StepOut.pass n), ports := s.ports.map (Port.pass n), pins := levels
        inForce := s.pendingItems.orElse s.inForce, pendingItems := Items.const none
        guide := (s.opened levels n).guide, expiries := [] } := by
  obtain ⟨y, z, h⟩ := elapse_frame n s
  unfold State.opened
  rw [h]
  exact ⟨_, _, rfl⟩

theorem orElse_none (x : Items Int) : (Items.const none : Items (Option Int)).orElse x = x := rfl

theorem calm_inForce (h : s.calm levels) (n : Nat) : (s.opened levels n).inForce = s.inForce := by
  obtain ⟨y, z, hframe⟩ := opened_frame levels n s
  rw [hframe, h.2.2.2]
  rfl

theorem opened_mountTime {n : Nat} (hn : s.time.untilEvent = some n) : (s.opened levels n).time.mountTime = s.nextEventTime :=
  elapse_to_event hn

/-- What a calm demand event comes to, for the fields other than the event lines, the noted timers and the samples. -/
theorem calm_demandEvent (h : s.calm levels) (order : List Turn) : ∃ n σ, s.time.untilEvent = some n ∧
    exec (.demandEvent levels order) s = .next (((s.opened levels n).engineTurn.withSide σ).closeEvent) ∧
    (s.opened levels n).engineTurn.side.Beside σ := by
  obtain ⟨n, σ, hn, hrun, hb⟩ := calm_event h order
  exact ⟨n, σ, hn, by rw [exec_demandEvent, hrun]; rfl, hb⟩

/-! ### The stages without an ACTIVE entry -/

theorem onActive_of_none (h : s.activeEntry = none) (f : Entry → Entry) : s.onActive f = s := by
  unfold State.onActive
  rw [updateFirst_of_find?_none h]
  rfl

theorem baseStage_night_of_none (h : s.activeEntry = none) : s.baseStage.state.night = s.night := by
  have haim : s.aim = none := by
    unfold State.aim
    rw [h]
  have htarget : s.baseTarget.state.night = s.night := by
    unfold State.baseTarget
    rw [haim]
    rfl
  unfold State.baseStage
  split
  case h_1 n az _ =>
    unfold State.baseSlewing
    rw [haim]
    rfl
  case h_2 => exact htarget
  case h_3 => exact htarget
  case h_4 => exact htarget
  all_goals rfl

theorem takeMailbox_night_of_none (h : s.activeEntry = none) : s.takeMailbox.night = s.night := by
  cases hm : s.guide.mailbox with
  | none => rw [takeMailbox_of_none hm]
  | some m =>
    rw [takeMailbox_of_some hm]
    show (s.onActive _).night = s.night
    rw [onActive_of_none h]

theorem blended_night_of_none (h : s.activeEntry = none) : s.blended.night = s.night := by
  have hbase := baseStage_night_of_none h
  have hnone : s.baseStage.state.activeEntry = none := by
    unfold State.activeEntry
    rw [hbase]
    exact h
  have hcount (v : State) : v.countGuide.night = v.night := by
    obtain ⟨x, y, z, h⟩ := countGuide_frame v
    rw [h]
  have hguide : (s.baseStage.state.correctionStage.guideStage s.baseStage.runout).night = s.baseStage.state.night := by
    unfold State.guideStage
    split
    · rw [hcount]
      split
      · rfl
      · exact takeMailbox_night_of_none (s := s.baseStage.state.correctionStage) hnone
    · rfl
  unfold State.blended State.blendStage
  exact hguide.trans hbase

/-- Where no entry is ACTIVE a computation leaves the list (R31, R47). -/
theorem evaluated_night_of_none (h : s.activeEntry = none) : s.evaluated.night = s.night := by
  have hblended := blended_night_of_none h
  have hnone (v : State) (hv : v.night = s.night) : v.activeEntry = none := by
    unfold State.activeEntry
    rw [hv]
    exact h
  have hstep : (s.blended.limitStage.stepStage).night = s.night := by
    have hset : s.blended.limitStage.stepStage.night = (s.blended.onActive _).night := rfl
    rw [hset, onActive_of_none (hnone _ hblended)]
    exact hblended
  rw [evaluated_eq]
  obtain ⟨x, y, hj⟩ := judgeAlignment_frame s.blended.limitStage.stepStage
  have hjudged : (s.blended.limitStage.stepStage).judgeAlignment.night = s.night := by rw [hj]; exact hstep
  generalize (s.blended.limitStage.stepStage).judgeAlignment = v at hjudged
  obtain ⟨a, b, c, hset⟩ := setOnTarget_frame (v.onTargetNow s.baseStage.runout) v
  have hset' : (v.setOnTarget (v.onTargetNow s.baseStage.runout)).night = s.night := by rw [hset]; exact hjudged
  unfold State.evaluateOnTarget
  dsimp only
  split
  · rw [onActive_of_none (hnone _ hset')]
    exact hset'
  · exact hset'

/-- What the stages and the evaluation of a computation can change. -/
theorem evaluated_frame (s : State) : ∃ a b c d e f g h i j k l,
    s.evaluated =
      { s with
        night := a, free := b, engine := c, axes := d, guide := e, lines := f, notices := g, expiries := h, model := i
        enclosure := j, onTarget := k, steps := l } := by
  obtain ⟨w, x, y, z, he⟩ := evaluateOnTarget_frame s.baseStage.runout (s.blended.limitStage.stepStage).judgeAlignment
  obtain ⟨x', y', hj⟩ := judgeAlignment_frame s.blended.limitStage.stepStage
  obtain ⟨a, b, c, d, e, f, hb⟩ := blended_frame s
  obtain ⟨a', b', c', d', hs⟩ := baseStage_frame s
  have hstep : ∃ m n o, s.blended.limitStage.stepStage = { s.blended with night := m, axes := n, steps := o } := ⟨_, _, _, rfl⟩
  obtain ⟨m, n, o, hstep⟩ := hstep
  rw [evaluated_eq, he, hj, hstep, hb, hs]
  exact ⟨_, _, _, _, _, _, _, _, _, _, _, _, rfl⟩

/-- The stages after the base stage leave its base and velocity (R79 to R87). -/
theorem evaluated_motion (s : State) (ax : Axis) :
    (s.evaluated.axes.get ax).base = (s.baseStage.state.axes.get ax).base ∧
      (s.evaluated.axes.get ax).vel = (s.baseStage.state.axes.get ax).vel := by
  have hblend : (s.blended.axes.get ax).base = (s.baseStage.state.axes.get ax).base ∧
      (s.blended.axes.get ax).vel = (s.baseStage.state.axes.get ax).vel := by
    obtain ⟨x1, x2, x3, x4, x5, h⟩ := guideStage_frame s.baseStage.runout s.baseStage.state.correctionStage
    unfold State.blended State.blendStage
    rw [h]
    cases ax <;> exact ⟨rfl, rfl⟩
  rw [evaluated_axis]
  exact hblend

/-! ### Lines that hear one source -/

/-- Between two states the lines of a source have heard nothing. -/
def State.Silent (src : Source) (s t : State) : Prop :=
  ∀ id, (s.lines.get id).source = src → t.lines.get id = s.lines.get id

theorem State.Silent.trans {src : Source} (h : s.Silent src t) (h' : t.Silent src u) : s.Silent src u := fun id hs => by
  have heq := h id hs
  rw [h' id (heq ▸ hs), heq]

theorem State.Sounds.silent {P : Source → Prop} {src : Source} (h : s.Sounds P t) (hsrc : ¬ P src) : s.Silent src t := by
  obtain ⟨_, gs, xs, hP, hl, _⟩ := h
  intro id hs
  rw [hl, giveAll_get]
  exact heard_of_not_mem fun hmem => hsrc (hP _ (hs ▸ hmem))

/-- Between two states the outputs of the TOGGLE lines of a source have flipped once. -/
def State.Rings (src : Source) (s t : State) : Prop :=
  ∀ id, (s.lines.get id).source = src → (s.lines.get id).mode = .toggle →
    t.lines.get id = { s.lines.get id with output := !(s.lines.get id).output }

theorem give_rings (src : Source) (s : State) : s.Rings src (s.give src) := fun id hs hm => by
  rw [give_line, receive_of_eq hs, trigger_toggle hm]

theorem State.Silent.rings {src : Source} (h : s.Silent src t) (h' : t.Rings src u) : s.Rings src u := fun id hs hm => by
  have heq := h id hs
  rw [h' id (heq ▸ hs) (heq ▸ hm), heq]

theorem State.Rings.silent {src : Source} (h : s.Rings src t) (h' : t.Silent src u) : s.Rings src u := fun id hs hm => by
  have heq := h id hs hm
  rw [h' id (heq ▸ hs), heq]

/-- A TOGGLE line with no timer of another source than SECOND stands after a calm event as the engine's turn leaves it. -/
theorem beside_output {σ : Side} (hb : u.side.Beside σ) {id : LineId} (hm : (u.lines.get id).mode = .toggle)
    (ht : (u.lines.get id).timer = none) (hs : (u.lines.get id).source ≠ .second) :
    ((u.withSide σ).closeEvent.lines.get id).output = (u.lines.get id).output := by
  show ((σ.lines.map EventLine.unmark).get id).output = _
  rw [lines_map_get, hb.lines id hm ht hs]
  rfl

theorem opened_lines (levels : Inputs Bool) (n : Nat) (s : State) : (s.opened levels n).lines = s.lines := by
  obtain ⟨y, z, hframe⟩ := opened_frame levels n s
  rw [hframe]

/-- A source that rings at the engine's turn flips its TOGGLE lines over the calm event. -/
theorem calm_flips {n : Nat} {σ : Side} {src : Source} (hb : (s.opened levels n).engineTurn.side.Beside σ)
    (hne : src ≠ .second) (h : (s.opened levels n).Rings src (s.opened levels n).engineTurn) :
    s.Flips src (((s.opened levels n).engineTurn.withSide σ).closeEvent) := by
  intro id hs hm ht
  have hlines := congrArg (Lines.get · id) (opened_lines levels n s)
  have hline := h id (hlines ▸ hs) (hlines ▸ hm)
  rw [hlines] at hline
  rw [beside_output hb (by rw [hline]; exact hm) (by rw [hline]; exact ht) (by rw [hline]; exact hs ▸ hne), hline]

/-- A source that is silent at the engine's turn leaves its TOGGLE lines over the calm event. -/
theorem calm_rests {n : Nat} {σ : Side} {src : Source} (hb : (s.opened levels n).engineTurn.side.Beside σ)
    (hne : src ≠ .second) (h : (s.opened levels n).Silent src (s.opened levels n).engineTurn) :
    s.Rests src (((s.opened levels n).engineTurn.withSide σ).closeEvent) := by
  intro id hs hm ht
  have hlines := congrArg (Lines.get · id) (opened_lines levels n s)
  have hline := h id (hlines ▸ hs)
  rw [hlines] at hline
  rw [beside_output hb (by rw [hline]; exact hm) (by rw [hline]; exact ht) (by rw [hline]; exact hs ▸ hne), hline]

end Sys2Proof.Machine

/-! PROOFS. The follower, the step of deceleration, and the ends of STOPPING and PARKING (R109, R110, R118 to R121). -/

namespace Sys2Proof.Machine

variable {s t u : State} {levels : Inputs Bool}

/-! ### The arithmetic of one axis -/

/-- A motion of `u` from a position, kept inside the range (R109 step 5, R118 step 3). -/
theorem bound_spec {lower upper : Int} (hle : lower ≤ upper) (pos u : Int) :
    (pos + u < lower * 65536 → Motion.bound lower upper ⟨pos + u, u⟩ = ⟨lower * 65536, 0⟩) ∧
      (upper * 65536 < pos + u → Motion.bound lower upper ⟨pos + u, u⟩ = ⟨upper * 65536, 0⟩) ∧
      (lower * 65536 ≤ pos + u → pos + u ≤ upper * 65536 → Motion.bound lower upper ⟨pos + u, u⟩ = ⟨pos + u, u⟩) := by
  unfold Motion.bound fineUnits
  dsimp only
  refine ⟨fun h => if_pos h, fun h => ?_, fun h1 h2 => ?_⟩
  · rw [if_neg (by omega), if_pos h]
  · rw [if_neg (by omega), if_neg (by omega)]

/-- A motion kept inside the range lies in it, and has the velocity it came with or 0. -/
theorem bound_mem {lower upper : Int} (hle : lower ≤ upper) (m : Motion) :
    lower * 65536 ≤ (Motion.bound lower upper m).pos ∧ (Motion.bound lower upper m).pos ≤ upper * 65536 ∧
      ((Motion.bound lower upper m).vel = m.vel ∨ (Motion.bound lower upper m).vel = 0) := by
  unfold Motion.bound fineUnits
  split
  · exact ⟨Int.le_refl _, by dsimp only; omega, .inr rfl⟩
  · split
    · exact ⟨by dsimp only; omega, Int.le_refl _, .inr rfl⟩
    · exact ⟨by omega, by omega, .inl rfl⟩

theorem brake_of_nonneg {a w : Int} (hw : 0 ≤ w) : brake a w = w - min a w ∨ brake a w = 0 ∧ w = 0 := by
  unfold brake magnitude
  rcases Int.lt_or_eq_of_le hw with h | h
  · rw [Int.sign_eq_one_of_pos h]
    left
    omega
  · rw [← h]
    exact .inr ⟨by simp, rfl⟩

theorem brake_neg (a w : Int) : brake a (-w) = -brake a w := by
  unfold brake magnitude
  rw [Int.sign_neg, Int.natAbs_neg, Int.neg_mul]
  omega

/-- Braking keeps the sign and brings the velocity toward 0 by at most `a` (R118). -/
theorem brake_pos {a w : Int} (ha : 0 ≤ a) (hw : 0 ≤ w) : 0 ≤ brake a w ∧ brake a w ≤ w ∧ brake a w = max 0 (w - a) := by
  rcases brake_of_nonneg (a := a) hw with h | ⟨h, h0⟩ <;> rw [h] <;> omega

theorem brake_nonpos {a w : Int} (ha : 0 ≤ a) (hw : w ≤ 0) : w ≤ brake a w ∧ brake a w ≤ 0 ∧ brake a w = min 0 (w + a) := by
  obtain ⟨h1, h2, h3⟩ := brake_pos ha (w := -w) (by omega)
  rw [brake_neg] at h1 h2 h3
  omega

theorem magnitude_brake {a w : Int} {n : Nat} (ha : 0 ≤ a) (h : magnitude w ≤ (n + 1 : Nat) * a) :
    magnitude (brake a w) ≤ n * a := by
  have hn : 0 ≤ (n : Int) * a := by positivity
  rw [Nat.cast_succ, Int.add_mul, Int.one_mul] at h
  rw [magnitude_le_iff] at h ⊢
  rcases Int.le_total 0 w with hw | hw
  · obtain ⟨h1, h2, h3⟩ := brake_pos ha hw
    omega
  · obtain ⟨h1, h2, h3⟩ := brake_nonpos ha hw
    omega

theorem eq_zero_of_magnitude {a w : Int} (h : magnitude w ≤ (0 : Nat) * a) : w = 0 := by
  rw [magnitude_le_iff] at h
  omega

theorem brake_rests {a : Int} (ha : 0 ≤ a) (n : Nat) (w : Int) (h : magnitude w ≤ n * a) : (brake a)^[n] w = 0 := by
  induction n generalizing w with
  | zero => exact eq_zero_of_magnitude h
  | succ n ih =>
    rw [Function.iterate_succ_apply]
    exact ih _ (magnitude_brake ha h)

theorem decelerate_vel (lower upper a : Int) (m : Motion) :
    (decelerate lower upper a m).vel = brake a m.vel ∨ (decelerate lower upper a m).vel = 0 := by
  unfold decelerate Motion.bound
  dsimp only
  split
  · exact .inr rfl
  · split
    · exact .inr rfl
    · exact .inl rfl

theorem decelerate_rests {lower upper a : Int} (ha : 0 ≤ a) (n : Nat) (m : Motion) (h : magnitude m.vel ≤ n * a) :
    ((decelerate lower upper a)^[n] m).vel = 0 := by
  induction n generalizing m with
  | zero => exact eq_zero_of_magnitude h
  | succ n ih =>
    rw [Function.iterate_succ_apply]
    refine ih _ ?_
    have hn : 0 ≤ (n : Int) * a := by positivity
    rcases decelerate_vel lower upper a m with hv | hv <;> rw [hv]
    · exact magnitude_brake ha h
    · rw [magnitude_le_iff]
      omega

theorem decelerate_mem {lower upper : Int} (hle : lower ≤ upper) (a : Int) (m : Motion) :
    lower * 65536 ≤ (decelerate lower upper a m).pos ∧ (decelerate lower upper a m).pos ≤ upper * 65536 := by
  obtain ⟨h1, h2, _⟩ := bound_mem hle ⟨m.pos + brake a m.vel, brake a m.vel⟩
  exact ⟨h1, h2⟩

/-- The cases of the follower's relative velocity (R109, R110). -/
theorem relativeVelocity_cases (e w a : Int) :
    (w ≠ 0 ∧ w.sign = e.sign ∧ magnitude e ≤ w ^ 2 / (2 * a) + magnitude w → relativeVelocity e w a = brake a w) ∧
      (¬ (w ≠ 0 ∧ w.sign = e.sign ∧ magnitude e ≤ w ^ 2 / (2 * a) + magnitude w) → e ≠ 0 →
        relativeVelocity e w a = w + e.sign * a) ∧
      (e = 0 → relativeVelocity e w a = brake a w) := by
  unfold relativeVelocity
  dsimp only
  refine ⟨fun h => if_pos h, fun h he => ?_, fun he => ?_⟩
  · rw [if_neg h, if_pos he]
  · rw [if_neg, if_neg (not_not.2 he)]
    rintro ⟨hw, hs, _⟩
    rw [he, Int.sign_zero] at hs
    exact hw (Int.sign_eq_zero_iff_zero.1 hs)

/-- The follower and the deceleration of one axis (R109, R110, R118). -/
theorem follower_axis (lower upper acc vmax g r : Int) (m : Motion) (hvmax : 1 ≤ vmax) (hle : lower ≤ upper) :
    let e := g - m.pos
    let w := m.vel - r
    let d := w ^ 2 / (2 * acc)
    let brakes := w ≠ 0 ∧ w.sign = e.sign ∧ magnitude e ≤ d + magnitude w
    let bounded (t : Motion) (u : Int) :=
      (m.pos + u < lower * 65536 → t = ⟨lower * 65536, 0⟩) ∧
        (upper * 65536 < m.pos + u → t = ⟨upper * 65536, 0⟩) ∧
        (lower * 65536 ≤ m.pos + u → m.pos + u ≤ upper * 65536 → t = ⟨m.pos + u, u⟩)
    let t := followStep lower upper acc vmax g r m
    let outcome (w' : Int) := bounded t (max (-(vmax * 65536)) (min (vmax * 65536) (r + w')))
    (brakes → outcome (w - w.sign * min acc (magnitude w))) ∧
      (¬ brakes → e ≠ 0 → outcome (w + e.sign * acc)) ∧
      (e = 0 → outcome (w - w.sign * min acc (magnitude w))) ∧
      (magnitude t.vel ≤ vmax * 65536 ∧ lower * 65536 ≤ t.pos ∧ t.pos ≤ upper * 65536) := by
  dsimp only
  obtain ⟨h1, h2, h3⟩ := relativeVelocity_cases (g - m.pos) (m.vel - r) acc
  have hstep (w' : Int) (hw : relativeVelocity (g - m.pos) (m.vel - r) acc = w') :
      followStep lower upper acc vmax g r m =
        Motion.bound lower upper ⟨m.pos + max (-(vmax * 65536)) (min (vmax * 65536) (r + w')),
          max (-(vmax * 65536)) (min (vmax * 65536) (r + w'))⟩ := by
    unfold followStep fineUnits
    rw [hw, clampAbs_eq (by omega)]
  refine ⟨fun hb => ?_, fun hb he => ?_, fun he => ?_, ?_⟩
  · rw [hstep _ (h1 hb)]
    exact bound_spec hle _ _
  · rw [hstep _ (h2 hb he)]
    exact bound_spec hle _ _
  · rw [hstep _ (h3 he)]
    exact bound_spec hle _ _
  · rw [hstep _ rfl]
    generalize relativeVelocity (g - m.pos) (m.vel - r) acc = w'
    obtain ⟨hlow, hup, hvel⟩ := bound_mem hle ⟨m.pos + max (-(vmax * 65536)) (min (vmax * 65536) (r + w')),
      max (-(vmax * 65536)) (min (vmax * 65536) (r + w'))⟩
    refine ⟨?_, hlow, hup⟩
    rw [magnitude_le_iff]
    rcases hvel with hv | hv <;> rw [hv]
    · dsimp only
      omega
    · omega

/-! ### STOPPING and PARKING at a calm event -/

theorem baseStage_of_stopping {dest : StopDest} (he : s.engine = .stopping dest) : s.baseStage = s.baseStopping := by
  simp only [State.baseStage, he]

theorem baseStage_of_parking (he : s.engine = .parking) : s.baseStage = s.baseParking := by
  simp only [State.baseStage, he]

theorem takeDecision_of_stopping {dest : StopDest} (he : s.engine = .stopping dest) (b : BaseStage) (clamped : Bool) :
    s.takeDecision b clamped = if s.axes.all (fun a => a.vel = 0) then s.arrive dest else s := by
  simp only [State.takeDecision, he]

theorem takeDecision_of_parking (he : s.engine = .parking) (b : BaseStage) (clamped : Bool) :
    s.takeDecision b clamped = if b.capture then s.parkArrives else s := by
  simp only [State.takeDecision, he]

theorem raise_box (k : Notice) (s : State) (l : Link) :
    (State.raise k s).notices.boxes.get l = (s.notices.boxes.get l).raise k := by
  cases l <;> rfl

/-- A kind just raised is latched on every link (R175). -/
theorem raise_latched {k : Notice} {i : Nat} (hk : k.bit.getLsbD i = true) (s : State) (l : Link) :
    ((State.raise k s).notices.boxes.get l).latched.getLsbD i = true := by
  rw [raise_box]
  show ((s.notices.boxes.get l).latched ||| k.bit).getLsbD i = true
  rw [BitVec.getLsbD_or, hk, Bool.or_true]

theorem withMotions_axis (m : Axes Motion) (s : State) (ax : Axis) :
    ((s.withMotions m).axes.get ax).base = (m.get ax).pos ∧ ((s.withMotions m).axes.get ax).vel = (m.get ax).vel := by
  cases ax <;> exact ⟨rfl, rfl⟩

/-- A computation in STOPPING: one step of deceleration, and at rest the arrival (R118, R119). -/
theorem computeEvent_stopping {dest : StopDest} (he : s.engine = .stopping dest) (hnone : s.activeEntry = none) :
    let m : Axes Motion := Axes.of fun ax =>
      decelerate (s.inForce.lower.get ax) (s.inForce.upper.get ax) (s.inForce.acc.get ax)
        ⟨(s.axes.get ax).base, (s.axes.get ax).vel⟩
    (∀ ax, (s.computeEvent.axes.get ax).base = (m.get ax).pos ∧ (s.computeEvent.axes.get ax).vel = (m.get ax).vel) ∧
      s.computeEvent.waitReason = s.waitReason ∧ s.computeEvent.night.entries = s.night.entries ∧
      (¬ (∀ ax, (m.get ax).vel = 0) → s.computeEvent.engine = .stopping dest ∧ s.computeEvent.enable = s.enable ∧
        s.computeEvent.night.flag = s.night.flag) ∧
      ((∀ ax, (m.get ax).vel = 0) → s.computeEvent.enable = true ∧
        (dest = .waiting → s.computeEvent.engine = .waiting ∧ s.computeEvent.night.flag = s.night.flag) ∧
        (dest = .idle → s.computeEvent.engine = .idle ∧ s.computeEvent.night.flag = false ∧
          ∀ l, (s.computeEvent.notices.boxes.get l).latched.getLsbD 9 = true)) := by
  intro m
  have hbase : s.baseStage.state = s.withMotions m := by rw [baseStage_of_stopping he]; rfl
  have hengine : s.evaluated.engine = .stopping dest := by rw [evaluated_engine, hbase]; exact he
  have hmotion (ax : Axis) : (s.evaluated.axes.get ax).base = (m.get ax).pos ∧ (s.evaluated.axes.get ax).vel = (m.get ax).vel := by
    obtain ⟨h1, h2⟩ := evaluated_motion s ax
    obtain ⟨h3, h4⟩ := withMotions_axis m s ax
    rw [h1, h2, hbase]
    exact ⟨h3, h4⟩
  have hnight := evaluated_night_of_none hnone
  have hentries := congrArg NightList.entries hnight
  have hflag := congrArg NightList.flag hnight
  have hwait : s.evaluated.waitReason = s.waitReason ∧ s.evaluated.enable = s.enable := by
    obtain ⟨a, b, c, d, e, f, g, h, i, j, k, l, hframe⟩ := evaluated_frame s
    rw [hframe]
    exact ⟨rfl, rfl⟩
  have hall : s.evaluated.axes.all (fun a => decide (a.vel = 0)) = true ↔ ∀ ax, (m.get ax).vel = 0 := by
    rw [axes_all_iff]
    refine forall_congr' fun ax => ?_
    rw [decide_eq_true_eq, (hmotion ax).2]
  rw [computeEvent_eq, takeDecision_of_stopping hengine]
  generalize s.evaluated = v at *
  by_cases hrest : ∀ ax, (m.get ax).vel = 0
  · rw [if_pos (hall.2 hrest)]
    cases dest with
    | waiting =>
      exact ⟨hmotion, hwait.1, hentries, fun h => absurd hrest h,
        fun _ => ⟨rfl, fun _ => ⟨rfl, hflag⟩, nofun⟩⟩
    | idle =>
      exact ⟨hmotion, hwait.1, hentries, fun h => absurd hrest h,
        fun _ => ⟨rfl, nofun, fun _ => ⟨rfl, rfl, raise_latched (k := .night) rfl _⟩⟩⟩
  · rw [if_neg (mt hall.1 hrest)]
    exact ⟨hmotion, hwait.1, hentries, fun _ => ⟨hengine, hwait.2, hflag⟩, fun h => absurd h hrest⟩

theorem captureTest_iff (g r : Axes Int) (m : Axes Motion) (s : State) :
    s.captureTest g r m = true ↔ ∀ ax, magnitude (g.get ax - (m.get ax).pos) ≤ s.inForce.capturePos * 65536 ∧
      magnitude ((m.get ax).vel - r.get ax) ≤ s.inForce.captureRate := by
  unfold State.captureTest
  rw [axes_all_iff]
  refine forall_congr' fun ax => ?_
  have hget : (Axes.of fun ax => captured s.inForce.capturePos s.inForce.captureRate (g.get ax) (r.get ax) (m.get ax)).get ax =
      captured s.inForce.capturePos s.inForce.captureRate (g.get ax) (r.get ax) (m.get ax) := by cases ax <;> rfl
  rw [hget, id_eq]
  unfold captured fineUnits
  rw [Bool.and_eq_true, decide_eq_true_eq, decide_eq_true_eq]

/-- A computation in PARKING: one follower step toward the park position, and the arrival there (R120, R121). -/
theorem computeEvent_parking (he : s.engine = .parking) (hnone : s.activeEntry = none) :
    let m : Axes Motion := Axes.of fun ax =>
      followStep (s.inForce.lower.get ax) (s.inForce.upper.get ax) (s.inForce.acc.get ax)
        (s.inForce.vmax.get ax) (s.inForce.park.get ax * 65536) 0
        ⟨(s.axes.get ax).base, (s.axes.get ax).vel⟩
    let arrives := ∀ ax : Axis,
      magnitude (s.inForce.park.get ax * 65536 - (m.get ax).pos) ≤ s.inForce.capturePos * 65536 ∧
        magnitude (m.get ax).vel ≤ s.inForce.captureRate
    s.computeEvent.night = s.night ∧
      (¬ arrives → s.computeEvent.engine = .parking ∧ s.computeEvent.enable = s.enable ∧
        ∀ ax, (s.computeEvent.axes.get ax).base = (m.get ax).pos ∧ (s.computeEvent.axes.get ax).vel = (m.get ax).vel) ∧
      (arrives → s.computeEvent.engine = .parked ∧ s.computeEvent.enable = false ∧
        (∀ l, (s.computeEvent.notices.boxes.get l).latched.getLsbD 9 = true) ∧
        (∀ ax : Axis, (s.computeEvent.axes.get ax).base = s.inForce.park.get ax * 65536 ∧
          (s.computeEvent.axes.get ax).vel = 0) ∧
        s.Rings .parked s.computeEvent) := by
  intro m arrives
  have hfollow : s.followTo (s.inForce.park.map (· * fineUnits)) (.const 0) = m := rfl
  have hbase : s.baseStage.state = s.withMotions m ∧
      s.baseStage.capture = s.captureTest (s.inForce.park.map (· * fineUnits)) (.const 0) m := by
    rw [baseStage_of_parking he]
    exact ⟨rfl, rfl⟩
  have hcapture : s.baseStage.capture = true ↔ arrives := by
    rw [hbase.2, captureTest_iff]
    refine forall_congr' fun ax => ?_
    have hzero : (Axes.const (0 : Int)).get ax = 0 := by cases ax <;> rfl
    rw [hzero, Int.sub_zero, get_map]
    rfl
  have hengine : s.evaluated.engine = .parking := by rw [evaluated_engine, hbase.1]; exact he
  have hmotion (ax : Axis) : (s.evaluated.axes.get ax).base = (m.get ax).pos ∧ (s.evaluated.axes.get ax).vel = (m.get ax).vel := by
    obtain ⟨h1, h2⟩ := evaluated_motion s ax
    obtain ⟨h3, h4⟩ := withMotions_axis m s ax
    rw [h1, h2, hbase.1]
    exact ⟨h3, h4⟩
  have hnight := evaluated_night_of_none hnone
  have hsilent : s.Silent .parked s.evaluated :=
    (acts_evaluated (P := fun src => src = .guideTake ∨ src = .onTargetRise ∨ src = .onTargetFall) fun _ h => h).sounds.silent
      (by rintro (h | h | h) <;> cases h)
  have hkept : s.evaluated.inForce = s.inForce ∧ s.evaluated.enable = s.enable := by
    obtain ⟨a, b, c, d, e, f, g, h, i, j, k, l, hframe⟩ := evaluated_frame s
    rw [hframe]
    exact ⟨rfl, rfl⟩
  rw [computeEvent_eq, takeDecision_of_parking hengine]
  generalize s.evaluated = v at *
  by_cases hin : arrives
  · rw [if_pos (hcapture.2 hin)]
    refine ⟨hnight, fun h => absurd hin h, fun _ => ⟨rfl, rfl, ?_, fun ax => ?_, ?_⟩⟩
    · exact raise_latched (k := .night) rfl _
    · rw [← hkept.1]
      cases ax <;> exact ⟨rfl, rfl⟩
    · refine State.Silent.rings hsilent ?_
      exact give_rings .parked (State.raise .night ({ v with
        axes := Axes.of fun ax => (v.axes.get ax).withMotion ⟨v.inForce.park.get ax * fineUnits, 0⟩ }.enter .parked))
  · rw [if_neg (mt hcapture.1 hin)]
    exact ⟨hnight, fun _ => ⟨hengine, hkept.2, hmotion⟩, fun h => absurd h hin⟩

theorem activeEntry_of_none (h : ∀ e ∈ s.night.entries, e.isActive = false) : s.activeEntry = none := by
  unfold State.activeEntry
  rw [List.find?_eq_none]
  intro e he
  rw [h e he]
  exact Bool.false_ne_true

/-- What the engine finds at a calm event: the axes, the engine, the list and the items as they stand. -/
theorem calm_opened (h : s.calm levels) (n : Nat) :
    (s.opened levels n).axes = s.axes ∧ (s.opened levels n).engine = s.engine ∧ (s.opened levels n).night = s.night ∧
      (s.opened levels n).inForce = s.inForce ∧ (s.opened levels n).enable = s.enable ∧
      (s.opened levels n).waitReason = s.waitReason := by
  have hforce := calm_inForce h n
  obtain ⟨y, z, hframe⟩ := opened_frame levels n s
  rw [hforce, hframe]
  exact ⟨rfl, rfl, rfl, rfl, rfl, rfl⟩

/-- Settles O36: the follower and the brake axis by axis, and a calm event's computation in STOPPING and in PARKING. -/
theorem followerAndDeceleration : Obligations.FollowerAndDeceleration := by
  refine ⟨fun lower upper acc vmax g r m hacc hvmax hle => ?_, fun levels order s hcalm henable hactive => ?_⟩
  · obtain ⟨h1, h2, h3, h4⟩ := follower_axis lower upper acc vmax g r m hvmax hle
    have ha : 0 ≤ acc := by omega
    have hpos (h : 0 ≤ m.vel) := brake_pos ha h
    have hneg (h : m.vel ≤ 0) := brake_nonpos ha h
    refine ⟨h1, h2, h3, h4, fun n => brake_rests ha n _, fun h => ⟨(hpos h).1, (hpos h).2.1⟩,
      fun h => ⟨(hneg h).1, (hneg h).2.1⟩, bound_spec hle _ _, fun h => ?_, fun h => ?_,
      fun n => decelerate_rests ha n m, fun n hn => ?_⟩
    · have := hpos h
      rcases decelerate_vel lower upper acc m with hv | hv <;> rw [hv] <;> omega
    · have := hneg h
      rcases decelerate_vel lower upper acc m with hv | hv <;> rw [hv] <;> omega
    · obtain ⟨k, rfl⟩ : ∃ k, n = k + 1 := ⟨n - 1, by omega⟩
      rw [Function.iterate_succ_apply']
      exact decelerate_mem hle acc _
  · obtain ⟨n, σ, hn, hexec, hb⟩ := calm_demandEvent hcalm order
    obtain ⟨haxes, hengine, hnight, hforce, hen, hwait⟩ := calm_opened hcalm n
    have hnone : (s.opened levels n).activeEntry = none := activeEntry_of_none (by rw [hnight]; exact hactive)
    refine ⟨fun dest he => ?_, fun he => ?_⟩
    · have hturn : (s.opened levels n).engineTurn = (s.opened levels n).computeEvent :=
        engineTurn_of_ne (by rw [hengine, he]; exact nofun) (by rw [hengine, he]; exact nofun)
      have hall := computeEvent_stopping (hengine.trans he) hnone
      rw [hturn] at hexec
      rw [haxes, hforce, hnight, hen, hwait, henable] at hall
      obtain ⟨hmoves, hreason, hentries, hmoving, hresting⟩ := hall
      generalize (s.opened levels n).computeEvent = u at *
      refine ⟨_, hexec, hmoves, ?_, hreason, hentries, fun h => ?_, fun h hd => ?_, fun h hd => ?_⟩
      · by_cases hrest : ∀ ax, ((Axes.of fun ax => decelerate (s.inForce.lower.get ax) (s.inForce.upper.get ax)
          (s.inForce.acc.get ax) ⟨(s.axes.get ax).base, (s.axes.get ax).vel⟩).get ax).vel = 0
        · exact (hresting hrest).1
        · exact (hmoving hrest).2.1
      · exact ⟨(hmoving h).1, (hmoving h).2.2⟩
      · exact (hresting h).2.1 hd
      · exact (hresting h).2.2 hd
    · have hturn : (s.opened levels n).engineTurn = (s.opened levels n).computeEvent :=
        engineTurn_of_ne (by rw [hengine, he]; exact nofun) (by rw [hengine, he]; exact nofun)
      have hall := computeEvent_parking (hengine.trans he) hnone
      rw [haxes, hforce, hnight, hen, henable, ← hturn] at hall
      obtain ⟨hnight', haway, harrives⟩ := hall
      refine ⟨_, hexec, hnight', haway, fun h => ?_⟩
      obtain ⟨h1, h2, h3, h4, h5⟩ := harrives h
      exact ⟨h1, h2, h3, h4, calm_flips hb nofun h5⟩

end Sys2Proof.Machine

/-! PROOFS. What every demand event does: each filter samples once, pending items take force, and the model table, the
queue, the records and the masks stay (R72, R154, R180, R190; log entries 2, 13, 20). -/

namespace Sys2Proof.Machine

variable {s t u : State} {levels : Inputs Bool}

/-! ### The filters -/

theorem inputs_get_set {α : Type} (x : Inputs α) (i j : Input) (v : α) :
    (x.set i v).get j = if i = j then v else x.get j := by
  cases i <;> cases j <;> rfl

theorem turn_input {x : Turn} {i : Input} (h : x ≠ .filter i) (s : State) : (s.turn x).inputs.get i = s.inputs.get i := by
  cases x with
  | filter j =>
    show (s.filterInput j).inputs.get i = _
    rw [State.filterInput_inputs, inputs_get_set, if_neg]
    rintro rfl
    exact h rfl
  | engine => exact congrArg (Inputs.get · i) (State.engineTurn_inputs s)
  | line id =>
    show (s.lineTurn id).inputs.get i = _
    unfold State.lineTurn
    dsimp only
    repeat' split
    all_goals rfl
  | second =>
    show s.secondTurn.inputs.get i = _
    unfold State.secondTurn
    split <;> rfl

theorem turns_input {l : List Turn} {i : Input} (h : Turn.filter i ∉ l) (s : State) :
    (l.foldl State.turn s).inputs.get i = s.inputs.get i := by
  induction l generalizing s with
  | nil => rfl
  | cons x rest ih =>
    obtain ⟨hx, hrest⟩ := not_or.1 (mt List.mem_cons.2 h)
    rw [List.foldl_cons, ih hrest, turn_input (Ne.symm hx)]

/-- A filter samples its pin once in a demand event (R154). -/
theorem runEvent_input (levels : Inputs Bool) (order : List Turn) (s : State) (i : Input) :
    (s.runEvent levels order).inputs.get i = (s.inputs.get i).sample (showsLevel levels i) := by
  obtain ⟨pre, post, hsplit, hpre, hpost⟩ := completeOrder_split (.filter i) order
  have hrun : s.runEvent levels order =
      (post.foldl State.turn ((pre.foldl State.turn (s.openEvent levels)).filterInput i)).closeEvent := by
    unfold State.runEvent
    rw [hsplit, List.foldl_append]
    rfl
  rw [hrun]
  show ((post.foldl State.turn ((pre.foldl State.turn (s.openEvent levels)).filterInput i)).inputs.get i) = _
  rw [turns_input hpost, State.filterInput_inputs, inputs_get_set, if_pos rfl, turns_input hpre, State.turns_pins]
  rfl

/-! ### What no turn changes -/

theorem Signalled.masks (h : Signalled s t) (l : Link) : (t.notices.boxes.get l).mask = (s.notices.boxes.get l).mask := by
  induction h with
  | refl => rfl
  | same _ hsame ih => rw [hsame.boxes, ih]
  | raise k _ ih => rw [raise_box]; exact ih
  | give src _ ih => exact ih

theorem move_masks (h : Move s t) (l : Link) : (t.notices.boxes.get l).mask = (s.notices.boxes.get l).mask := by
  rcases move_signals h with h | ⟨_, rfl⟩
  · exact h.masks l
  · rfl

theorem records_updateFirst {p : Entry → Bool} {f : Entry → Entry} {l : List Entry}
    (h : ∀ e, l.find? p = some e → (f e).record = e.record) :
    ((updateFirst p f l).map fun e => e.record) = l.map fun e => e.record := by
  rcases hfind : l.find? p with _ | e
  · rw [updateFirst_of_find?_none hfind]
  · obtain ⟨before, after, hl, _, _, hf⟩ := updateFirst_of_find?_some hfind
    rw [hf, hl, List.map_append, List.map_append, List.map_cons, List.map_cons, h e hfind]

theorem move_records (h : Move s t) :
    (t.night.entries.map fun e => e.record) = (s.night.entries.map fun e => e.record) := by
  have hedits := move_edits (ordered := False) h False.elim
  change (t.pool.1.map fun e => e.record) = (s.pool.1.map fun e => e.record)
  generalize s.pool = x at hedits
  generalize t.pool = y at hedits
  induction hedits with
  | refl => rfl
  | tail _ hedit ih =>
    obtain ⟨p, f, hedit⟩ := hedit
    rw [← ih, hedit.entries]
    exact records_updateFirst fun e he => (hedit.found e he).1.record

/-- The model table's entries and pointers, the records and the masks along a demand event. -/
theorem runEvent_keeps_rest (levels : Inputs Bool) (order : List Turn) (s : State) :
    (s.runEvent levels order).model.cells = s.model.cells ∧ (s.runEvent levels order).model.writePtr = s.model.writePtr ∧
      (s.runEvent levels order).model.readPtr = s.model.readPtr ∧
      ((s.runEvent levels order).night.entries.map fun e => e.record) = (s.night.entries.map fun e => e.record) ∧
      ∀ l, ((s.runEvent levels order).notices.boxes.get l).mask = (s.notices.boxes.get l).mask := by
  obtain ⟨t, hmoves, ht⟩ := runEvent_moves levels order s
  have htables := Moves.keep (P := s.SameTables) (fun _ _ hm h =>
    ⟨(move_tables hm).ports.trans h.ports, (move_tables hm).cells.trans h.cells, (move_tables hm).writePtr.trans h.writePtr,
      (move_tables hm).readPtr.trans h.readPtr, (move_tables hm).pending.trans h.pending,
      (move_tables hm).resetLow.trans h.resetLow⟩) hmoves ⟨rfl, rfl, rfl, rfl, rfl, rfl⟩
  have hrecords := Moves.keep (P := fun t => (t.night.entries.map fun e => e.record) = (s.night.entries.map fun e => e.record))
    (fun _ _ hm h => (move_records hm).trans h) hmoves rfl
  have hmasks := Moves.keep (P := fun t => ∀ l, (t.notices.boxes.get l).mask = (s.notices.boxes.get l).mask)
    (fun _ _ hm h l => (move_masks hm l).trans (h l)) hmoves fun _ => rfl
  rw [ht]
  exact ⟨htables.cells, htables.writePtr, htables.readPtr, hrecords, hmasks⟩

/-! ### A held base -/

theorem roundCounts_eq (x : Int) : roundCounts x = (x + 32768) / 65536 := by
  unfold roundCounts roundDiv fineUnits
  omega

theorem baseStage_of_held (he : s.engine = .idle ∨ s.engine = .waiting ∨ s.engine = .parked) : s.baseStage = s.baseHeld := by
  rcases he with he | he | he <;> simp only [State.baseStage, he]

/-- A computation in IDLE, WAITING or PARKED holds the base, and evaluates its correction last (R60, R61, R73). -/
theorem computeEvent_held (he : s.engine = .idle ∨ s.engine = .waiting ∨ s.engine = .parked) :
    (∀ ax, (s.computeEvent.axes.get ax).base = (s.axes.get ax).base ∧ (s.computeEvent.axes.get ax).vel = 0) ∧
      s.computeEvent.model.last =
        modelCorrection s.computeEvent.model.cells s.computeEvent.model.pageInUse (roundCounts s.axes.az.base)
          (roundCounts s.axes.el.base) := by
  have hbase := baseStage_of_held he
  have hengine : s.evaluated.engine = s.engine := by rw [evaluated_engine, hbase]; rfl
  have hdecide : (s.evaluated.takeDecision s.baseStage s.clampedNow).axes = s.evaluated.axes := by
    unfold State.takeDecision
    rcases he with he | he | he <;> rw [hengine, he]
    exact scan_axes _ _ _
  have hcompute := computeEvent_eq s
  refine ⟨fun ax => ?_, ?_⟩
  · obtain ⟨h1, h2⟩ := evaluated_motion s ax
    rw [hcompute, State.evaluateCorrection_axes, hdecide, h1, h2, hbase]
    cases ax <;> exact ⟨rfl, rfl⟩
  · rw [hcompute, hbase]
    rfl

theorem spurious_runEvent (levels : Inputs Bool) (order : List Turn) (s : State) :
    (s.runEvent levels order).time.spurious = s.time.spurious ∧ (s.runEvent levels order).time.timeValid = s.time.timeValid ∧
      (s.runEvent levels order).time.mountTime = s.time.mountTime ∧ (s.runEvent levels order).time.eventDue = false := by
  rw [State.runEvent_time]
  exact ⟨rfl, rfl, rfl, rfl⟩

/-- Settles O44: the opening of the event, the turn of each filter, and what the moves of every turn leave. -/
theorem demandEventSamplesAndCommits : Obligations.DemandEventSamplesAndCommits := by
  intro levels order s
  refine ⟨fun h => by rw [exec_demandEvent, demandEvent_of_not_counting h], fun hcount => ?_⟩
  refine ⟨_, exec_demandEvent levels order s, ?_⟩
  obtain ⟨hreset, hsome⟩ := id hcount
  obtain ⟨n, hn⟩ := Option.isSome_iff_exists.1 hsome
  have hrun := demandEvent_eq hreset hn levels order
  obtain ⟨y, z, hframe⟩ := elapse_frame n s
  obtain ⟨hspur, hvalid, hmount, hdue⟩ := spurious_runEvent levels order (s.elapse n)
  obtain ⟨hcells, hwrite, hread, hrecords, hmasks⟩ := runEvent_keeps_rest levels order (s.elapse n)
  have hinput := runEvent_input levels order (s.elapse n)
  have hitems : ∀ i : Item, ((s.elapse n).runEvent levels order).inForce.get i = s.latest i ∧
      ((s.elapse n).runEvent levels order).pendingItems.get i = none := by
    intro i
    rw [State.runEvent_inForce, State.runEvent_pendingItems, Items.get_const, hframe]
    exact ⟨Items.get_orElse s.pendingItems s.inForce i, rfl⟩
  have hrest : ((s.elapse n).runEvent levels order).pins = levels ∧
      ((s.elapse n).runEvent levels order).pending = s.pending ∧
      ((s.elapse n).runEvent levels order).ports = s.ports.map (Port.pass n) ∧
      ((s.elapse n).runEvent levels order).resetLow = s.resetLow := by
    refine ⟨by simp, by simp, ?_, by simp⟩
    rw [State.runEvent_ports, hframe]
  have hmask (l : Link) : ((s.elapse n).notices.boxes.get l).mask = (s.notices.boxes.get l).mask :=
    elapse_notices (P := fun x => (x.boxes.get l).mask = (s.notices.boxes.get l).mask) n s rfl fun u h => by
      rw [raise_box]
      exact h
  rw [hrun]
  refine ⟨hmount.trans (elapse_to_event hn), hdue, hrest.1, hitems, fun i => ?_, ?_, ?_, ?_, hrest.2.1, fun n' hn' => ?_,
    hrest.2.2.2, hvalid.trans (elapse_timeValid n s), hspur.trans (elapse_spurious n s), ?_,
    fun l => (hmasks l).trans (hmask l), fun hcalm he => ?_⟩
  · rw [hinput, hframe]
    exact ⟨rfl, rfl⟩
  · rw [hcells, hframe]
  · rw [hwrite, hframe]
  · rw [hread, hframe]
  · rw [hn] at hn'
    cases hn'
    exact hrest.2.2.1
  · rw [hrecords, hframe]
  · obtain ⟨n', σ, hn', hevent, _⟩ := calm_event hcalm order
    obtain ⟨haxes, hengine, -, -, -, -⟩ := calm_opened hcalm n'
    have hheld := computeEvent_held (s := s.opened levels n') (by rw [hengine]; exact he)
    have hturn : (s.opened levels n').engineTurn = (s.opened levels n').computeEvent := by
      refine engineTurn_of_ne ?_ ?_ <;> rw [hengine] <;> rcases he with he | he | he <;> rw [he] <;> exact nofun
    have hcells' : ((s.opened levels n').engineTurn).model.cells = s.model.cells := by
      have := hcells.trans (congrArg (fun x => x.model.cells) hframe)
      rw [← hrun, hevent] at this
      exact this
    rw [← hrun, hevent]
    rw [← hturn, haxes, hcells'] at hheld
    exact ⟨hheld.1, hheld.2.trans (by rw [roundCounts_eq, roundCounts_eq]; rfl)⟩

end Sys2Proof.Machine

/-! PROOFS. The computation of a demand event on a target: the guide unit's part, the wanted offset and the demand, and
what the entry counts (R31, R73, R74, R79 to R85, R130, R132). -/

namespace Sys2Proof.Machine

variable {s t u : State} {levels : Inputs Bool} {e : Entry} {p : Axes Int} {w : Int}

/-! ### The guide unit's part -/

/-- The guide unit after the take (R130). -/
def Guide.taken (range : Int) (g : Guide) : Guide :=
  match g.mailbox with
  | none => g
  | some m => { g with mailbox := none, offset := (g.offset.map₂ (· + ·) m.correction).map (clampAbs range) }

/-- The guide unit after its timer (R132). -/
def Guide.timed (timeout : Int) (g : Guide) : Guide :=
  match g.state with
  | .guiding n => { g with state := if timeout ≤ (n + 1 : Nat) then .lost else .guiding (n + 1) }
  | .off | .seeking | .lost => g

/-- What the ACTIVE entry counts of a take (R31, R130). -/
def Guide.takeTally (range : Int) (g : Guide) (y : Tally) : Tally :=
  match g.mailbox with
  | none => y
  | some m =>
    let sum := g.offset.map₂ (· + ·) m.correction
    { y with
      guideSaturations := count32 y.guideSaturations (if sum.map (clampAbs range) = sum then 0 else 1)
      guideTaken := count32 y.guideTaken 1
      guideMerged := count32 y.guideMerged m.merges }

theorem takeMailbox_guide_eq (s : State) : s.takeMailbox.guide = s.guide.taken s.inForce.guideRange := by
  unfold Guide.taken
  cases hm : s.guide.mailbox with
  | none => rw [takeMailbox_of_none hm]
  | some m =>
    rw [takeMailbox_of_some hm]
    rfl

theorem countGuide_guide_eq (s : State) : s.countGuide.guide = s.guide.timed s.inForce.guideTimeout := by
  unfold State.countGuide Guide.timed
  cases s.guide.state with
  | guiding n =>
    dsimp only
    split <;> rfl
  | _ => rfl

theorem taken_state (range : Int) (g : Guide) : (g.taken range).state = g.state := by
  unfold Guide.taken
  split <;> rfl

theorem timed_offset (timeout : Int) (g : Guide) : (g.timed timeout).offset = g.offset ∧ (g.timed timeout).mailbox = g.mailbox := by
  unfold Guide.timed
  split <;> exact ⟨rfl, rfl⟩

/-! ### What the entry counts -/

/-- Between two states the ACTIVE entry has counted, and of the list nothing else has changed. -/
def State.Tallied (f : Tally → Tally) (s t : State) : Prop :=
  t.night = { s.night with entries := updateFirst Entry.isActive (Entry.onTally f) s.night.entries }

theorem onTally_id (e : Entry) : Entry.onTally id e = e := by
  unfold Entry.onTally
  rw [Option.map_id]
  rfl

theorem updateFirst_id (q : Entry → Bool) (l : List Entry) : updateFirst q (Entry.onTally id) l = l := by
  induction l with
  | nil => rfl
  | cons x rest ih =>
    unfold updateFirst
    rw [ih, onTally_id]
    split <;> rfl

theorem State.Tallied.of_night (h : t.night = s.night) : s.Tallied id t := by
  unfold State.Tallied
  rw [h, updateFirst_id]

theorem onActive_tallied (f : Tally → Tally) (s : State) : s.Tallied f (s.onActive (Entry.onTally f)) := rfl

theorem onTally_onTally (f g : Tally → Tally) (e : Entry) : Entry.onTally g (Entry.onTally f e) = Entry.onTally (g ∘ f) e := by
  unfold Entry.onTally
  dsimp only
  rw [Option.map_map]

theorem State.Tallied.trans {f g : Tally → Tally} (h : s.Tallied f t) (h' : t.Tallied g u) : s.Tallied (g ∘ f) u := by
  unfold State.Tallied at *
  rw [h', h]
  dsimp only
  rw [updateFirst_updateFirst (fun x hx => (isActive_onTally f x).trans hx)]
  simp only [onTally_onTally]

theorem State.Tallied.night (h : s.Tallied id t) : t.night = s.night := by
  unfold State.Tallied at h
  rw [h, updateFirst_id]

/-- The ACTIVE entry after it has counted. -/
theorem State.Tallied.activeEntry {f : Tally → Tally} (h : s.Tallied f t) (he : s.activeEntry = some e) :
    t.activeEntry = some (Entry.onTally f e) := by
  unfold State.activeEntry at *
  unfold State.Tallied at h
  rw [h]
  dsimp only
  obtain ⟨before, after, _, hbefore, hactive, hf⟩ := updateFirst_of_find?_some he
  rw [hf, List.find?_append, List.find?_eq_none.2 (fun x hx => by rw [hbefore x hx]; exact Bool.false_ne_true), Option.none_or,
    List.find?_cons, isActive_onTally, hactive]

theorem takeMailbox_tallied (s : State) : s.Tallied (s.guide.takeTally s.inForce.guideRange) s.takeMailbox := by
  cases hm : s.guide.mailbox with
  | none =>
    have hid : s.guide.takeTally s.inForce.guideRange = id := by
      funext y
      unfold Guide.takeTally
      rw [hm]
      rfl
    rw [takeMailbox_of_none hm, hid]
    exact .of_night rfl
  | some m =>
    rw [takeMailbox_of_some hm]
    have htally : s.guide.takeTally s.inForce.guideRange = fun y =>
        { y with
          guideSaturations := count32 y.guideSaturations
            (if (s.guide.offset.map₂ (· + ·) m.correction).map (clampAbs s.inForce.guideRange) =
              s.guide.offset.map₂ (· + ·) m.correction then 0 else 1)
          guideTaken := count32 y.guideTaken 1
          guideMerged := count32 y.guideMerged m.merges } := by
      funext y
      unfold Guide.takeTally
      rw [hm]
    rw [htally]
    rfl

/-! ### The base of a target -/

theorem aim_of_fixed (he : s.activeEntry = some e) (hk : e.record.kind = .fixed p) (hw : e.results.wrapOffset = some w) :
    s.aim = some (s, fixedPositions p w, .const 0) := by
  unfold State.aim
  rw [he]
  dsimp only
  rw [hk, hw]
  rfl

theorem baseStage_of_follows (h : s.engine.followsTarget = true) : s.baseStage = s.baseTarget := by
  unfold State.baseStage
  split <;> first | rfl | (rename_i he; rw [he] at h; cases h)

theorem baseStage_of_slewing {n : Nat} {az : Int} (h : s.engine = .slewing n az) : s.baseStage = s.baseSlewing n := by
  simp only [State.baseStage, h]

/-! ### The stages up to the blend -/

/-- The state after the guide unit's part of the blend stage. -/
def State.guided (s : State) : State := s.baseStage.state.correctionStage.guideStage s.baseStage.runout

theorem blended_guided (s : State) :
    s.blended =
      { s.guided with
        axes := (s.guided.wantedOf s.baseStage.runout).map₂ (AxisState.blend s.guided.inForce.cstep) s.guided.axes } := rfl

theorem guided_frame (s : State) : ∃ v w x y z, s.guided =
    { s.baseStage.state.correctionStage with night := v, guide := w, lines := x, notices := y, expiries := z } :=
  guideStage_frame _ _

/-- The blend of one axis toward the offset that the stages want (R79, R81). -/
theorem blended_axis_eq (s : State) (ax : Axis) :
    s.blended.axes.get ax =
      (s.baseStage.state.axes.get ax).blend s.inForce.cstep ((s.guided.wantedOf s.baseStage.runout).get ax) := by
  obtain ⟨v, w, x, y, z, h⟩ := guided_frame s
  have hforce : s.guided.inForce = s.inForce := by rw [h]; simp
  have haxes : s.guided.axes = s.baseStage.state.axes := by rw [h]; rfl
  rw [blended_guided, hforce, haxes]
  cases ax <;> rfl

/-- The correction of the base that the stages leave (R61). -/
theorem guided_model (s : State) (hm : s.baseStage.state.model = s.model) :
    s.guided.model =
      { s.model with
        last := modelCorrection s.model.cells s.model.pageInUse (roundCounts s.baseStage.state.axes.az.base)
          (roundCounts s.baseStage.state.axes.el.base) } := by
  obtain ⟨v, w, x, y, z, h⟩ := guided_frame s
  rw [h, ← hm]
  rfl

theorem baseStage_model (s : State) : s.baseStage.state.model = s.model := by
  obtain ⟨w, x, y, z, h⟩ := baseStage_frame s
  rw [h]

/-- The guide unit after the stages of a state that follows a target (R130, R132). -/
theorem guided_guide (hf : s.engine.followsTarget = true) (hr : s.baseStage.runout = false) :
    s.guided.guide = (s.guide.taken s.inForce.guideRange).timed s.inForce.guideTimeout := by
  obtain ⟨w, x, y, z, hb⟩ := baseStage_frame s
  have hengine : s.baseStage.state.correctionStage.engine.followsTarget = true := by
    show s.baseStage.state.engine.followsTarget = true
    rcases baseStage_engine s with h | ⟨⟨n, az, h⟩, _⟩
    · rw [h]; exact hf
    · rw [h] at hf; cases hf
  have hforce : s.baseStage.state.correctionStage.takeMailbox.inForce = s.inForce := by simp
  have hguide : s.baseStage.state.correctionStage.guide = s.guide := by
    show s.baseStage.state.guide = _
    rw [hb]
  have hforce' : s.baseStage.state.correctionStage.inForce = s.inForce := by simp
  unfold State.guided State.guideStage
  rw [if_pos hengine, hr, if_neg Bool.false_ne_true, countGuide_guide_eq, takeMailbox_guide_eq, hforce, hforce', hguide]

/-- Outside the states that follow a target the guide unit stands (R126, R130). -/
theorem guided_guide_of_slewing {n : Nat} {az : Int} (he : s.engine = .slewing n az) : s.guided.guide = s.guide := by
  obtain ⟨w, x, y, z, hb⟩ := baseStage_frame s
  have hengine : s.baseStage.state.correctionStage.engine.followsTarget = false := by
    show s.baseStage.state.engine.followsTarget = false
    rcases baseStage_engine s with h | ⟨_, n', az', h⟩ <;> rw [h]
    · rw [he]; rfl
    · rfl
  unfold State.guided State.guideStage
  rw [if_neg (by rw [hengine]; exact Bool.false_ne_true)]
  show s.baseStage.state.guide = _
  rw [hb]

/-- The wanted offset in a target state (R79). -/
theorem guided_wanted (ht : s.engine.isTarget = true) (hr : s.baseStage.runout = false) :
    s.guided.wantedOf s.baseStage.runout =
      ⟨s.guided.model.last.az + s.guided.guide.offset.az + s.guided.axes.az.host,
        s.guided.model.last.el + s.guided.guide.offset.el + s.guided.axes.el.host, s.guided.axes.rot.host⟩ := by
  obtain ⟨v, w, x, y, z, h⟩ := guided_frame s
  have hengine : s.guided.engine.isTarget = true := by
    have he : s.guided.engine = s.baseStage.state.engine := by rw [h]; rfl
    rw [he]
    rcases baseStage_engine s with h | ⟨_, n', az', h⟩ <;> rw [h]
    · exact ht
    · rfl
  unfold State.wantedOf
  rw [hengine, hr]
  rfl

theorem baseStage_host (hr : s.baseStage.runout = false) (ax : Axis) :
    (s.baseStage.state.axes.get ax).host = (s.axes.get ax).host ∧ (s.baseStage.state.axes.get ax).applied = (s.axes.get ax).applied := by
  rcases baseStage_axes s with ⟨h, _⟩ | ⟨m, h⟩
  · rw [h] at hr; cases hr
  · rw [h]
    cases ax <;> exact ⟨rfl, rfl⟩

/-! ### What the entry counts at an event -/

/-- What the largest lags of the ACTIVE entry take of the lags of an event (R32). -/
def lagTally (axes : Axes AxisState) (y : Tally) : Tally :=
  { y with largestLag := y.largestLag.map₂ (fun old a => max old (min 4294967295 a.lag.natAbs)) axes }

/-- A millisecond on target, where it is one (R31). -/
def onTargetTally (b : Bool) (y : Tally) : Tally :=
  if b then { y with onTargetMs := count32 y.onTargetMs 1 } else y

theorem guided_tallied (s : State) :
    s.baseStage.state.Tallied
      (if s.engine.followsTarget = true ∧ s.baseStage.runout = false then s.guide.takeTally s.inForce.guideRange else id)
      s.guided := by
  obtain ⟨w, x, y, z, hb⟩ := baseStage_frame s
  have hengine : s.baseStage.state.correctionStage.engine.followsTarget = s.engine.followsTarget := by
    show s.baseStage.state.engine.followsTarget = _
    rcases baseStage_engine s with h | ⟨⟨n, az, h⟩, n', az', h'⟩
    · rw [h]
    · rw [h', h]; rfl
  have hguide : s.baseStage.state.correctionStage.guide.takeTally s.baseStage.state.correctionStage.inForce.guideRange =
      s.guide.takeTally s.inForce.guideRange := by
    have hforce : s.baseStage.state.correctionStage.inForce = s.inForce := by simp
    rw [hforce]
    show s.baseStage.state.guide.takeTally _ = _
    rw [hb]
  have hcount (v : State) : v.countGuide.night = v.night := by
    obtain ⟨x, y, z, h⟩ := countGuide_frame v
    rw [h]
  have htake : s.baseStage.state.Tallied (s.guide.takeTally s.inForce.guideRange)
      s.baseStage.state.correctionStage.takeMailbox := by
    rw [← hguide]
    exact takeMailbox_tallied s.baseStage.state.correctionStage
  have hnone (v : State) (hv : v.night = s.baseStage.state.night) : s.baseStage.state.Tallied id v := .of_night hv
  unfold State.guided State.guideStage
  cases hf : s.engine.followsTarget with
  | false =>
    rw [hf] at hengine
    rw [if_neg (by rintro ⟨h, _⟩; cases h), if_neg (by rw [hengine]; exact Bool.false_ne_true)]
    exact hnone _ rfl
  | true =>
    rw [hf] at hengine
    rw [if_pos hengine]
    cases hr : s.baseStage.runout with
    | true =>
      rw [if_neg (by rintro ⟨_, h⟩; cases h), if_pos rfl]
      exact hnone _ (hcount _)
    | false =>
      rw [if_pos ⟨rfl, rfl⟩, if_neg Bool.false_ne_true]
      unfold State.Tallied at htake ⊢
      rw [hcount]
      exact htake

theorem stepStage_tallied (s : State) : s.Tallied (lagTally s.limitStage.stepStage.axes) s.limitStage.stepStage := rfl

theorem setOnTarget_tallied (b : Bool) (s : State) : (s.setOnTarget b).night = s.night := by
  obtain ⟨x, y, z, h⟩ := setOnTarget_frame b s
  rw [h]

theorem evaluateOnTarget_tallied (runout : Bool) (s : State) :
    s.Tallied (onTargetTally (s.onTargetNow runout)) (s.evaluateOnTarget runout) := by
  have hset : s.Tallied id (s.setOnTarget (s.onTargetNow runout)) := .of_night (setOnTarget_tallied _ s)
  unfold State.evaluateOnTarget onTargetTally
  dsimp only
  split
  · exact hset.trans (onActive_tallied _ _)
  · exact hset

/-- What the entry counts at an event: the take, the lags and the millisecond on target (R31, R32, R130). -/
def State.eventTally (s : State) (y : Tally) : Tally :=
  onTargetTally s.evaluated.onTarget (lagTally s.evaluated.axes
    (if s.engine.followsTarget = true ∧ s.baseStage.runout = false then s.guide.takeTally s.inForce.guideRange y else y))

theorem setOnTarget_onTarget (b : Bool) (s : State) : (s.setOnTarget b).onTarget = b := by
  unfold State.setOnTarget
  split
  · assumption
  · rfl

/-- The state that the ON_TARGET evaluation finds. -/
def State.judgedNow (s : State) : State := (s.blended.limitStage.stepStage).judgeAlignment

theorem evaluated_judgedNow (s : State) : s.evaluated = s.judgedNow.evaluateOnTarget s.baseStage.runout := rfl

theorem evaluated_onTarget (s : State) : s.evaluated.onTarget = s.judgedNow.onTargetNow s.baseStage.runout := by
  rw [evaluated_judgedNow]
  unfold State.evaluateOnTarget
  dsimp only
  split
  · exact setOnTarget_onTarget _ _
  · exact setOnTarget_onTarget _ _

theorem judgedNow_axes (s : State) : s.judgedNow.axes = s.blended.limitStage.stepStage.axes ∧ s.evaluated.axes = s.judgedNow.axes := by
  refine ⟨?_, ?_⟩
  · obtain ⟨x, y, h⟩ := judgeAlignment_frame s.blended.limitStage.stepStage
    unfold State.judgedNow
    rw [h]
  · rw [evaluated_judgedNow, evaluateOnTarget_axes]

theorem evaluated_tallied (s : State) : s.baseStage.state.Tallied s.eventTally s.evaluated := by
  have hguided := guided_tallied s
  have hblend : s.guided.Tallied id s.blended := .of_night rfl
  have hstep : s.blended.Tallied (lagTally s.evaluated.axes) s.blended.limitStage.stepStage := by
    rw [(judgedNow_axes s).2, (judgedNow_axes s).1]
    exact stepStage_tallied s.blended
  have hjudged : s.blended.limitStage.stepStage.Tallied id s.judgedNow := by
    obtain ⟨x, y, h⟩ := judgeAlignment_frame s.blended.limitStage.stepStage
    refine .of_night ?_
    unfold State.judgedNow
    rw [h]
  have heval := evaluateOnTarget_tallied s.baseStage.runout s.judgedNow
  rw [← evaluated_onTarget] at heval
  have hall := (((hguided.trans hblend).trans hstep).trans hjudged).trans heval
  have hfun : s.eventTally = onTargetTally s.evaluated.onTarget ∘ id ∘ lagTally s.evaluated.axes ∘ id ∘
      (if s.engine.followsTarget = true ∧ s.baseStage.runout = false then s.guide.takeTally s.inForce.guideRange else id) := by
    funext y
    unfold State.eventTally
    dsimp only [Function.comp]
    split <;> rfl
  rw [hfun]
  exact hall

end Sys2Proof.Machine

/-! PROOFS. The end of a target at a demand event: the entry written, TARGET_END noticed and given, the axes folded, and
what the selection after it leaves of that (R25, R28, R91, R98, R104). -/

namespace Sys2Proof.Machine

variable {s t u : State} {levels : Inputs Bool} {e x : Entry} {p : Axes Int} {w : Int}

/-! ### Notices once raised -/

theorem raise_noticed (k : Notice) (s : State) : (State.raise k s).Noticed k := by
  intro l
  rw [raise_box]
  show ((s.notices.boxes.get l).latched ||| k.bit) &&& k.bit ≠ 0
  rw [BitVec.and_or_distrib_right, BitVec.and_self]
  intro h
  have hbit := (BitVec.or_eq_zero_iff.1 h).2
  cases k <;> exact absurd hbit (by decide)

/-- A kind latched stays latched while notices are raised and events given (R175). -/
theorem Signalled.noticed {k : Notice} (h : Signalled s t) (hs : s.Noticed k) : t.Noticed k := by
  induction h with
  | refl => exact hs
  | same _ hsame ih =>
    intro l
    rw [hsame.boxes]
    exact ih l
  | raise k' _ ih =>
    intro l
    rw [raise_box]
    show ((_ : NoticeBox).latched ||| k'.bit) &&& k.bit ≠ 0
    rw [BitVec.and_or_distrib_right]
    exact fun h => ih l (BitVec.or_eq_zero_iff.1 h).1
  | give src _ ih => exact ih

/-! ### Selection leaves what is not PENDING -/

theorem mem_updateFirst {q : Entry → Bool} {f : Entry → Entry} {l : List Entry} (hx : x ∈ l) (hq : q x = false) :
    x ∈ updateFirst q f l := by
  induction l with
  | nil => cases hx
  | cons y rest ih =>
    unfold updateFirst
    rcases List.mem_cons.1 hx with rfl | hx
    · rw [hq]
      exact List.mem_cons_self
    · split
      · exact List.mem_cons_of_mem _ hx
      · exact List.mem_cons_of_mem _ (ih hx)

/-- Selection leaves the entries that are not PENDING (R104). -/
theorem mem_scan (b : Bool) (n : Nat) (s : State) (hx : x ∈ s.night.entries) (hp : x.isPending = false) :
    x ∈ (State.scan b n s).night.entries := by
  obtain ⟨s', hs', h⟩ := State.scan_cases (P := fun v => x ∈ v.night.entries) b
    (fun _ _ _ h _ => mem_updateFirst h hp) (fun _ _ h _ => mem_updateFirst h hp) n s hx
  rcases h with ⟨r, h⟩ | ⟨e, k, az, _, h⟩ <;> rw [h]
  · unfold State.wait; dsimp only; split <;> split <;> exact hs'
  · have hstart : (s'.onPending (Entry.activate s'.time.mountTime k)).night.entries =
        updateFirst Entry.isPending (Entry.activate s'.time.mountTime k) s'.night.entries := rfl
    have hmem : x ∈ updateFirst Entry.isPending (Entry.activate s'.time.mountTime k) s'.night.entries := mem_updateFirst hs' hp
    unfold State.start; dsimp only; split <;> exact hmem

theorem scan_onTarget (b : Bool) (n : Nat) (s : State) : (State.scan b n s).onTarget = s.onTarget := by
  obtain ⟨s', hs', h⟩ := State.scan_cases (P := fun v => v.onTarget = s.onTarget) b
    (fun _ _ _ h _ => h) (fun _ _ h _ => h) n s rfl
  rcases h with ⟨r, h⟩ | ⟨e, k, az, _, h⟩ <;> rw [h]
  · unfold State.wait; dsimp only; split <;> split <;> exact hs'
  · unfold State.start; dsimp only; split <;> exact hs'

/-! ### The end and the selection after it -/

/-- The entry that the end of `e` as `o` writes, with its discards counted (R28, R31, R134). -/
def State.written (o : EndOutcome) (e : Entry) (s : State) : Entry :=
  { e with
    status := .ended o
    chain := []
    results :=
      { e.results with
        endedAt := some s.time.mountTime
        tally := e.results.tally.map fun y =>
          { y with guideDiscarded := min 4294967295 (y.guideDiscarded + s.guide.held) } } }

theorem mem_updateFirst_found {l : List Entry} (h : l.find? Entry.isActive = some e) :
    x ∈ updateFirst Entry.isActive (fun _ => x) l := by
  obtain ⟨before, after, _, _, _, hf⟩ := updateFirst_of_find?_some h
  rw [hf]
  exact List.mem_append_right _ List.mem_cons_self

/-- What the end of the ACTIVE entry and the selection after it leave (R28, R91, R98). -/
structure State.EndsAs (o : EndOutcome) (e : Entry) (s t : State) : Prop where
  written : s.written o e ∈ t.night.entries
  onTarget : t.onTarget = false
  noticed : t.Noticed .targetEnd
  rings : s.Rings .targetEnd t
  axes : t.axes = s.axes.map AxisState.fold
  silent : ∀ src, src ≠ .targetEnd → src ≠ .onTargetFall → src ≠ .targetStart → s.Silent src t
  expiries : ∀ y ∈ s.expiries, y ∈ t.expiries

theorem State.Sounds.expiries_mem {P : Source → Prop} (h : s.Sounds P t) {y : Expiry} (hy : y ∈ s.expiries) : y ∈ t.expiries := by
  obtain ⟨_, gs, xs, _, _, hx⟩ := h
  rw [hx]
  exact List.mem_append_left _ hy

theorem setOnTarget_silent (b : Bool) {src : Source} (h : src ≠ .onTargetRise) (h' : src ≠ .onTargetFall) (s : State) :
    s.Silent src (s.setOnTarget b) :=
  (acts_setOnTarget (P := fun x => x = .onTargetRise ∨ x = .onTargetFall) (by cases b <;> simp)).sounds.silent (not_or.2 ⟨h, h'⟩)

theorem endActive_rings (o : EndOutcome) (he : s.activeEntry = some e) : s.Rings .targetEnd (s.endActive o) := by
  have hsame : (s.endWritten o e).lines = s.lines := rfl
  rw [endActive_of_some he]
  generalize s.endWritten o e = v at hsame
  have hring := give_rings .targetEnd v
  have hfall := setOnTarget_silent false (src := .targetEnd) nofun nofun (State.give .targetEnd v)
  have hall := State.Rings.silent hring hfall
  intro id hs hm
  rw [← hsame] at hs hm ⊢
  exact hall id hs hm

theorem endAndSelect_endsAs (o : EndOutcome) (he : s.activeEntry = some e) : s.EndsAs o e (s.endAndSelect o) := by
  obtain ⟨⟨_, hon, _, _, _, hentries⟩, hfold⟩ := endActive_leaves o he
  have hsignals : Signalled (s.endActive o) ((s.endActive o).select true) := scan_signals true _ _
  have hselect : (s.endActive o).Silent .targetEnd ((s.endActive o).select true) :=
    (acts_select (P := (· = .targetStart)) rfl true).sounds.silent nofun
  have hsounds : s.Sounds (fun src => src = .targetEnd ∨ src = .onTargetFall ∨ src = .targetStart) (s.endAndSelect o) :=
    (acts_endAndSelect (.inl rfl) (.inr (.inl rfl)) (.inr (.inr rfl)) o).sounds
  refine ⟨?_, ?_, ?_, ?_, ?_, fun src h1 h2 h3 => ?_, fun y hy => hsounds.expiries_mem hy⟩
  · refine mem_scan true _ _ ?_ rfl
    rw [hentries]
    exact mem_updateFirst_found he
  · exact (scan_onTarget true _ _).trans hon
  · refine hsignals.noticed ?_
    rw [endActive_of_some he]
    have hwritten : (s.endWritten o e).Noticed .targetEnd :=
      raise_noticed .targetEnd
        { ((s.discardMailbox.withGuideState .off).foldAxes).onActive (Entry.finish o s.time.mountTime) with
          free := s.free + e.chain.length }
    exact (Signalled.give .targetEnd .refl |>.trans (setOnTarget_signals false _)).noticed hwritten
  · exact (endActive_rings o he).silent hselect
  · refine (scan_axes true _ _).trans ?_
    exact (State.endActive_some s o he).2.2.1
  · refine hsounds.silent ?_
    rintro (h | h | h)
    · exact h1 h
    · exact h2 h
    · exact h3 h

end Sys2Proof.Machine

/-! PROOFS. A calm demand event on a FIXED target with no correction at work: its demand, its capture, its settle and its
slew timeout (R73, R74, R79, R84, R111, R112, R114). -/

namespace Sys2Proof.Machine

variable {s t u : State} {levels : Inputs Bool} {e : Entry} {p : Axes Int} {w : Int}

/-! ### The target the engine finds -/

theorem opened_guide (levels : Inputs Bool) (n : Nat) (s : State) :
    (s.opened levels n).guide =
      { s.guide with
        mailbox := s.guide.mailbox.map fun m =>
          { m with correction := m.correction.map (clampAbs (s.opened levels n).inForce.guideStepMax) }
        offset := s.guide.offset.map (clampAbs (s.opened levels n).inForce.guideRange) } := by
  obtain ⟨y, z, h⟩ := elapse_frame n s
  unfold State.opened
  rw [h]
  rfl

theorem opened_model (levels : Inputs Bool) (n : Nat) (s : State) : (s.opened levels n).model = s.model := by
  obtain ⟨y, z, h⟩ := opened_frame levels n s
  rw [h]

theorem clampAbs_zero {m : Int} (h : 0 ≤ m) : clampAbs m 0 = 0 := by
  rw [clampAbs_eq h]
  omega

theorem opened_onFixed (hcalm : s.calm levels) (h : s.onFixed e p w) (n : Nat) : (s.opened levels n).onFixed e p w := by
  obtain ⟨hactive, hkind, hwrap, hcells, hoffset, hbox, hcstep, hrange, haxes⟩ := h
  obtain ⟨ha, _, hn, hf, _, _⟩ := calm_opened hcalm n
  have hguide := opened_guide levels n s
  have hmodel := opened_model levels n s
  unfold State.onFixed State.activeEntry State.within
  rw [hn, hf, ha, hguide, hmodel, hf]
  refine ⟨hactive, hkind, hwrap, hcells, ?_, by rw [hbox]; rfl, hcstep, hrange, haxes⟩
  rw [hoffset]
  exact congrArg₂ AzEl.mk (clampAbs_zero hrange) (clampAbs_zero hrange)

/-! ### No correction at work -/

theorem modelCorrection_nil (page : Bool) (az el : Int) : modelCorrection [] page az el = ⟨0, 0⟩ := by
  simp [modelCorrection, readCell, zeroPair, signedPair, interpolate, roundDiv, AzEl.map]

theorem taken_of_none {range : Int} {g : Guide} (h : g.mailbox = none) : g.taken range = g := by
  unfold Guide.taken
  rw [h]

/-- No correction of any kind is at work (R79, R81). -/
structure State.Uncorrected (s : State) : Prop where
  cells : s.model.cells = []
  offset : s.guide.offset = ⟨0, 0⟩
  mailbox : s.guide.mailbox = none
  cstep : 0 ≤ s.inForce.cstep
  host : ∀ ax : Axis, (s.axes.get ax).host = 0
  applied : ∀ ax : Axis, (s.axes.get ax).applied = 0

theorem onFixed_uncorrected (h : s.onFixed e p w) : s.Uncorrected := by
  obtain ⟨_, _, _, hcells, hoffset, hbox, hcstep, _, haxes⟩ := h
  exact ⟨hcells, hoffset, hbox, hcstep, fun ax => (haxes ax).1, fun ax => (haxes ax).2.1⟩

/-- Where no correction is at work the applied offset stays 0 (R79, R81). -/
theorem uncorrected_applied (h : s.Uncorrected) (ht : s.engine.isTarget = true) (hr : s.baseStage.runout = false) (ax : Axis) :
    (s.blended.axes.get ax).applied = 0 := by
  obtain ⟨hcells, hoffset, hbox, hcstep, hzero, hstands⟩ := h
  obtain ⟨hhost, happlied⟩ := baseStage_host hr ax
  have hmodel := guided_model s (baseStage_model s)
  rw [hcells, modelCorrection_nil] at hmodel
  have hguide : s.guided.guide.offset = ⟨0, 0⟩ := by
    by_cases hf : s.engine.followsTarget = true
    · rw [guided_guide hf hr, (timed_offset _ _).1, taken_of_none hbox, hoffset]
    · obtain ⟨n, az, hs⟩ : ∃ n az, s.engine = .slewing n az := by
        cases hs : s.engine with
        | slewing n az => exact ⟨n, az, rfl⟩
        | _ => rw [hs] at hf ht; first | exact absurd rfl hf | cases ht
      rw [guided_guide_of_slewing hs, hoffset]
  have hguided : s.guided.axes = s.baseStage.state.axes := by
    obtain ⟨v, w, x, y, z, h⟩ := guided_frame s
    rw [h]
    rfl
  have hwanted : (s.guided.wantedOf s.baseStage.runout).get ax = 0 := by
    have hall (ax : Axis) : (s.guided.axes.get ax).host = 0 := by
      rw [hguided, (baseStage_host hr ax).1, hzero ax]
    have h1 := hall .az
    have h2 := hall .el
    have h3 := hall .rot
    rw [guided_wanted ht hr, hmodel, hguide]
    cases ax
    · exact (Int.zero_add _).trans h1
    · exact (Int.zero_add _).trans h2
    · exact h3
  rw [blended_axis_eq, hwanted]
  show blend s.inForce.cstep 0 (s.baseStage.state.axes.get ax).applied = 0
  rw [happlied, hstands ax, blend_zero hcstep]

/-! ### The stages of a target that is followed -/

theorem baseStage_followed (ha : s.aim = some (t, g, r)) (hf : s.engine.followsTarget = true) :
    s.baseStage = ⟨t.withMotions (g.map₂ Motion.mk r), false, false, false⟩ := by
  rw [baseStage_of_follows hf]
  unfold State.baseTarget
  rw [ha]

/-- A followed target's base is its position and its velocity its rate (R73, R74). -/
theorem followed_motion {g r : Axes Int} (ha : s.aim = some (t, g, r)) (hf : s.engine.followsTarget = true) (ax : Axis) :
    (s.evaluated.axes.get ax).base = g.get ax ∧ (s.evaluated.axes.get ax).vel = r.get ax := by
  obtain ⟨h1, h2⟩ := evaluated_motion s ax
  rw [h1, h2, baseStage_followed ha hf]
  cases ax <;> exact ⟨rfl, rfl⟩

/-- The limit stage acts on no axis where every sum lies within the limits (R84). -/
theorem clampedNow_eq_false (h : ∀ ax, s.within ax (s.blended.axes.get ax).sum = true) : s.clampedNow = false := by
  have hforce : s.blended.inForce = s.inForce := by unfold State.blended; simp
  have hwithin (ax : Axis) : s.blended.within ax (s.blended.axes.get ax).sum = true := by
    unfold State.within
    rw [hforce]
    exact h ax
  show s.blended.clampsAny = false
  have h1 := hwithin .az
  have h2 := hwithin .el
  have h3 := hwithin .rot
  unfold State.clampsAny
  show (!s.blended.within .az _ || !s.blended.within .el _ || !s.blended.within .rot _) = false
  rw [h1, h2, h3]
  rfl

theorem within_iff (s : State) (ax : Axis) (x : Int) :
    s.within ax x = true ↔ s.inForce.lower.get ax ≤ x ∧ x ≤ s.inForce.upper.get ax := by
  unfold State.within
  rw [Bool.and_eq_true, decide_eq_true_eq, decide_eq_true_eq]

/-- The demand of an axis at a computation is its sum, clamped (R84). -/
theorem evaluated_demand (s : State) (ax : Axis) :
    (s.evaluated.axes.get ax).demand = clamp (s.inForce.lower.get ax) (s.inForce.upper.get ax) (s.blended.axes.get ax).sum := by
  rw [evaluated_axis]
  rfl

theorem blended_sum (s : State) (ax : Axis) :
    (s.blended.axes.get ax).sum = roundCounts (s.baseStage.state.axes.get ax).base + (s.blended.axes.get ax).applied := by
  rw [blended_axis_eq]
  rfl

/-- On a FIXED target with no correction at work every event's demand is the position, and no axis is clamped. -/
theorem onFixed_followed (h : s.onFixed e p w) (hf : s.engine.followsTarget = true) :
    s.baseStage.runout = false ∧ s.clampedNow = false ∧ s.evaluated.engine = s.engine ∧ s.baseStage.state.night = s.night ∧
      ∀ ax, (s.evaluated.axes.get ax).demand = roundCounts ((fixedPositions p w).get ax) ∧ (s.evaluated.axes.get ax).vel = 0 := by
  obtain ⟨hactive, hkind, hwrap, _, _, _, _, _, haxes⟩ := id h
  have ha := aim_of_fixed hactive hkind hwrap
  have hbase := baseStage_followed ha hf
  have hr : s.baseStage.runout = false := by rw [hbase]
  have ht : s.engine.isTarget = true := isTarget_of_followsTarget hf
  have hsum (ax : Axis) : (s.blended.axes.get ax).sum = roundCounts ((fixedPositions p w).get ax) := by
    rw [blended_sum, uncorrected_applied (onFixed_uncorrected h) ht hr, Int.add_zero, hbase]
    cases ax <;> rfl
  refine ⟨hr, clampedNow_eq_false fun ax => by rw [hsum]; exact (haxes ax).2.2, ?_, ?_, fun ax => ⟨?_, ?_⟩⟩
  · rw [evaluated_engine, hbase]
    rfl
  · rw [hbase]
    rfl
  · rw [evaluated_demand, hsum, clamp_of_mem ((within_iff _ _ _).1 (haxes ax).2.2)]
  · rw [(followed_motion ha hf ax).2]
    cases ax <;> rfl

/-! ### The stages of a slew -/

/-- A slew toward a target inside the limits: the follower's step, the timer and the test of capture (R109, R111, R112). -/
theorem baseStage_slewing {g r : Axes Int} {n : Nat} {az : Int} (ha : s.aim = some (t, g, r)) (he : s.engine = .slewing n az)
    (hin : ∀ ax, t.within ax (roundCounts (g.get ax)) = true) :
    s.baseStage =
      ⟨({ t with engine := .slewing (n + 1) (roundCounts g.az) } : State).withMotions (t.followTo g r), false, false,
        t.captureTest g r (t.followTo g r)⟩ := by
  have hoff : (Axes.of fun ax =>
      !({ t with engine := .slewing (n + 1) (roundCounts g.az) } : State).within ax (roundCounts (g.get ax))).any id = false := by
    show (!t.within .az _ || !t.within .el _ || !t.within .rot _) = false
    have h1 := hin .az
    have h2 := hin .el
    have h3 := hin .rot
    rw [h1, h2, h3]
    rfl
  rw [baseStage_of_slewing he]
  unfold State.baseSlewing
  rw [ha]
  dsimp only
  rw [hoff]
  rfl

theorem takeDecision_of_slewing {n : Nat} {az : Int} (he : s.engine = .slewing n az) (b : BaseStage) (clamped : Bool) :
    s.takeDecision b clamped = s.decideSlewing b n := by
  simp only [State.takeDecision, he]

theorem takeDecision_of_settling {n : Nat} (he : s.engine = .settling n) (b : BaseStage) (clamped : Bool) :
    s.takeDecision b clamped = s.decideSettling b.runout clamped n := by
  simp only [State.takeDecision, he]

theorem takeDecision_of_tracking {n : Nat} (he : s.engine = .tracking n) (b : BaseStage) (clamped : Bool) :
    s.takeDecision b clamped = s.decideTracking b.runout clamped n := by
  simp only [State.takeDecision, he]

theorem takeDecision_of_holding {n : Nat} (he : s.engine = .holding n) (b : BaseStage) (clamped : Bool) :
    s.takeDecision b clamped = s.decideHolding b.runout clamped := by
  simp only [State.takeDecision, he]

/-! ### The state before the decisions -/

theorem evaluated_guide (s : State) : s.evaluated.guide = s.guided.guide := by
  obtain ⟨w, x, y, z, he⟩ := evaluateOnTarget_frame s.baseStage.runout (s.blended.limitStage.stepStage).judgeAlignment
  obtain ⟨x', y', hj⟩ := judgeAlignment_frame s.blended.limitStage.stepStage
  rw [evaluated_eq, he, hj]
  rfl

theorem evaluated_rest (s : State) :
    s.evaluated.time = s.time ∧ s.evaluated.inForce = s.inForce ∧ s.evaluated.inputs = s.inputs := by
  obtain ⟨a, b, c, d, e, f, g, h, i, j, k, l, hframe⟩ := evaluated_frame s
  rw [hframe]
  exact ⟨rfl, rfl, rfl⟩

/-- The entry before the decisions: the ACTIVE entry with what it has counted at the event. -/
theorem evaluated_active (hactive : s.activeEntry = some e) (hnight : s.baseStage.state.night = s.night) :
    s.evaluated.activeEntry = some (Entry.onTally s.eventTally e) := by
  refine (evaluated_tallied s).activeEntry ?_
  unfold State.activeEntry
  rw [hnight]
  exact hactive

/-- The stages and the evaluation are silent but for the take and for ON_TARGET (R124). -/
theorem evaluated_silent {src : Source} (h1 : src ≠ .guideTake) (h2 : src ≠ .onTargetRise) (h3 : src ≠ .onTargetFall)
    (s : State) : s.Silent src s.evaluated :=
  (acts_evaluated (P := fun src => src = .guideTake ∨ src = .onTargetRise ∨ src = .onTargetFall) fun _ h => h).sounds.silent
    (by rintro (h | h | h) <;> contradiction)

/-- ON_TARGET is not asserted where the state is not TRACKING or HOLDING (R145). -/
theorem evaluated_onTarget_false (h : s.evaluated.engine.isTracking = false) : s.evaluated.onTarget = false := by
  have hengine : s.judgedNow.engine.isTracking = false := by
    obtain ⟨w, x, y, z, he⟩ := evaluateOnTarget_frame s.baseStage.runout s.judgedNow
    rw [evaluated_judgedNow, he] at h
    exact h
  rw [evaluated_onTarget]
  unfold State.onTargetNow
  rw [hengine]
  rfl

/-- The ACTIVE entry changed stays the ACTIVE one. -/
theorem onActive_activeEntry {f : Entry → Entry} (he : s.activeEntry = some e) (hf : (f e).isActive = true) :
    (s.onActive f).activeEntry = some (f e) := by
  unfold State.activeEntry at *
  obtain ⟨before, after, _, hbefore, _, hu⟩ := updateFirst_of_find?_some he
  show (updateFirst Entry.isActive f s.night.entries).find? Entry.isActive = _
  rw [hu, List.find?_append, List.find?_eq_none.2 (fun x hx => by rw [hbefore x hx]; exact Bool.false_ne_true), Option.none_or,
    List.find?_cons, hf]

/-! ### Capture and the settle's end -/

/-- SETTLING with the stamp of the capture (R112). -/
def State.settled (s : State) : State :=
  (s.enter (.settling 0)).onActive fun e =>
    { e.withPhase .settling with results := { e.results with capturedAt := some s.time.mountTime } }

/-- TRACKING with the stamp of the settle's end (R114). -/
def State.tracked (s : State) : State :=
  (s.enter (.tracking 0)).onActive fun e =>
    { e.withPhase .tracking with results := { e.results with trackingFrom := some s.time.mountTime } }

theorem capture_eq (hactive : s.activeEntry = some e) :
    s.capture =
      if e.record.guided = true then (State.give .capture s.settled).withGuideState .seeking else State.give .capture s.settled := by
  have hany : (s.activeEntry.any fun e => e.record.guided) = e.record.guided := by rw [hactive]; rfl
  show (if (s.activeEntry.any fun e => e.record.guided) = true then _ else _) = _
  rw [hany]
  rfl

theorem settleEnds_eq (s : State) : s.settleEnds = (State.give .trackStart s.tracked).ranOut .settleEnd := rfl

/-- What capture leaves (R112, R133). -/
theorem capture_spec (hactive : s.activeEntry = some e) :
    s.capture.engine = .settling 0 ∧ s.capture.enable = true ∧
      s.capture.activeEntry =
        some { e with status := .active .settling, results := { e.results with capturedAt := some s.time.mountTime } } ∧
      s.capture.guide.state = (if e.record.guided = true then .seeking else s.guide.state) ∧ s.Rings .capture s.capture := by
  have hentry : s.settled.activeEntry = _ := onActive_activeEntry (s := s.enter (.settling 0)) hactive rfl
  have hring : s.settled.Rings .capture (State.give .capture s.settled) := give_rings .capture _
  rw [capture_eq hactive]
  cases e.record.guided with
  | true => exact ⟨rfl, rfl, hentry, rfl, hring⟩
  | false => exact ⟨rfl, rfl, hentry, rfl, hring⟩

theorem capture_silent {src : Source} (h : src ≠ .capture) (s : State) : s.Silent src s.capture :=
  (acts_capture (P := (· = .capture)) rfl).sounds.silent h

/-- What the settle's end leaves (R114). -/
theorem settleEnds_spec (hactive : s.activeEntry = some e) :
    s.settleEnds.engine = .tracking 0 ∧ s.settleEnds.enable = true ∧
      s.settleEnds.activeEntry =
        some { e with status := .active .tracking, results := { e.results with trackingFrom := some s.time.mountTime } } ∧
      s.settleEnds.onTarget = s.onTarget ∧ s.Rings .trackStart s.settleEnds ∧ Expiry.settleEnd ∈ s.settleEnds.expiries := by
  have hentry : s.tracked.activeEntry = _ := onActive_activeEntry (s := s.enter (.tracking 0)) hactive rfl
  have hring : s.tracked.Rings .trackStart (State.give .trackStart s.tracked) := give_rings .trackStart _
  exact ⟨rfl, rfl, hentry, rfl, hring, List.mem_append_right _ List.mem_cons_self⟩

end Sys2Proof.Machine

/-! PROOFS. Capture, the slew's timeout and the settle's end of a FIXED target at a calm demand event, and what a calm
event's computation comes to (R111, R112, R114, R126). -/

namespace Sys2Proof.Machine

variable {s t u : State} {levels : Inputs Bool} {e : Entry} {p : Axes Int} {w : Int}

/-! ### A calm event's computation -/

/-- The state after a computation's decisions (R98). -/
def State.decided (s : State) : State := s.evaluated.takeDecision s.baseStage s.clampedNow

/-- What a demand event's opening leaves as it was where no configuration value waits, and what it brings the guide unit
and mount time to (R72, R138). -/
structure State.Opening (s u : State) : Prop where
  axes : u.axes = s.axes
  engine : u.engine = s.engine
  night : u.night = s.night
  free : u.free = s.free
  model : u.model = s.model
  inForce : u.inForce = s.inForce
  inputs : u.inputs = s.inputs
  enclosure : u.enclosure = s.enclosure
  onTarget : u.onTarget = s.onTarget
  lines : u.lines = s.lines
  waitReason : u.waitReason = s.waitReason
  opens : ∃ levels n, u = s.opened levels n
  mountTime : u.time.mountTime = s.nextEventTime
  guide : u.guide =
    { s.guide with
      mailbox := s.guide.mailbox.map fun m =>
        { m with correction := m.correction.map (clampAbs s.inForce.guideStepMax) }
      offset := s.guide.offset.map (clampAbs s.inForce.guideRange) }

theorem calm_opening (h : s.calm levels) {n : Nat} (hn : s.time.untilEvent = some n) : s.Opening (s.opened levels n) := by
  have hforce := calm_inForce h n
  have hguide := opened_guide levels n s
  have htime := opened_mountTime (levels := levels) hn
  rw [hforce] at hguide
  obtain ⟨y, z, hframe⟩ := opened_frame levels n s
  constructor
  case inForce => exact hforce
  case mountTime => exact htime
  case guide => exact hguide
  case opens => exact ⟨levels, n, rfl⟩
  all_goals rw [hframe]

theorem State.Opening.activeEntry (h : s.Opening u) : u.activeEntry = s.activeEntry := by
  unfold State.activeEntry
  rw [h.night]

theorem State.Opening.guide_state (h : s.Opening u) : u.guide.state = s.guide.state := by rw [h.guide]

theorem State.Opening.within (h : s.Opening u) (ax : Axis) (x : Int) : u.within ax x = s.within ax x := by
  unfold State.within
  rw [h.inForce]

theorem State.Opening.onFixed (h : s.Opening u) (hf : s.onFixed e p w) : u.onFixed e p w := by
  obtain ⟨hactive, hkind, hwrap, hcells, hoffset, hbox, hcstep, hrange, haxes⟩ := hf
  refine ⟨h.activeEntry.trans hactive, hkind, hwrap, h.model ▸ hcells, ?_, ?_, h.inForce ▸ hcstep, h.inForce ▸ hrange,
    fun ax => ?_⟩
  · rw [h.guide, hoffset]
    exact congrArg₂ AzEl.mk (clampAbs_zero hrange) (clampAbs_zero hrange)
  · rw [h.guide, hbox]
    rfl
  · rw [h.within, h.axes]
    exact haxes ax

/-- What a calm event that opens as `u` leaves of `u`'s decisions, and what the event lines and the noted timers show of
them. -/
structure State.Concludes (s u t : State) : Prop extends s.Opening u where
  same : ∃ a b c d f, t = { u.decided with lines := a, expiries := b, inputs := c, model := d, time := f }
  last : t.model =
    (u.decided.evaluateCorrection u.baseStage.state.axes.az.base u.baseStage.state.axes.el.base).model
  flips : ∀ {src : Source}, src ≠ .second → u.Rings src u.decided → s.Flips src t
  rests : ∀ {src : Source}, src ≠ .second → u.Silent src u.decided → s.Rests src t
  expiries : ∀ x ∈ u.decided.expiries, x ∈ t.expiries
  output : ∀ id, (u.decided.lines.get id).mode = .toggle → (u.decided.lines.get id).timer = none →
    (u.decided.lines.get id).source ≠ .second → (t.lines.get id).output = (u.decided.lines.get id).output

theorem calm_computes (h : s.calm levels) (hu : s.engine ≠ .unset) (hs : s.engine ≠ .stopped) (order : List Turn) :
    ∃ u, s.Concludes u (s.demandEvent levels order) := by
  obtain ⟨n, σ, hn, hrun, hb⟩ := calm_event h order
  have hopen := calm_opening h hn
  have hturn : (s.opened levels n).engineTurn = (s.opened levels n).computeEvent :=
    engineTurn_of_ne (hopen.engine ▸ hu) (hopen.engine ▸ hs)
  have hlines : (s.opened levels n).engineTurn.lines = (s.opened levels n).decided.lines := by rw [hturn]; rfl
  have hflips {src : Source} (hne : src ≠ .second) (hr : (s.opened levels n).Rings src (s.opened levels n).decided) :=
    calm_flips (src := src) hb hne fun id hs hm => (congrArg (Lines.get · id) hlines).trans (hr id hs hm)
  have hrests {src : Source} (hne : src ≠ .second) (hr : (s.opened levels n).Silent src (s.opened levels n).decided) :=
    calm_rests (src := src) hb hne fun id hs => (congrArg (Lines.get · id) hlines).trans (hr id hs)
  refine ⟨s.opened levels n, hopen, ?_, ?_, ?_, ?_, fun x hx => ?_, fun id hm ht hs => ?_⟩
  · rw [hrun]
    show ∃ a b c d f, ((s.opened levels n).engineTurn.withSide σ).closeEvent = _
    rw [hturn]
    exact ⟨_, _, _, _, _, rfl⟩
  · rw [hrun]
    show ((s.opened levels n).engineTurn.withSide σ).closeEvent.model = _
    rw [hturn]
    rfl
  · rw [hrun]; exact hflips
  · rw [hrun]; exact hrests
  · rw [hrun]
    refine hb.expiries x ?_
    show x ∈ (s.opened levels n).engineTurn.expiries
    rw [hturn]
    exact hx
  · rw [hrun]
    rw [← hlines] at hm ht hs ⊢
    exact beside_output hb hm ht hs

/-- A timer's row is the demand event at which it runs out (log entry 4). -/
theorem demandEventOf_next {x : Expiry} {order : List Turn} (h : x ∈ (s.demandEvent levels order).expiries) :
    (Host.Outcome.next (s.demandEventOf x levels order) : Host.Outcome State Fault Refusal) =
      .next (s.demandEvent levels order) := by
  rw [demandEventOf_of_mem h]

theorem captureTest_congr (ha : u.axes = s.axes) (hf : u.inForce = s.inForce) (g r : Axes Int) :
    u.captureTest g r (u.followTo g r) = s.captureTest g r (s.followTo g r) := by
  unfold State.captureTest State.followTo
  rw [ha, hf]

/-! ### The decisions of a slew -/

/-- A slew toward a FIXED target with no correction at work, before its decision (R109, R111, R112). -/
theorem onFixed_slewing {n : Nat} {az : Int} (h : s.onFixed e p w) (he : s.engine = .slewing n az) :
    s.baseStage.runout = false ∧ s.baseStage.offLimits = false ∧
      s.baseStage.capture = s.captureTest (fixedPositions p w) (.const 0) (s.followTo (fixedPositions p w) (.const 0)) ∧
      s.baseStage.state.night = s.night ∧ (∃ az', s.evaluated.engine = .slewing (n + 1) az') ∧ s.evaluated.guide = s.guide := by
  obtain ⟨hactive, hkind, hwrap, _, _, _, _, _, haxes⟩ := id h
  have hin (ax : Axis) : s.within ax (roundCounts ((fixedPositions p w).get ax)) = true := (haxes ax).2.2
  have hbase := baseStage_slewing (aim_of_fixed hactive hkind hwrap) he hin
  refine ⟨by rw [hbase], by rw [hbase], by rw [hbase], by rw [hbase]; rfl, ?_, ?_⟩
  · rw [evaluated_engine, hbase]
    exact ⟨_, rfl⟩
  · rw [evaluated_guide, guided_guide_of_slewing he]

theorem decided_of_slewing {n : Nat} {az : Int} (h : s.onFixed e p w) (he : s.engine = .slewing n az) :
    s.decided =
      if s.captureTest (fixedPositions p w) (.const 0) (s.followTo (fixedPositions p w) (.const 0)) = true then s.evaluated.capture
      else if s.inForce.slewTimeout ≤ (n + 1 : Nat) then (s.evaluated.ranOut .slewTimeout).endAndSelect .slewTimeout
      else s.evaluated := by
  obtain ⟨hr, ho, hc, _, ⟨az', hengine⟩, _⟩ := onFixed_slewing h he
  unfold State.decided
  rw [takeDecision_of_slewing hengine]
  unfold State.decideSlewing
  rw [hr, ho, hc, (evaluated_rest s).2.1]
  rfl

theorem decided_of_settling {n : Nat} (h : s.onFixed e p w) (he : s.engine = .settling n) :
    s.decided =
      if s.inForce.settleTime ≤ (n + 1 : Nat) then s.evaluated.settleEnds else s.evaluated.enter (.settling (n + 1)) := by
  obtain ⟨hr, hc, hengine, _, _⟩ := onFixed_followed h (by rw [he]; rfl)
  unfold State.decided
  rw [takeDecision_of_settling (hengine.trans he), hr, hc]
  unfold State.decideSettling
  rw [(evaluated_rest s).2.1]
  rfl

/-! ### O45 -/

/-- What an end at a calm event leaves, with the entry that was ACTIVE (R28, R111, R115, R116). -/
theorem State.Concludes.endsAs {o : EndOutcome} {x : Entry} {v : State} (hc : s.Concludes u t)
    (hd : u.decided = v.endAndSelect o) (hv : v.activeEntry = some x) (hrec : x.record = e.record)
    (htime : v.time.mountTime = u.time.mountTime) (hsilent : u.Silent .targetEnd v) :
    t.onTarget = false ∧ t.Noticed .targetEnd ∧ s.Flips .targetEnd t ∧
      ∃ x ∈ t.night.entries, x.record = e.record ∧ x.status = .ended o ∧ x.results.endedAt = some s.nextEventTime ∧
        x.chain = [] := by
  have hends := endAndSelect_endsAs o hv
  rw [← hd] at hends
  have hflips := hc.flips (src := .targetEnd) nofun (hsilent.rings hends.rings)
  obtain ⟨_, _, _, _, _, hsame⟩ := hc.same
  rw [hsame] at hflips ⊢
  exact ⟨hends.onTarget, hends.noticed, hflips, v.written o x, hends.written, hrec, rfl,
    congrArg some (htime.trans hc.mountTime), rfl⟩

section
variable (hc : s.Concludes u t) (hfixed : s.onFixed e p w)
include hc hfixed

/-- Capture at a calm event (R111, R112, R133). -/
theorem captures_at_event {n : Nat} {az : Int} (he : s.engine = .slewing n az)
    (hcap : s.captureTest (fixedPositions p w) (.const 0) (s.followTo (fixedPositions p w) (.const 0)) = true) :
    t.engine = .settling 0 ∧ t.enable = true ∧ s.Flips .capture t ∧ s.Rests .targetEnd t ∧
      t.guide.state = (if e.record.guided = true then .seeking else s.guide.state) ∧
      ∃ x, t.activeEntry = some x ∧ x.record = e.record ∧ x.status = .active .settling ∧
        x.results.capturedAt = some s.nextEventTime := by
  have hu := hc.onFixed hfixed
  obtain ⟨_, _, _, hbn, _, hguide⟩ := onFixed_slewing hu (hc.engine.trans he)
  have hd := decided_of_slewing hu (hc.engine.trans he)
  rw [captureTest_congr hc.axes hc.inForce, if_pos hcap] at hd
  obtain ⟨hen, hena, hact, hgs, hring⟩ := capture_spec (evaluated_active hu.1 hbn)
  have hflip := hc.flips (src := .capture) nofun
    (by rw [hd]; exact (evaluated_silent (src := .capture) nofun nofun nofun _).rings hring)
  have hrest := hc.rests (src := .targetEnd) nofun
    (by rw [hd]; exact (evaluated_silent (src := .targetEnd) nofun nofun nofun _).trans (capture_silent (src := .targetEnd) nofun _))
  obtain ⟨_, _, _, _, _, hsame⟩ := hc.same
  rw [hsame] at hflip hrest ⊢
  rw [hd] at hflip hrest ⊢
  refine ⟨hen, hena, hflip, hrest, ?_, _, hact, rfl, rfl, ?_⟩
  · refine hgs.trans ?_
    rw [hguide, hc.guide_state]
    rfl
  · show some _ = _
    rw [(evaluated_rest _).1, hc.mountTime]

/-- The slew's timeout at a calm event (R111). -/
theorem slewTimeout_at_event {n : Nat} {az : Int} (he : s.engine = .slewing n az)
    (hcap : ¬ s.captureTest (fixedPositions p w) (.const 0) (s.followTo (fixedPositions p w) (.const 0)) = true)
    (hto : s.inForce.slewTimeout ≤ (n + 1 : Nat)) :
    .slewTimeout ∈ t.expiries ∧ s.Rests .capture t ∧ t.onTarget = false ∧ t.Noticed .targetEnd ∧ s.Flips .targetEnd t ∧
      ∃ x ∈ t.night.entries, x.record = e.record ∧ x.status = .ended .slewTimeout ∧
        x.results.endedAt = some s.nextEventTime ∧ x.chain = [] := by
  have hu := hc.onFixed hfixed
  obtain ⟨_, _, _, hbn, _, _⟩ := onFixed_slewing hu (hc.engine.trans he)
  have hd := decided_of_slewing hu (hc.engine.trans he)
  rw [captureTest_congr hc.axes hc.inForce, if_neg hcap, hc.inForce, if_pos hto] at hd
  have hactive := evaluated_active hu.1 hbn
  have hends := endAndSelect_endsAs (s := u.evaluated.ranOut .slewTimeout) .slewTimeout hactive
  have hrest := hc.rests (src := .capture) nofun
    (by rw [hd]; exact (evaluated_silent (src := .capture) nofun nofun nofun _).trans (hends.silent _ nofun nofun nofun))
  refine ⟨hc.expiries _ ?_, hrest, hc.endsAs (v := u.evaluated.ranOut .slewTimeout) hd hactive rfl
    (congrArg TimeBase.mountTime (evaluated_rest _).1) (evaluated_silent (src := .targetEnd) nofun nofun nofun _)⟩
  rw [hd]
  exact hends.expiries _ (List.mem_append_right _ List.mem_cons_self)

/-- The settle's end at a calm event (R114). -/
theorem settleEnd_at_event {n : Nat} (he : s.engine = .settling n) (hto : s.inForce.settleTime ≤ (n + 1 : Nat)) :
    .settleEnd ∈ t.expiries ∧ t.engine = .tracking 0 ∧ t.enable = true ∧ t.onTarget = false ∧ s.Flips .trackStart t ∧
      ∃ x, t.activeEntry = some x ∧ x.record = e.record ∧ x.status = .active .tracking ∧
        x.results.trackingFrom = some s.nextEventTime := by
  have hu := hc.onFixed hfixed
  have hengine := hc.engine.trans he
  obtain ⟨_, _, hev, hbn, _⟩ := onFixed_followed hu (by rw [hengine]; rfl)
  have hd := decided_of_settling hu hengine
  rw [hc.inForce, if_pos hto] at hd
  obtain ⟨hen, hena, hact, hon, hring, hmem⟩ := settleEnds_spec (evaluated_active hu.1 hbn)
  have hflip := hc.flips (src := .trackStart) nofun
    (by rw [hd]; exact (evaluated_silent (src := .trackStart) nofun nofun nofun _).rings hring)
  have hexp := hc.expiries .settleEnd (by rw [hd]; exact hmem)
  obtain ⟨_, _, _, _, _, hsame⟩ := hc.same
  refine ⟨hexp, ?_⟩
  rw [hsame] at hflip ⊢
  rw [hd] at hflip ⊢
  refine ⟨hen, hena, ?_, hflip, _, hact, rfl, rfl, ?_⟩
  · refine hon.trans (evaluated_onTarget_false ?_)
    rw [hev, hengine]
    rfl
  · show some _ = _
    rw [(evaluated_rest _).1, hc.mountTime]

/-- SETTLING goes on at a calm event (R114). -/
theorem settling_at_event {n : Nat} (he : s.engine = .settling n) (hto : (n + 1 : Nat) < s.inForce.settleTime) :
    t.engine = .settling (n + 1) ∧ s.Rests .trackStart t ∧
      ∀ ax, (t.axes.get ax).demand = roundCounts ((fixedPositions p w).get ax) ∧ (t.axes.get ax).vel = 0 := by
  have hu := hc.onFixed hfixed
  have hengine := hc.engine.trans he
  obtain ⟨_, _, _, _, haxes⟩ := onFixed_followed hu (by rw [hengine]; rfl)
  have hd := decided_of_settling hu hengine
  rw [hc.inForce, if_neg (Int.not_le.2 hto)] at hd
  have hrest := hc.rests (src := .trackStart) nofun
    (by rw [hd]; exact evaluated_silent (src := .trackStart) nofun nofun nofun u)
  obtain ⟨_, _, _, _, _, hsame⟩ := hc.same
  rw [hsame] at hrest ⊢
  rw [hd] at hrest ⊢
  exact ⟨rfl, hrest, haxes⟩

end

/-- Settles O45: a calm event's decisions in SLEWING and in SETTLING on a FIXED target. -/
theorem slewAndSettleEnd : Obligations.SlewAndSettleEnd := by
  unfold Obligations.SlewAndSettleEnd
  intro levels order s e p w hcalm hfixed
  have hcomputes {x : Engine} (hx : s.engine = x) (h1 : x ≠ .unset) (h2 : x ≠ .stopped) :=
    calm_computes hcalm (hx ▸ h1) (hx ▸ h2) order
  refine ⟨fun n az he hcap => ?_, fun n az he hcap hto => ?_, fun n he hto => ?_, fun n he hto => ?_⟩
  · obtain ⟨u, hc⟩ := hcomputes he nofun nofun
    obtain ⟨hen, hena, hflip, hrest, hguide, x, hx, hrec, hst, hcaptured⟩ := captures_at_event hc hfixed he hcap
    exact ⟨_, exec_demandEvent .., hen, ⟨x, hx, hrec, hst, fun _ => hcaptured, nofun⟩, hena, hflip, hrest, hguide⟩
  · obtain ⟨u, hc⟩ := hcomputes he nofun nofun
    obtain ⟨hmem, hrest, hon, hnoticed, hflip, hx⟩ := slewTimeout_at_event hc hfixed he hcap hto
    exact ⟨_, demandEventOf_next hmem, exec_demandEvent .., hon, hnoticed, hflip, hrest, hx⟩
  · obtain ⟨u, hc⟩ := hcomputes he nofun nofun
    obtain ⟨hmem, hen, hena, hon, hflip, x, hx, hrec, hst, hfrom⟩ := settleEnd_at_event hc hfixed he hto
    exact ⟨_, demandEventOf_next hmem, exec_demandEvent .., hen, ⟨x, hx, hrec, hst, nofun, fun _ => hfrom⟩,
      hena, hon, hflip⟩
  · obtain ⟨u, hc⟩ := hcomputes he nofun nofun
    obtain ⟨hen, hrest, haxes⟩ := settling_at_event hc hfixed he hto
    exact ⟨_, exec_demandEvent .., hen, hrest, haxes⟩

end Sys2Proof.Machine

/-! PROOFS. The dwell's end, the hold's end and the release of a FIXED target at a calm demand event (R115, R116, R148). -/

namespace Sys2Proof.Machine

variable {s t u : State} {levels : Inputs Bool} {e : Entry} {p : Axes Int} {w : Int}

/-! ### The decisions of TRACKING and HOLDING -/

theorem evaluated_record (hactive : s.activeEntry = some e) (hnight : s.baseStage.state.night = s.night) :
    ∃ x, s.evaluated.activeEntry = some x ∧ x.record = e.record ∧ x.results.tally = e.results.tally.map s.eventTally :=
  ⟨_, evaluated_active hactive hnight, rfl, rfl⟩

theorem decided_of_tracking {n : Nat} (h : s.onFixed e p w) (he : s.engine = .tracking n) :
    s.decided = if e.record.dwell ≤ n + 1 then s.evaluated.dwellEnds (n + 1) else s.evaluated.enter (.tracking (n + 1)) := by
  obtain ⟨hr, hc, hengine, hbn, _⟩ := onFixed_followed h (by rw [he]; rfl)
  unfold State.decided
  rw [takeDecision_of_tracking (hengine.trans he), hr, hc]
  unfold State.decideTracking
  rw [evaluated_active h.1 hbn]
  rfl

/-- What the dwell's end finds, with its source given and its running out noted (R115). -/
def State.dwelt (s : State) : State := (State.give .dwellEnd s).ranOut .dwellEnd

theorem dwellEnds_eq (hactive : s.activeEntry = some e) (n : Nat) :
    s.dwellEnds n =
      if s.inputs.instHold.level = true ∧ 0 < e.record.maxHold then
        (s.dwelt.enter (.holding n)).onActive (Entry.withPhase .holding)
      else s.dwelt.endAndSelect .complete := by
  have hmax : (s.activeEntry.map fun e => e.record.maxHold).getD 0 = e.record.maxHold := by rw [hactive]; rfl
  show (if _ ∧ 0 < (s.activeEntry.map fun e => e.record.maxHold).getD 0 then _ else _) = _
  rw [hmax]
  rfl

theorem dwelt_silent {src : Source} (h : src ≠ .dwellEnd) (s : State) : s.Silent src s.dwelt :=
  (acts_give (P := (· = .dwellEnd)) rfl).sounds.silent h

theorem dwelt_rings (s : State) : s.Rings .dwellEnd s.dwelt := give_rings .dwellEnd s

theorem enter_onActive {x : Entry} {v : State} (y : Engine) (q : Phase) (hx : v.activeEntry = some x) :
    ((v.enter y).onActive (Entry.withPhase q)).activeEntry = some (x.withPhase q) :=
  onActive_activeEntry (s := v.enter y) hx rfl

theorem decided_of_holding {n : Nat} (h : s.onFixed e p w) (he : s.engine = .holding n) :
    s.decided =
      if s.inputs.instHold.level = true then
        if s.evaluated.countHold.holdSpent = true then (s.evaluated.countHold.ranOut .holdExpired).endAndSelect .holdExpired
        else s.evaluated.countHold
      else s.evaluated.endAndSelect .released := by
  obtain ⟨hr, hc, hengine, _, _⟩ := onFixed_followed h (by rw [he]; rfl)
  unfold State.decided
  rw [takeDecision_of_holding (hengine.trans he), hr, hc]
  unfold State.decideHolding
  rw [(evaluated_rest s).2.2]
  by_cases hlevel : s.inputs.instHold.level = true
  · rw [if_pos hlevel, if_pos hlevel, if_neg Bool.false_ne_true, if_neg Bool.false_ne_true, if_pos hlevel]
  · rw [if_neg hlevel, if_neg hlevel, if_neg Bool.false_ne_true, if_neg Bool.false_ne_true, if_neg hlevel]

/-- The take, the lags and the millisecond on target leave the hold used (R32). -/
theorem eventTally_holdUsed (s : State) (y : Tally) : (s.eventTally y).holdUsed = y.holdUsed := by
  unfold State.eventTally onTargetTally Guide.takeTally lagTally
  split <;> split <;> try rfl
  all_goals cases s.guide.mailbox <;> rfl

theorem countHold_active {x : Entry} (hx : s.activeEntry = some x) :
    s.countHold.activeEntry = some (Entry.onTally (fun y => { y with holdUsed := count32 y.holdUsed 1 }) x) :=
  (onActive_tallied _ s).activeEntry hx

theorem holdSpent_iff {x : Entry} {y : Tally} (hx : s.activeEntry = some x) (hy : x.results.tally = some y) :
    s.countHold.holdSpent = true ↔ x.record.maxHold ≤ min 4294967295 (y.holdUsed + 1) := by
  unfold State.holdSpent
  rw [countHold_active hx]
  show (((x.results.tally.map _).any _) = true) ↔ _
  rw [hy]
  exact decide_eq_true_iff

/-! ### O46 -/

section
variable (hc : s.Concludes u t) (hfixed : s.onFixed e p w)
include hc hfixed

/-- The dwell's end at a calm event (R115, R124). -/
theorem dwellEnd_at_event {n : Nat} (he : s.engine = .tracking n) (hdwell : e.record.dwell ≤ n + 1) :
    .dwellEnd ∈ t.expiries ∧ s.Flips .dwellEnd t ∧
      if s.inputs.instHold.level = true ∧ 0 < e.record.maxHold then
        t.engine = .holding (n + 1) ∧ t.enable = true ∧ s.Rests .targetEnd t ∧
          ∃ x, t.activeEntry = some x ∧ x.record = e.record ∧ x.status = .active .holding
      else
        t.onTarget = false ∧ t.Noticed .targetEnd ∧ s.Flips .targetEnd t ∧
          ∃ x ∈ t.night.entries, x.record = e.record ∧ x.status = .ended .complete ∧
            x.results.endedAt = some s.nextEventTime ∧ x.chain = [] := by
  have hu := hc.onFixed hfixed
  have hengine := hc.engine.trans he
  obtain ⟨_, _, _, hbn, _⟩ := onFixed_followed hu (by rw [hengine]; rfl)
  obtain ⟨x, hx, hrec, _⟩ := evaluated_record hu.1 hbn
  have hd := decided_of_tracking hu hengine
  rw [if_pos hdwell, dwellEnds_eq hx, (evaluated_rest u).2.2, hc.inputs, hrec] at hd
  have hring : u.Rings .dwellEnd u.evaluated.dwelt :=
    (evaluated_silent (src := .dwellEnd) nofun nofun nofun u).rings (dwelt_rings _)
  have hsilent : u.Silent .targetEnd u.evaluated.dwelt :=
    (evaluated_silent (src := .targetEnd) nofun nofun nofun u).trans (dwelt_silent (src := .targetEnd) nofun _)
  have hmem : Expiry.dwellEnd ∈ u.evaluated.dwelt.expiries := List.mem_append_right _ List.mem_cons_self
  split at hd
  case isTrue hhold =>
    rw [if_pos hhold]
    have hflip := hc.flips (src := .dwellEnd) nofun (by rw [hd]; exact hring)
    have hrest := hc.rests (src := .targetEnd) nofun (by rw [hd]; exact hsilent)
    have hactive := enter_onActive (v := u.evaluated.dwelt) (.holding (n + 1)) .holding hx
    refine ⟨hc.expiries _ (by rw [hd]; exact hmem), hflip, ?_⟩
    obtain ⟨_, _, _, _, _, hsame⟩ := hc.same
    rw [hsame] at hrest ⊢
    rw [hd] at hrest ⊢
    exact ⟨rfl, rfl, hrest, _, hactive, hrec, rfl⟩
  case isFalse hhold =>
    rw [if_neg hhold]
    have hactive : u.evaluated.dwelt.activeEntry = some x := hx
    have hends := endAndSelect_endsAs .complete hactive
    have hflip := hc.flips (src := .dwellEnd) nofun
      (by rw [hd]; exact hring.silent (hends.silent _ nofun nofun nofun))
    exact ⟨hc.expiries _ (by rw [hd]; exact hends.expiries _ hmem), hflip,
      hc.endsAs hd hactive hrec (congrArg TimeBase.mountTime (evaluated_rest u).1) hsilent⟩

/-- TRACKING goes on at a calm event (R115). -/
theorem tracking_at_event {n : Nat} (he : s.engine = .tracking n) (hdwell : n + 1 < e.record.dwell) :
    t.engine = .tracking (n + 1) ∧ s.Rests .dwellEnd t := by
  have hd := decided_of_tracking (hc.onFixed hfixed) (hc.engine.trans he)
  rw [if_neg (Nat.not_le.2 hdwell)] at hd
  have hrest := hc.rests (src := .dwellEnd) nofun (by rw [hd]; exact evaluated_silent (src := .dwellEnd) nofun nofun nofun u)
  obtain ⟨_, _, _, _, _, hsame⟩ := hc.same
  rw [hsame] at hrest ⊢
  rw [hd] at hrest ⊢
  exact ⟨rfl, hrest⟩

/-- A release at a calm event (R116, R148). -/
theorem release_at_event {n : Nat} (he : s.engine = .holding n) (hlevel : ¬ s.inputs.instHold.level = true) :
    (t.onTarget = false ∧ t.Noticed .targetEnd ∧ s.Flips .targetEnd t ∧
      ∃ x ∈ t.night.entries, x.record = e.record ∧ x.status = .ended .released ∧
        x.results.endedAt = some s.nextEventTime ∧ x.chain = []) ∧ s.Rests .dwellEnd t := by
  have hu := hc.onFixed hfixed
  have hengine := hc.engine.trans he
  obtain ⟨_, _, _, hbn, _⟩ := onFixed_followed hu (by rw [hengine]; rfl)
  obtain ⟨x, hx, hrec, _⟩ := evaluated_record hu.1 hbn
  have hd := decided_of_holding hu hengine
  rw [hc.inputs, if_neg hlevel] at hd
  have hends := endAndSelect_endsAs .released hx
  have hrest := hc.rests (src := .dwellEnd) nofun
    (by rw [hd]; exact (evaluated_silent (src := .dwellEnd) nofun nofun nofun u).trans (hends.silent _ nofun nofun nofun))
  exact ⟨hc.endsAs hd hx hrec (congrArg TimeBase.mountTime (evaluated_rest u).1)
    (evaluated_silent (src := .targetEnd) nofun nofun nofun u), hrest⟩

/-- A hold that is not spent goes on at a calm event (R116). -/
theorem holding_at_event {n : Nat} {y : Tally} (he : s.engine = .holding n) (hy : e.results.tally = some y)
    (hlevel : s.inputs.instHold.level = true) (hmax : y.holdUsed + 1 < e.record.maxHold) : t.engine = .holding n := by
  have hu := hc.onFixed hfixed
  have hengine := hc.engine.trans he
  obtain ⟨_, _, hev, hbn, _⟩ := onFixed_followed hu (by rw [hengine]; rfl)
  obtain ⟨x, hx, hrec, htally⟩ := evaluated_record hu.1 hbn
  rw [hy] at htally
  have hspent := (holdSpent_iff hx htally).not.2 (by rw [hrec, eventTally_holdUsed]; omega)
  have hd := decided_of_holding hu hengine
  rw [hc.inputs, if_pos hlevel, if_neg hspent] at hd
  obtain ⟨_, _, _, _, _, hsame⟩ := hc.same
  rw [hsame, hd]
  exact hev.trans hengine

/-- A hold that is spent ends the entry at a calm event (R32, R116). -/
theorem holdExpired_at_event {n : Nat} {y : Tally} (he : s.engine = .holding n) (hy : e.results.tally = some y)
    (hlevel : s.inputs.instHold.level = true) (hmax : e.record.maxHold ≤ y.holdUsed + 1) (hword : y.holdUsed < 4294967295) :
    .holdExpired ∈ t.expiries ∧
      (t.onTarget = false ∧ t.Noticed .targetEnd ∧ s.Flips .targetEnd t ∧
        ∃ x ∈ t.night.entries, x.record = e.record ∧ x.status = .ended .holdExpired ∧
          x.results.endedAt = some s.nextEventTime ∧ x.chain = []) ∧
      ∃ x ∈ t.night.entries, x.record = e.record ∧ x.results.tally.map Tally.holdUsed = some (y.holdUsed + 1) := by
  have hu := hc.onFixed hfixed
  have hengine := hc.engine.trans he
  obtain ⟨_, _, hev, hbn, _⟩ := onFixed_followed hu (by rw [hengine]; rfl)
  obtain ⟨x, hx, hrec, htally⟩ := evaluated_record hu.1 hbn
  rw [hy] at htally
  have hspent := (holdSpent_iff hx htally).2 (by rw [hrec, eventTally_holdUsed]; omega)
  have hd := decided_of_holding hu hengine
  rw [hc.inputs, if_pos hlevel, if_pos hspent] at hd
  have hactive : (u.evaluated.countHold.ranOut .holdExpired).activeEntry = _ := countHold_active hx
  have hends := endAndSelect_endsAs .holdExpired hactive
  refine ⟨hc.expiries _ (by rw [hd]; exact hends.expiries _ (List.mem_append_right _ List.mem_cons_self)), ?_, ?_⟩
  · exact hc.endsAs hd hactive hrec (congrArg TimeBase.mountTime (evaluated_rest u).1)
      (evaluated_silent (src := .targetEnd) nofun nofun nofun u)
  · obtain ⟨_, _, _, _, _, hsame⟩ := hc.same
    have hwritten := hends.written
    rw [← hd] at hwritten
    rw [hsame]
    refine ⟨_, hwritten, hrec, ?_⟩
    show ((x.results.tally.map _).map _).map _ = _
    rw [htally]
    show some (min 4294967295 ((u.eventTally y).holdUsed + 1)) = _
    rw [eventTally_holdUsed, Nat.min_eq_right (by omega)]

end

/-- Settles O46: a calm event's decisions in TRACKING and in HOLDING on a FIXED target. -/
theorem dwellAndHoldEnd : Obligations.DwellAndHoldEnd := by
  unfold Obligations.DwellAndHoldEnd
  intro levels order s e p w hcalm hfixed
  have hlevel : s.inputs.instHold.level = showsLevel levels .instHold := hcalm.2.1 .instHold
  dsimp only
  rw [← hlevel]
  have hcomputes {x : Engine} (hx : s.engine = x) (h1 : x ≠ .unset) (h2 : x ≠ .stopped) :=
    calm_computes hcalm (hx ▸ h1) (hx ▸ h2) order
  refine ⟨fun n he hdwell => ?_, fun n he hdwell => ?_, fun n y he hy => ⟨fun hhold => ?_, fun hhold hmax => ?_,
    fun hhold hmax hword => ?_⟩⟩
  · obtain ⟨u, hc⟩ := hcomputes he nofun nofun
    obtain ⟨hmem, hflip, hends⟩ := dwellEnd_at_event hc hfixed he hdwell
    refine ⟨_, demandEventOf_next hmem, exec_demandEvent .., hflip, fun hhold hmax => ?_, fun hno => ?_⟩
    · rwa [if_pos ⟨hhold, hmax⟩] at hends
    · rwa [if_neg hno] at hends
  · obtain ⟨u, hc⟩ := hcomputes he nofun nofun
    exact ⟨_, exec_demandEvent .., tracking_at_event hc hfixed he hdwell⟩
  · obtain ⟨u, hc⟩ := hcomputes he nofun nofun
    exact ⟨_, exec_demandEvent .., release_at_event hc hfixed he hhold⟩
  · obtain ⟨u, hc⟩ := hcomputes he nofun nofun
    exact ⟨_, exec_demandEvent .., holding_at_event hc hfixed he hy hhold hmax⟩
  · obtain ⟨u, hc⟩ := hcomputes he nofun nofun
    obtain ⟨hmem, hends⟩ := holdExpired_at_event hc hfixed he hy hhold hmax hword
    exact ⟨_, demandEventOf_next hmem, exec_demandEvent .., hends⟩

end Sys2Proof.Machine

/-! PROOFS. The guide timer that runs out, and the take of a full mailbox on a FIXED target (R79, R81, R130, R132). -/

namespace Sys2Proof.Machine

variable {s t u : State} {levels : Inputs Bool} {e : Entry} {p : Axes Int} {w : Int}

/-! ### From the blend to the decisions -/

/-- After the blend stage nothing but the ON_TARGET evaluation gives an event (R124). -/
theorem blended_sounds (s : State) : s.blended.Sounds (fun x => x = .onTargetRise ∨ x = .onTargetFall) s.evaluated := by
  have hacts : ActsAt (fun x => x = .onTargetRise ∨ x = .onTargetFall)
      (fun v => ((v.limitStage.stepStage).judgeAlignment).evaluateOnTarget s.baseStage.runout) s.blended := by
    refine .comp (f := fun v => (v.limitStage.stepStage).judgeAlignment) (acts_evaluateOnTarget (.inl rfl) (.inr rfl) _) ?_
    exact .comp (f := fun v => v.limitStage.stepStage) acts_judgeAlignment (.plain rfl fun _ => rfl)
  exact hacts.sounds

theorem blended_signals (s : State) : Signalled s.blended s.evaluated := by
  have hstep : Signalled s.blended s.blended.limitStage.stepStage := State.SameBus.signalled (by constructor <;> rfl)
  exact (hstep.trans (judgeAlignment_signals _)).trans (evaluateOnTarget_signals _ _)

theorem evaluated_model (s : State) : s.evaluated.model = s.guided.model := by
  obtain ⟨w, x, y, z, he⟩ := evaluateOnTarget_frame s.baseStage.runout (s.blended.limitStage.stepStage).judgeAlignment
  obtain ⟨x', y', hj⟩ := judgeAlignment_frame s.blended.limitStage.stepStage
  rw [evaluated_eq, he, hj]
  rfl

/-! ### SETTLING and TRACKING that the event does not end -/

/-- The decisions end nothing: the settle's end, or a timer of the state that has counted on (R114, R115). -/
def State.MovesOn (s t : State) : Prop := t = s.settleEnds ∨ ∃ y, t = s.enter y

theorem decided_movesOn {m : Nat} {x : Entry} (hr : s.baseStage.runout = false) (hc : s.clampedNow = false)
    (hengine : s.evaluated.engine = s.engine) (hx : s.evaluated.activeEntry = some x)
    (he : s.engine = .settling m ∨ (s.engine = .tracking m ∧ m + 1 < x.record.dwell)) : s.evaluated.MovesOn s.decided := by
  unfold State.decided
  rcases he with he | ⟨he, hdwell⟩
  · rw [takeDecision_of_settling (hengine.trans he), hr, hc]
    unfold State.decideSettling
    rw [if_neg Bool.false_ne_true, if_neg Bool.false_ne_true]
    split
    · exact .inl rfl
    · exact .inr ⟨_, rfl⟩
  · rw [takeDecision_of_tracking (hengine.trans he), hr, hc]
    unfold State.decideTracking
    rw [hx, if_neg Bool.false_ne_true, if_neg Bool.false_ne_true]
    dsimp only [Option.map_some, Option.getD_some]
    rw [if_neg (Nat.not_le.2 hdwell)]
    exact .inr ⟨_, rfl⟩

/-- What a decision that ends nothing leaves. -/
theorem State.MovesOn.leaves (h : s.MovesOn t) :
    t.guide = s.guide ∧ t.axes = s.axes ∧ t.model = s.model ∧ Signalled s t ∧ (∀ x ∈ s.expiries, x ∈ t.expiries) ∧
      s.Silent .guideTake t := by
  rcases h with rfl | ⟨y, rfl⟩
  · exact ⟨rfl, rfl, rfl, settleEnds_signals s, fun x hx => List.mem_append_left _ hx,
      (acts_settleEnds (P := (· = .trackStart)) rfl).sounds.silent nofun⟩
  · exact ⟨rfl, rfl, rfl, State.SameBus.signalled (by constructor <;> rfl), fun x hx => hx, fun _ _ => rfl⟩

theorem State.MovesOn.activeEntry (h : s.MovesOn t) (he : s.activeEntry = some e) :
    ∃ x, t.activeEntry = some x ∧ x.record = e.record ∧ x.results.tally = e.results.tally := by
  rcases h with rfl | ⟨y, rfl⟩
  · obtain ⟨_, _, hact, _⟩ := settleEnds_spec he
    exact ⟨_, hact, rfl, rfl⟩
  · exact ⟨e, he, rfl, rfl⟩

/-! ### The timer -/

/-- The guide timer that reaches GUIDE_TIMEOUT: the state is LOST, GUIDE noticed, and the running out noted (R132). -/
theorem countGuide_lost {n : Nat} (hs : s.guide.state = .guiding n) (ht : s.inForce.guideTimeout ≤ (n + 1 : Nat)) :
    s.countGuide.Noticed .guide ∧ .guideLost ∈ s.countGuide.expiries := by
  have heq : s.countGuide = (State.raise .guide (s.withGuideState .lost)).ranOut .guideLost := by
    unfold State.countGuide
    rw [hs]
    exact if_pos ht
  rw [heq]
  exact ⟨raise_noticed _ _, List.mem_append_right _ List.mem_cons_self⟩

theorem evaluated_lost {n : Nat} (hf : s.engine.followsTarget = true) (hr : s.baseStage.runout = false)
    (hs : s.guide.state = .guiding n) (ht : s.inForce.guideTimeout ≤ (n + 1 : Nat)) :
    s.evaluated.Noticed .guide ∧ .guideLost ∈ s.evaluated.expiries := by
  obtain ⟨a, b, c, d, hb⟩ := baseStage_frame s
  have hengine : s.baseStage.state.correctionStage.engine.followsTarget = true := by
    show s.baseStage.state.engine.followsTarget = true
    rcases baseStage_engine s with h | ⟨⟨n, az, h⟩, _⟩
    · rw [h]; exact hf
    · rw [h] at hf; cases hf
  have hstate : s.baseStage.state.correctionStage.takeMailbox.guide.state = .guiding n := by
    rw [takeMailbox_guide_eq, taken_state]
    show s.baseStage.state.guide.state = _
    rw [hb]
    exact hs
  have hguided : s.guided = s.baseStage.state.correctionStage.takeMailbox.countGuide := by
    unfold State.guided State.guideStage
    rw [if_pos hengine, hr, if_neg Bool.false_ne_true]
  obtain ⟨hnoticed, hmem⟩ := countGuide_lost hstate (by simpa using ht)
  rw [← hguided] at hnoticed hmem
  exact ⟨(blended_signals s).noticed hnoticed, (blended_sounds s).expiries_mem hmem⟩

theorem noticed_guide_bit (h : t.Noticed .guide) (l : Link) : (t.notices.boxes.get l).latched.getLsbD 5 = true := by
  by_contra hbit
  refine h l ?_
  have htwo : Notice.guide.bit = BitVec.twoPow _ 5 := rfl
  rw [htwo, BitVec.and_twoPow]
  exact if_neg hbit

/-! ### The take -/

theorem clampAbs_of_le {m x : Int} (h : magnitude x ≤ m) : clampAbs m x = x := by
  unfold magnitude at h
  rw [clampAbs_eq (by omega)]
  omega

/-- Values in their ranges are not changed by the clamp that an event begins with (R138). -/
theorem State.Opening.guide_of_law (h : s.Opening u) (hlaw : s.GuideLaw) : u.guide = s.guide := by
  obtain ⟨⟨haz, hel⟩, hbox, _, _⟩ := hlaw
  rw [h.guide]
  have hoffset : s.guide.offset.map (clampAbs s.inForce.guideRange) = s.guide.offset :=
    congrArg₂ AzEl.mk (clampAbs_of_le haz) (clampAbs_of_le hel)
  have hmail : (s.guide.mailbox.map fun m =>
      { m with correction := m.correction.map (clampAbs s.inForce.guideStepMax) }) = s.guide.mailbox := by
    cases hm : s.guide.mailbox with
    | none => rfl
    | some m =>
      obtain ⟨h1, h2, _⟩ := hbox m hm
      have hcorrection : m.correction.map (clampAbs s.inForce.guideStepMax) = m.correction :=
        congrArg₂ AzEl.mk (clampAbs_of_le h1) (clampAbs_of_le h2)
      show some { m with correction := _ } = _
      rw [hcorrection]
  rw [hoffset, hmail]

theorem countGuide_lines (s : State) : s.countGuide.lines = s.lines := by
  unfold State.countGuide
  split
  · split <;> rfl
  all_goals rfl

/-- The take gives GUIDE_TAKE (R130). -/
theorem guided_rings {box : Mailbox} (hf : s.engine.followsTarget = true) (hr : s.baseStage.runout = false)
    (hbox : s.guide.mailbox = some box) : s.Rings .guideTake s.guided := by
  obtain ⟨a, b, c, d, hb⟩ := baseStage_frame s
  have hengine : s.baseStage.state.correctionStage.engine.followsTarget = true := by
    show s.baseStage.state.engine.followsTarget = true
    rcases baseStage_engine s with h | ⟨⟨n, az, h⟩, _⟩
    · rw [h]; exact hf
    · rw [h] at hf; cases hf
  have hmail : s.baseStage.state.correctionStage.guide.mailbox = some box := by
    show s.baseStage.state.guide.mailbox = _
    rw [hb]
    exact hbox
  have hlines : (s.baseStage.state.correctionStage.mailTaken box).lines = s.lines := by
    show s.baseStage.state.lines = _
    rw [hb]
  have hguided : s.guided.lines = (State.give .guideTake (s.baseStage.state.correctionStage.mailTaken box)).lines := by
    unfold State.guided State.guideStage
    rw [if_pos hengine, hr, if_neg Bool.false_ne_true, countGuide_lines, takeMailbox_of_some hmail]
  intro id hs hm
  rw [hguided, ← hlines]
  rw [← hlines] at hs hm
  exact give_rings .guideTake _ id hs hm

/-- What the entry counts at an event with a take (R31, R32, R130). -/
theorem eventTally_taken {box : Mailbox} (hf : s.engine.followsTarget = true) (hr : s.baseStage.runout = false)
    (hbox : s.guide.mailbox = some box) (y : Tally) :
    let sum := s.guide.offset.map₂ (· + ·) box.correction
    (s.eventTally y).guideTaken = min 4294967295 (y.guideTaken + 1) ∧
      (s.eventTally y).guideMerged = min 4294967295 (y.guideMerged + box.merges) ∧
      (s.eventTally y).guideSaturations =
        min 4294967295 (y.guideSaturations + if sum.map (clampAbs s.inForce.guideRange) = sum then 0 else 1) ∧
      (s.eventTally y).guideDiscarded = y.guideDiscarded := by
  dsimp only
  unfold State.eventTally
  rw [if_pos ⟨hf, hr⟩]
  unfold onTargetTally Guide.takeTally
  rw [hbox]
  cases s.evaluated.onTarget <;> exact ⟨rfl, rfl, rfl, rfl⟩

end Sys2Proof.Machine

/-! PROOFS. A FIXED target with its corrections at work, past capture: the take, the wanted offset, the blend and the demand
of a calm event (R79, R81, R84, R130, R132). -/

namespace Sys2Proof.Machine

variable {s t u : State} {levels : Inputs Bool} {e : Entry} {p : Axes Int} {w : Int}

/-! ### The stages on a FIXED target -/

/-- The offset that a FIXED target's stages want (R79). -/
def State.fixedWanted (p : Axes Int) (w : Int) (s : State) : Axes Int :=
  let c := modelCorrection s.model.cells s.model.pageInUse (roundCounts (fixedPositions p w).az)
    (roundCounts (fixedPositions p w).el)
  let g := (s.guide.taken s.inForce.guideRange).offset
  ⟨c.az + g.az + s.axes.az.host, c.el + g.el + s.axes.el.host, s.axes.rot.host⟩

section
variable (hactive : s.activeEntry = some e) (hkind : e.record.kind = .fixed p) (hwrap : e.results.wrapOffset = some w)
  (hf : s.engine.followsTarget = true)
include hactive hkind hwrap hf

/-- The base stage of a FIXED target past capture holds its position (R73, R74). -/
theorem fixed_base :
    s.baseStage.runout = false ∧ s.evaluated.engine = s.engine ∧ s.baseStage.state.night = s.night ∧
      ∀ ax, (s.baseStage.state.axes.get ax).base = (fixedPositions p w).get ax := by
  have hbase := baseStage_followed (aim_of_fixed hactive hkind hwrap) hf
  refine ⟨by rw [hbase], ?_, by rw [hbase]; rfl, fun ax => by rw [hbase]; cases ax <;> rfl⟩
  rw [evaluated_engine, hbase]
  rfl

/-- The correction of a FIXED target's position (R61). -/
theorem fixed_correction :
    s.guided.model =
      { s.model with
        last := modelCorrection s.model.cells s.model.pageInUse (roundCounts (fixedPositions p w).az)
          (roundCounts (fixedPositions p w).el) } := by
  obtain ⟨_, _, _, haxis⟩ := fixed_base hactive hkind hwrap hf
  have haz : s.baseStage.state.axes.az.base = (fixedPositions p w).az := haxis .az
  have hel : s.baseStage.state.axes.el.base = (fixedPositions p w).el := haxis .el
  rw [guided_model s (baseStage_model s), haz, hel]

theorem fixed_wanted : s.guided.wantedOf s.baseStage.runout = s.fixedWanted p w := by
  obtain ⟨hr, _, _, _⟩ := fixed_base hactive hkind hwrap hf
  have hmodel := fixed_correction hactive hkind hwrap hf
  have hguide := guided_guide hf hr
  obtain ⟨v, x1, x2, x3, x4, hframe⟩ := guided_frame s
  have hhost (ax : Axis) : (s.guided.axes.get ax).host = (s.axes.get ax).host := by
    have haxes : s.guided.axes = s.baseStage.state.axes := by rw [hframe]; rfl
    rw [haxes, (baseStage_host hr ax).1]
  have haz : s.guided.axes.az.host = s.axes.az.host := hhost .az
  have hel : s.guided.axes.el.host = s.axes.el.host := hhost .el
  have hrot : s.guided.axes.rot.host = s.axes.rot.host := hhost .rot
  rw [guided_wanted (isTarget_of_followsTarget hf) hr, hmodel, hguide, (timed_offset _ _).1, haz, hel, hrot]
  rfl

/-- The blend of a FIXED target's axis, and the sum that the limit stage finds (R81, R84). -/
theorem fixed_blended (ax : Axis) :
    (s.blended.axes.get ax).wanted = (s.fixedWanted p w).get ax ∧
      (s.blended.axes.get ax).applied = blend s.inForce.cstep ((s.fixedWanted p w).get ax) (s.axes.get ax).applied ∧
      (s.blended.axes.get ax).sum = roundCounts ((fixedPositions p w).get ax) +
        blend s.inForce.cstep ((s.fixedWanted p w).get ax) (s.axes.get ax).applied := by
  obtain ⟨hr, _, _, haxis⟩ := fixed_base hactive hkind hwrap hf
  have happlied : (s.blended.axes.get ax).applied =
      blend s.inForce.cstep ((s.fixedWanted p w).get ax) (s.axes.get ax).applied := by
    rw [blended_axis_eq, fixed_wanted hactive hkind hwrap hf, ← (baseStage_host hr ax).2]
    rfl
  refine ⟨?_, happlied, ?_⟩
  · rw [blended_axis_eq, fixed_wanted hactive hkind hwrap hf]
    rfl
  · rw [blended_sum, happlied, haxis]

end

/-- The stages after the blend leave what it left, but for the demand, E and the lag (R84, R87). -/
theorem evaluated_offsets (s : State) (ax : Axis) :
    (s.evaluated.axes.get ax).wanted = (s.blended.axes.get ax).wanted ∧
      (s.evaluated.axes.get ax).applied = (s.blended.axes.get ax).applied := by
  rw [evaluated_axis]
  exact ⟨rfl, rfl⟩

/-! ### O47 -/

/-- The guide timer at a calm event of a FIXED target with no correction at work (R132). -/
theorem guideTimer_at_event {n m : Nat} (hc : s.Concludes u t) (hfixed : s.onFixed e p w) (hs : s.guide.state = .guiding n)
    (he : s.engine = .settling m ∨ (s.engine = .tracking m ∧ m + 1 < e.record.dwell)) :
    t.guide = (u.guide.taken s.inForce.guideRange).timed s.inForce.guideTimeout ∧ u.guide.state = .guiding n ∧
      (s.inForce.guideTimeout ≤ (n + 1 : Nat) → t.Noticed .guide ∧ .guideLost ∈ t.expiries) := by
  have hu := hc.onFixed hfixed
  have hfollows : u.engine.followsTarget = true := by
    rcases he with he | ⟨he, _⟩ <;> rw [hc.engine, he] <;> rfl
  obtain ⟨hr, hclamped, hev, hbn, _⟩ := onFixed_followed hu hfollows
  obtain ⟨x, hx, hrec, _⟩ := evaluated_record hu.1 hbn
  have hmoves := decided_movesOn hr hclamped hev hx (m := m) (by rw [hc.engine, hrec]; exact he)
  obtain ⟨hguide, _, _, hsignals, hexp, _⟩ := hmoves.leaves
  have hstate := hc.guide_state.trans hs
  obtain ⟨_, _, _, _, _, hsame⟩ := hc.same
  refine ⟨?_, hstate, fun hto => ?_⟩
  · rw [hsame]
    refine hguide.trans ?_
    rw [evaluated_guide, guided_guide hfollows hr, hc.inForce]
  · obtain ⟨hnoticed, hmem⟩ := evaluated_lost hfollows hr hstate (hc.inForce ▸ hto)
    refine ⟨?_, hc.expiries _ (hexp _ hmem)⟩
    rw [hsame]
    exact hsignals.noticed hnoticed

theorem cut_eq {m : Int} (hm : 0 ≤ m) : clampAbs m = fun x => max (-m) (min m x) := funext fun x => clampAbs_eq hm x

/-- The take of a full mailbox at a calm event of a FIXED target (R79, R81, R84, R130). -/
theorem take_at_event {m : Nat} {box : Mailbox} {y : Tally} (hc : s.Concludes u t) (hlaw : s.GuideLaw)
    (hactive : s.activeEntry = some e) (hkind : e.record.kind = .fixed p) (hwrap : e.results.wrapOffset = some w)
    (hy : e.results.tally = some y) (hbox : s.guide.mailbox = some box)
    (he : s.engine = .settling m ∨ (s.engine = .tracking m ∧ m + 1 < e.record.dwell))
    (hin : ∀ ax, s.within ax (roundCounts ((fixedPositions p w).get ax) +
      blend s.inForce.cstep ((s.fixedWanted p w).get ax) (s.axes.get ax).applied) = true) :
    (t.guide = (s.guide.taken s.inForce.guideRange).timed s.inForce.guideTimeout ∧
      t.model.last = modelCorrection s.model.cells s.model.pageInUse (roundCounts (fixedPositions p w).az)
        (roundCounts (fixedPositions p w).el)) ∧
      (∀ ax, (t.axes.get ax).wanted = (s.fixedWanted p w).get ax ∧
        (t.axes.get ax).applied = blend s.inForce.cstep ((s.fixedWanted p w).get ax) (s.axes.get ax).applied ∧
        (t.axes.get ax).demand = roundCounts ((fixedPositions p w).get ax) +
          blend s.inForce.cstep ((s.fixedWanted p w).get ax) (s.axes.get ax).applied) ∧
      (∃ x, t.activeEntry = some x ∧ x.record = e.record ∧ x.results.tally = some (u.eventTally y)) ∧
      u.guide = s.guide ∧ u.engine.followsTarget = true ∧ u.baseStage.runout = false ∧ s.Flips .guideTake t := by
  have hfollows : u.engine.followsTarget = true := by
    rcases he with he | ⟨he, _⟩ <;> rw [hc.engine, he] <;> rfl
  have hguideu := hc.guide_of_law hlaw
  have hact := hc.activeEntry.trans hactive
  have hwanted : u.fixedWanted p w = s.fixedWanted p w := by
    unfold State.fixedWanted
    rw [hc.model, hguideu, hc.inForce, hc.axes]
  obtain ⟨hr, hev, hbn, haxis⟩ := fixed_base hact hkind hwrap hfollows
  have hblended := fixed_blended hact hkind hwrap hfollows
  rw [hwanted, hc.inForce, hc.axes] at hblended
  have hwithin (ax : Axis) : u.within ax (u.blended.axes.get ax).sum = true := by
    rw [hc.within, (hblended ax).2.2]
    exact hin ax
  obtain ⟨x, hx, hrec, htally⟩ := evaluated_record hact hbn
  have hmoves := decided_movesOn hr (clampedNow_eq_false hwithin) hev hx (m := m) (by rw [hc.engine, hrec]; exact he)
  obtain ⟨hguide, haxes, hmodel, hsignals, hexp, hsilent⟩ := hmoves.leaves
  obtain ⟨x', hx', hrec', htally'⟩ := hmoves.activeEntry hx
  have hflips := hc.flips (src := .guideTake) nofun (by
    have hrings := guided_rings hfollows hr (hguideu ▸ hbox)
    have hev : u.guided.Silent .guideTake u.evaluated :=
      (blended_sounds u).silent (src := .guideTake) (by rintro (h | h) <;> cases h)
    exact (hrings.silent hev).silent hsilent)
  have hlast := congrArg ModelTable.last hc.last
  obtain ⟨_, _, _, _, _, hsame⟩ := hc.same
  refine ⟨⟨?_, ?_⟩, fun ax => ?_, ⟨x', ?_, hrec'.trans hrec, ?_⟩, hguideu, hfollows, hr, hflips⟩
  · rw [hsame]
    refine hguide.trans ?_
    rw [evaluated_guide, guided_guide hfollows hr, hguideu, hc.inForce]
  · refine hlast.trans ?_
    show modelCorrection u.decided.model.cells u.decided.model.pageInUse _ _ = _
    have haz : u.baseStage.state.axes.az.base = (fixedPositions p w).az := haxis .az
    have hel : u.baseStage.state.axes.el.base = (fixedPositions p w).el := haxis .el
    rw [hmodel, evaluated_model, fixed_correction hact hkind hwrap hfollows, haz, hel, hc.model]
  · obtain ⟨hw, ha, hsum⟩ := hblended ax
    rw [hsame]
    show (u.decided.axes.get ax).wanted = _ ∧ (u.decided.axes.get ax).applied = _ ∧ (u.decided.axes.get ax).demand = _
    rw [haxes, (evaluated_offsets u ax).1, (evaluated_offsets u ax).2, evaluated_demand,
      clamp_of_mem ((within_iff _ _ _).1 (hwithin ax))]
    exact ⟨hw, ha, hsum⟩
  · rw [hsame]
    exact hx'
  · rw [htally', htally, hy]
    rfl

/-- Settles O47: the guide timer with nothing at work, and a full mailbox within its ranges, at a calm event. -/
theorem guideTimerRunsOut : Obligations.GuideTimerRunsOut := by
  unfold Obligations.GuideTimerRunsOut
  constructor
  · intro levels order s e p w n m hcalm hfixed hs he
    have hne : s.engine ≠ .unset ∧ s.engine ≠ .stopped := by
      rcases he with he | ⟨he, _⟩ <;> rw [he] <;> exact ⟨nofun, nofun⟩
    obtain ⟨u, hc⟩ := calm_computes hcalm hne.1 hne.2 order
    obtain ⟨hguide, hstate, hlost⟩ := guideTimer_at_event hc hfixed hs he
    have hbox : u.guide.mailbox = none := (hc.onFixed hfixed).2.2.2.2.2.1
    have hoffset : u.guide.offset = ⟨0, 0⟩ := (hc.onFixed hfixed).2.2.2.2.1
    rw [taken_of_none hbox] at hguide
    have htimed : (u.guide.timed s.inForce.guideTimeout).state =
        if s.inForce.guideTimeout ≤ (n + 1 : Nat) then .lost else .guiding (n + 1) := by
      unfold Guide.timed
      rw [hstate]
    refine ⟨fun hto => ⟨_, exec_demandEvent .., ?_⟩, fun hto => ?_⟩
    · rw [hguide, htimed, if_neg (Int.not_le.2 hto)]
    · obtain ⟨hnoticed, hmem⟩ := hlost hto
      refine ⟨_, demandEventOf_next hmem, exec_demandEvent .., ?_, ?_, noticed_guide_bit hnoticed⟩
      · rw [hguide, htimed, if_pos hto]
      · rw [hguide, (timed_offset _ _).1, hoffset]
  · intro levels order s e p w y box m hcalm hlaw hactive hkind hwrap hy hbox he
    have hrange : 0 ≤ s.inForce.guideRange := by
      have h := hlaw.1.1
      unfold magnitude at h
      omega
    have htaken : s.guide.taken s.inForce.guideRange =
        { s.guide with
          mailbox := none
          offset := (s.guide.offset.map₂ (· + ·) box.correction).map (clampAbs s.inForce.guideRange) } := by
      unfold Guide.taken
      rw [hbox]
    have hcut : (s.guide.offset.map₂ (· + ·) box.correction).map (clampAbs s.inForce.guideRange) =
        ⟨max (-s.inForce.guideRange) (min s.inForce.guideRange (s.guide.offset.az + box.correction.az)),
          max (-s.inForce.guideRange) (min s.inForce.guideRange (s.guide.offset.el + box.correction.el))⟩ := by
      rw [cut_eq hrange]
      rfl
    have hne : s.engine ≠ .unset ∧ s.engine ≠ .stopped := by
      rcases he with he | ⟨he, _⟩ <;> rw [he] <;> exact ⟨nofun, nofun⟩
    obtain ⟨u, hc⟩ := calm_computes hcalm hne.1 hne.2 order
    have hwanted : s.fixedWanted p w =
        ⟨(modelCorrection s.model.cells s.model.pageInUse (roundCounts (fixedPositions p w).az)
              (roundCounts (fixedPositions p w).el)).az +
            max (-s.inForce.guideRange) (min s.inForce.guideRange (s.guide.offset.az + box.correction.az)) + s.axes.az.host,
          (modelCorrection s.model.cells s.model.pageInUse (roundCounts (fixedPositions p w).az)
              (roundCounts (fixedPositions p w).el)).el +
            max (-s.inForce.guideRange) (min s.inForce.guideRange (s.guide.offset.el + box.correction.el)) + s.axes.el.host,
          s.axes.rot.host⟩ := by
      unfold State.fixedWanted
      rw [htaken, hcut]
    dsimp only
    rw [← hcut, ← hwanted]
    intro hin
    obtain ⟨⟨hguide, hlast⟩, haxes, ⟨x, hx, hrec, htally⟩, hguideu, hfollows, hr, hflips⟩ :=
      take_at_event hc hlaw hactive hkind hwrap hy hbox he hin
    obtain ⟨htook, hmerged, hsaturated, hdiscarded⟩ := eventTally_taken hfollows hr (hguideu ▸ hbox) y
    rw [htaken] at hguide
    rw [hguideu, hc.inForce] at hsaturated
    refine ⟨_, exec_demandEvent .., ?_, ?_, hlast, haxes,
      ⟨x, _, hx, hrec, htally, htook, hmerged, ?_, hdiscarded⟩, hflips⟩
    · rw [hguide, (timed_offset _ _).2]
    · rw [hguide, (timed_offset _ _).1]
    · rw [hsaturated]
      show min _ (_ + if _ = (⟨_, _⟩ : AzEl Int) then 0 else 1) = _
      split <;> rfl

end Sys2Proof.Machine

/-! PROOFS. The report's age and the alignment judged at a demand event, whatever else it does (R141, R142, log entry 4). -/

namespace Sys2Proof.Machine

variable {s t u : State} {levels : Inputs Bool}

/-! ### The turns of the other blocks -/

/-- What the judgement of the alignment reads and writes stands between two states (R142). -/
structure State.Spares (s t : State) : Prop where
  report : t.enclosure.report = s.enclosure.report
  alignment : t.enclosure.alignment = s.enclosure.alignment
  demand : t.axes.az.demand = s.axes.az.demand
  inForce : t.inForce = s.inForce
  expiries : ∀ x ∈ s.expiries, x ∈ t.expiries

theorem State.Spares.trans (h : s.Spares t) (h' : t.Spares u) : s.Spares u :=
  ⟨h'.report.trans h.report, h'.alignment.trans h.alignment, h'.demand.trans h.demand, h'.inForce.trans h.inForce,
    fun x hx => h'.expiries x (h.expiries x hx)⟩

/-- The enclosure's report and its judgement stand between two states. -/
def State.SameReport (s t : State) : Prop :=
  t.enclosure.report = s.enclosure.report ∧ t.enclosure.alignment = s.enclosure.alignment

theorem State.SameReport.of_eq (h : t.enclosure = s.enclosure) : s.SameReport t := by
  unfold State.SameReport
  rw [h]
  exact ⟨rfl, rfl⟩

theorem State.SameReport.trans (h : s.SameReport t) (h' : t.SameReport u) : s.SameReport u :=
  ⟨h'.1.trans h.1, h'.2.trans h.2⟩

theorem faultEvent_report (k : FaultKind) (s : State) : s.SameReport (s.faultEvent k) := by
  by_cases h : s.engine = .stopped
  · rw [faultEvent_stopped k h]
    exact .of_eq rfl
  · unfold State.SameReport
    rw [faultEvent_enclosure k h]
    exact ⟨rfl, rfl⟩

theorem formShelter_report (s : State) : s.SameReport s.formShelter :=
  formShelter_keeps (P := s.SameReport) (.of_eq rfl) (fun _ h => h.trans ⟨rfl, rfl⟩) (fun _ _ h => h.trans ⟨rfl, rfl⟩)
    (fun _ _ h => h.trans (.of_eq (by simp)))
    (fun _ _ h => h.trans (.of_eq rfl))

theorem filterInput_report (i : Input) (s : State) : s.SameReport (s.filterInput i) := by
  unfold State.filterInput
  dsimp only
  generalize (s.inputs.get i).sample (s.pins.get i == assertedHigh i) = f
  have hset : s.SameReport { s with inputs := s.inputs.set i f } := .of_eq rfl
  split
  · unfold State.faultIf
    split
    · exact hset.trans (faultEvent_report _ _)
    · exact hset
  · split
    · exact hset.trans (formShelter_report _)
    · exact hset

theorem turn_report {x : Turn} (h : x ≠ .engine) (s : State) : s.SameReport (s.turn x) := by
  cases x with
  | filter i => exact filterInput_report i s
  | engine => exact absurd rfl h
  | line id =>
    show s.SameReport (s.lineTurn id)
    unfold State.lineTurn
    dsimp only
    repeat' split
    all_goals exact .of_eq rfl
  | second =>
    show s.SameReport s.secondTurn
    unfold State.secondTurn
    split
    · exact .of_eq rfl
    · exact .of_eq rfl

/-- A timer noted at an event stays noted. -/
theorem turn_expiries (x : Turn) (s : State) : ∀ y ∈ s.expiries, y ∈ (s.turn x).expiries := by
  intro y hy
  cases x with
  | filter i => exact (filterInput_sounds i s).expiries_mem hy
  | engine => exact (acts_engineTurn (P := fun _ => True) fun _ _ => trivial).sounds.expiries_mem hy
  | line id =>
    show y ∈ (s.lineTurn id).expiries
    unfold State.lineTurn
    dsimp only
    repeat' split
    all_goals first | exact hy | exact List.mem_append_left _ hy
  | second =>
    show y ∈ s.secondTurn.expiries
    unfold State.secondTurn
    split <;> exact hy

theorem turn_spares {x : Turn} (h : x ≠ .engine) (s : State) : s.Spares (s.turn x) := by
  obtain ⟨haxes, hforce, _⟩ := turn_aside h s
  obtain ⟨hr, ha⟩ := turn_report h s
  refine ⟨hr, ha, ?_, hforce, turn_expiries x s⟩
  rcases haxes with h | ⟨h, _⟩ <;> rw [h]
  rfl

theorem turns_spares {l : List Turn} (h : Turn.engine ∉ l) (s : State) : s.Spares (l.foldl State.turn s) := by
  induction l generalizing s with
  | nil => exact ⟨rfl, rfl, rfl, rfl, fun _ h => h⟩
  | cons x rest ih =>
    obtain ⟨hx, hrest⟩ := not_or.1 (mt List.mem_cons.2 h)
    exact (turn_spares (Ne.symm hx) s).trans (ih hrest _)

/-! ### The engine's turn -/

/-- The engine's turn judges the report it finds on the AZ demand it leaves (R72, R142). -/
theorem engineTurn_judges (s : State) : ∃ v : State,
    s.engineTurn.enclosure = v.judgeAlignment.enclosure ∧ v.enclosure = s.enclosure ∧ v.inForce = s.inForce ∧
      v.axes.az.demand = s.engineTurn.axes.az.demand ∧ ∀ x ∈ v.judgeAlignment.expiries, x ∈ s.engineTurn.expiries := by
  by_cases hdown : s.engine = .unset ∨ s.engine = .stopped
  · refine ⟨s, ?_⟩
    rw [engineTurn_of_down hdown]
    obtain ⟨x, y, h⟩ := judgeAlignment_frame s
    refine ⟨rfl, rfl, rfl, ?_, fun _ h => h⟩
    rw [h]
  · obtain ⟨hu, hs⟩ := not_or.1 hdown
    obtain ⟨henc, _, hforce⟩ := blended_enclosure s
    refine ⟨s.blended.limitStage.stepStage, ?_⟩
    rw [engineTurn_of_ne hu hs]
    refine ⟨computeEvent_enclosure s, henc, hforce, ?_, fun x hx => ?_⟩
    · have hkept : (s.computeEvent.axes.get .az).demand = (s.evaluated.axes.get .az).demand :=
        ((computeEvent_steady s).axes .az).1
      rw [(judgedNow_axes s).2, (judgedNow_axes s).1] at hkept
      exact hkept.symm
    · have heval : x ∈ s.evaluated.expiries :=
        (acts_evaluateOnTarget (P := fun _ => True) (s := s.judgedNow) trivial trivial s.baseStage.runout).sounds.expiries_mem hx
      exact (acts_takeDecision (P := fun _ => True) (s := s.evaluated) trivial trivial trivial trivial trivial trivial trivial
        s.baseStage s.clampedNow).sounds.expiries_mem heval

theorem judgeAlignment_none (h : s.enclosure.report = none) :
    s.judgeAlignment = { s with enclosure := { s.enclosure with alignment := .unknown } } := by
  unfold State.judgeAlignment
  rw [h]

theorem judgeAlignment_some {r : EncReport} (h : s.enclosure.report = some r) :
    s.judgeAlignment.enclosure = (s.judged r).enclosure ∧
      ((s.judged r).enclosure.alignment = .unknown → s.enclosure.alignment ≠ .unknown → .encReport ∈ s.judgeAlignment.expiries) := by
  rw [judgeAlignment_of_some h]
  split
  · exact ⟨rfl, fun _ _ => List.mem_append_right _ List.mem_cons_self⟩
  case isFalse hno => exact ⟨rfl, fun h1 h2 => absurd ⟨h1, h2⟩ hno⟩

/-! ### A demand event -/

theorem opened_latest (n : Nat) (s : State) :
    (s.opened levels n).inForce.encTimeout = s.latest .encTimeout ∧ (s.opened levels n).inForce.encTol = s.latest .encTol := by
  obtain ⟨y, z, h⟩ := opened_frame levels n s
  rw [h]
  exact ⟨rfl, rfl⟩

/-- The judgement of a demand event is the engine's turn's, on the values that take force at it (R141, R142, R190). -/
theorem demandEvent_judges (h : s.counting) (order : List Turn) : ∃ v : State,
    (s.demandEvent levels order).enclosure.report = v.judgeAlignment.enclosure.report ∧
      (s.demandEvent levels order).enclosure.alignment = v.judgeAlignment.enclosure.alignment ∧
      v.enclosure.report = s.enclosure.report ∧ v.enclosure.alignment = s.enclosure.alignment ∧
      v.inForce.encTimeout = s.latest .encTimeout ∧ v.inForce.encTol = s.latest .encTol ∧
      v.axes.az.demand = (s.demandEvent levels order).axes.az.demand ∧
      ∀ x ∈ v.judgeAlignment.expiries, x ∈ (s.demandEvent levels order).expiries := by
  obtain ⟨hreset, hsome⟩ := h
  obtain ⟨n, hn⟩ := Option.isSome_iff_exists.1 hsome
  obtain ⟨pre, post, hpre, hpost, hsplit⟩ := runEvent_split levels order (s.elapse n)
  have hpre := turns_spares hpre (s.opened levels n)
  obtain ⟨v, henc, hev, hforce, hdemand, hexp⟩ := engineTurn_judges (pre.foldl State.turn (s.opened levels n))
  have hpost := turns_spares hpost (pre.foldl State.turn (s.opened levels n)).engineTurn
  have hopened : (s.opened levels n).SameReport s := by
    obtain ⟨y, z, h⟩ := opened_frame levels n s
    rw [h]
    exact .of_eq rfl
  obtain ⟨hl1, hl2⟩ := opened_latest (levels := levels) n s
  rw [demandEvent_eq hreset hn, hsplit]
  refine ⟨v, ?_, ?_, ?_, ?_, ?_, ?_, hdemand.trans hpost.demand.symm, fun x hx => hpost.expiries x (hexp x hx)⟩
  · rw [← henc]; exact hpost.report
  · rw [← henc]; exact hpost.alignment
  · rw [hev, hpre.report, hopened.1]
  · rw [hev, hpre.alignment, hopened.2]
  · rw [hforce, hpre.inForce, hl1]
  · rw [hforce, hpre.inForce, hl2]

/-! ### The judgement -/

theorem judge_expired {timeout tol : Int} {r : EncReport} {d : Int} (h : timeout < (r.age : Int)) :
    judge timeout tol r d = .unknown := if_pos h

/-- The distance of a slit from a demand, each way round (R1, R142). -/
theorem circularDistance_demand (x d : Int) :
    circularDistance x (d % fullTurn) = min ((x - d) % 16777216) ((d - x) % 16777216) := by
  unfold circularDistance fullTurn
  rw [Int.sub_emod_emod, Int.emod_sub_emod]

theorem judge_fresh {timeout tol : Int} {r : EncReport} {d : Int} (h : (r.age : Int) ≤ timeout) :
    judge timeout tol r d =
      if min (((r.slit : Int) - d) % 16777216) ((d - r.slit) % 16777216) ≤ tol then .aligned else .misaligned := by
  unfold judge
  rw [if_neg (Int.not_lt.2 h), circularDistance_demand]

end Sys2Proof.Machine

/-! PROOFS. The ON_TARGET evaluation of a FIXED target that a calm event does not end (R31, R32, R87, R145, R147). -/

namespace Sys2Proof.Machine

variable {s t u : State} {levels : Inputs Bool} {e : Entry} {p : Axes Int} {w : Int}

/-! ### What the evaluation finds -/

/-- The entry that the ON_TARGET evaluation finds has the record of the ACTIVE one. -/
theorem judgedNow_active (hactive : s.activeEntry = some e) (hnight : s.baseStage.state.night = s.night) :
    ∃ x, s.judgedNow.activeEntry = some x ∧ x.record = e.record := by
  have hguided := guided_tallied s
  have hblend : s.guided.Tallied id s.blended := .of_night rfl
  have hjudged : s.blended.limitStage.stepStage.Tallied id s.judgedNow := by
    obtain ⟨x, y, h⟩ := judgeAlignment_frame s.blended.limitStage.stepStage
    refine .of_night ?_
    unfold State.judgedNow
    rw [h]
  have hall := ((hguided.trans hblend).trans (stepStage_tallied s.blended)).trans hjudged
  have hbase : s.baseStage.state.activeEntry = some e := by
    unfold State.activeEntry
    rw [hnight]
    exact hactive
  exact ⟨_, hall.activeEntry hbase, rfl⟩

theorem evaluated_of_judgedNow (s : State) :
    s.evaluated.engine = s.judgedNow.engine ∧ s.evaluated.guide = s.judgedNow.guide ∧
      s.evaluated.enclosure = s.judgedNow.enclosure ∧ s.judgedNow.inForce = s.inForce := by
  obtain ⟨w, x, y, z, h⟩ := evaluateOnTarget_frame s.baseStage.runout s.judgedNow
  obtain ⟨x', y', hj⟩ := judgeAlignment_frame s.blended.limitStage.stepStage
  refine ⟨?_, ?_, ?_, ?_⟩
  · rw [evaluated_judgedNow, h]
  · rw [evaluated_judgedNow, h]
  · rw [evaluated_judgedNow, h]
  · unfold State.judgedNow
    rw [hj]
    exact (blended_enclosure s).2.2

/-- The guide state is GUIDING (R126). -/
def Guide.guides (g : Guide) : Bool :=
  match g.state with
  | .guiding _ => true
  | _ => false

theorem guides_iff (g : Guide) : g.guides = true ↔ ∃ m, g.state = .guiding m := by
  unfold Guide.guides
  split
  case h_1 m h => exact ⟨fun _ => ⟨m, h⟩, fun _ => rfl⟩
  case h_2 h => exact ⟨nofun, fun ⟨m, hm⟩ => absurd hm (h m)⟩

/-- The conditions of ON_TARGET (R145). -/
theorem onTargetNow_iff (hactive : s.activeEntry = some e) :
    s.onTargetNow false = true ↔
      s.engine.isTracking = true ∧ (∀ ax, magnitude (s.axes.get ax).lag ≤ s.inForce.lagTol) ∧
        (s.inForce.followEnc = 0 ∨ s.enclosure.alignment = .aligned) ∧
        (e.record.guideRequired = true → ∃ m, s.guide.state = .guiding m) := by
  have hguide : (!e.record.guideRequired || s.guide.guides) = true ↔
      (e.record.guideRequired = true → ∃ m, s.guide.state = .guiding m) := by
    rw [← guides_iff]
    cases e.record.guideRequired <;> simp
  have hlags : (s.axes.all fun a => decide (magnitude a.lag ≤ s.inForce.lagTol)) = true ↔
      ∀ ax, magnitude (s.axes.get ax).lag ≤ s.inForce.lagTol := by
    rw [axes_all_iff]
    exact forall_congr' fun ax => decide_eq_true_iff
  have heq : s.onTargetNow false = (s.engine.isTracking && !false &&
      s.axes.all (fun a => decide (magnitude a.lag ≤ s.inForce.lagTol)) &&
      (decide (s.inForce.followEnc = 0) || decide (s.enclosure.alignment = .aligned)) &&
      (!e.record.guideRequired || s.guide.guides)) := by
    unfold State.onTargetNow
    rw [hactive]
    rfl
  rw [heq, Bool.and_eq_true, Bool.and_eq_true, Bool.and_eq_true, hguide, hlags, Bool.or_eq_true, decide_eq_true_iff,
    decide_eq_true_iff, Bool.not_false, Bool.and_true, and_assoc, and_assoc]

/-! ### What it gives and raises -/

/-- A change of ON_TARGET gives its event and no other, and is noticed; no change gives nothing (R147). -/
theorem setOnTarget_hears (b : Bool) (s : State) :
    (s.onTarget = b → s.setOnTarget b = s) ∧
      (s.onTarget ≠ b → (s.setOnTarget b).Noticed .onTarget ∧
        s.Rings (if b then .onTargetRise else .onTargetFall) (s.setOnTarget b) ∧
        s.Silent (if b then .onTargetFall else .onTargetRise) (s.setOnTarget b)) := by
  refine ⟨fun h => if_pos h, fun h => ?_⟩
  have heq : s.setOnTarget b =
      State.give (if b then .onTargetRise else .onTargetFall) (State.raise .onTarget { s with onTarget := b }) := if_neg h
  rw [heq]
  refine ⟨?_, ?_, ?_⟩
  · exact raise_noticed .onTarget _
  · exact give_rings _ (State.raise .onTarget { s with onTarget := b })
  · have hsilent : (State.raise .onTarget { s with onTarget := b }).Silent (if b then .onTargetFall else .onTargetRise)
        (State.give (if b then .onTargetRise else .onTargetFall) (State.raise .onTarget { s with onTarget := b })) :=
      (acts_give (P := (· = if b then .onTargetRise else .onTargetFall)) rfl).sounds.silent (by cases b <;> exact nofun)
    exact hsilent

theorem noticed_bit {k : Notice} {i : Nat} (hk : k.bit = BitVec.twoPow _ i) (h : t.Noticed k) (l : Link) :
    (t.notices.boxes.get l).latched.getLsbD i = true := by
  by_contra hbit
  refine h l ?_
  rw [hk, BitVec.and_twoPow]
  exact if_neg hbit

/-- Before the ON_TARGET evaluation the stages are silent but for the take (R124). -/
theorem judgedNow_silent {src : Source} (h : src ≠ .guideTake) (s : State) : s.Silent src s.judgedNow := by
  have hblended : s.Silent src s.blended := (acts_blended (P := (· = .guideTake)) rfl).sounds.silent h
  have hstep : s.blended.Silent src s.blended.limitStage.stepStage := fun _ _ => rfl
  have hjudged : s.blended.limitStage.stepStage.Silent src s.judgedNow :=
    (acts_judgeAlignment (P := fun _ => False)).sounds.silent id
  exact (hblended.trans hstep).trans hjudged

theorem judgedNow_onTarget (s : State) : s.judgedNow.onTarget = s.onTarget := by
  obtain ⟨x', y', hj⟩ := judgeAlignment_frame s.blended.limitStage.stepStage
  obtain ⟨a, b, c, d, e, f, hb⟩ := blended_frame s
  obtain ⟨a', b', c', d', hs⟩ := baseStage_frame s
  unfold State.judgedNow
  rw [hj]
  show s.blended.onTarget = _
  rw [hb, hs]

/-- What the evaluation of ON_TARGET gives of a change, and raises (R147). -/
theorem evaluated_hears (s : State) :
    (s.onTarget = s.evaluated.onTarget → s.Silent .onTargetRise s.evaluated ∧ s.Silent .onTargetFall s.evaluated) ∧
      (s.onTarget ≠ s.evaluated.onTarget → s.evaluated.Noticed .onTarget ∧
        s.Rings (if s.evaluated.onTarget then .onTargetRise else .onTargetFall) s.evaluated ∧
        s.Silent (if s.evaluated.onTarget then .onTargetFall else .onTargetRise) s.evaluated) := by
  have hsame : s.evaluated.lines = (s.judgedNow.setOnTarget s.evaluated.onTarget).lines ∧
      s.evaluated.notices = (s.judgedNow.setOnTarget s.evaluated.onTarget).notices := by
    rw [evaluated_onTarget, evaluated_judgedNow]
    unfold State.evaluateOnTarget
    dsimp only
    split <;> exact ⟨rfl, rfl⟩
  obtain ⟨hstays, hchanges⟩ := setOnTarget_hears s.evaluated.onTarget s.judgedNow
  rw [judgedNow_onTarget] at hstays hchanges
  have hrise := judgedNow_silent (src := .onTargetRise) nofun s
  have hfall := judgedNow_silent (src := .onTargetFall) nofun s
  generalize s.evaluated.onTarget = b at *
  refine ⟨fun h => ?_, fun h => ?_⟩
  · rw [hstays h] at hsame
    exact ⟨fun id hs => (congrArg (Lines.get · id) hsame.1).trans (hrise id hs),
      fun id hs => (congrArg (Lines.get · id) hsame.1).trans (hfall id hs)⟩
  · obtain ⟨hnoticed, hrings, hsilent⟩ := hchanges h
    have hr : s.Rings (if b then .onTargetRise else .onTargetFall) (s.judgedNow.setOnTarget b) := by
      cases b
      · exact hfall.rings hrings
      · exact hrise.rings hrings
    have hq : s.Silent (if b then .onTargetFall else .onTargetRise) (s.judgedNow.setOnTarget b) := by
      cases b
      · exact hrise.trans hsilent
      · exact hfall.trans hsilent
    refine ⟨fun l => ?_, fun id hs hm => (congrArg (Lines.get · id) hsame.1).trans (hr id hs hm),
      fun id hs => (congrArg (Lines.get · id) hsame.1).trans (hq id hs)⟩
    rw [hsame.2]
    exact hnoticed l

/-! ### The decisions that end nothing -/

/-- The decisions only count on: the state's timer, or the hold used (R114, R115, R116). -/
def State.CountsOn (s t : State) : Prop := (∃ y, t = s.enter y) ∨ t = s.countHold

theorem State.CountsOn.leaves (h : s.CountsOn t) :
    t.onTarget = s.onTarget ∧ t.axes = s.axes ∧ t.guide = s.guide ∧ t.enclosure = s.enclosure ∧ t.lines = s.lines ∧
      t.notices = s.notices := by
  rcases h with ⟨y, rfl⟩ | rfl <;> exact ⟨rfl, rfl, rfl, rfl, rfl, rfl⟩

theorem State.CountsOn.activeEntry {y : Tally} (h : s.CountsOn t) (he : s.activeEntry = some e)
    (hy : e.results.tally = some y) :
    ∃ x z, t.activeEntry = some x ∧ x.record = e.record ∧ x.results.tally = some z ∧ z.onTargetMs = y.onTargetMs ∧
      z.largestLag = y.largestLag := by
  rcases h with ⟨v, rfl⟩ | rfl
  · exact ⟨e, y, he, rfl, hy, rfl, rfl⟩
  · refine ⟨_, { y with holdUsed := count32 y.holdUsed 1 }, countHold_active he, rfl, ?_, rfl, rfl⟩
    show e.results.tally.map _ = _
    rw [hy]
    rfl

end Sys2Proof.Machine

/-! PROOFS. The alignment at a demand event and the ON_TARGET evaluation put together (R31, R32, R87, R141 to R147). -/

namespace Sys2Proof.Machine

variable {s t u : State} {levels : Inputs Bool} {e : Entry} {p : Axes Int} {w : Int}

/-! ### A calm event that ends nothing -/

section
variable {y : Tally} {n : Nat} (hc : s.Concludes u t) (hfixed : s.onFixed e p w) (hy : e.results.tally = some y)
  (hstate : (s.engine = .tracking n ∧ n + 1 < e.record.dwell) ∨
    (s.engine = .holding n ∧ s.inputs.instHold.level = true ∧ y.holdUsed + 1 < e.record.maxHold) ∨
    (s.engine = .settling n ∧ (n + 1 : Nat) < s.inForce.settleTime))
include hc hfixed hy hstate

omit hfixed hy in
theorem follows_of_countsOn : u.engine.followsTarget = true := by
  rcases hstate with ⟨he, _⟩ | ⟨he, _⟩ | ⟨he, _⟩ <;> rw [hc.engine, he] <;> rfl

theorem decided_countsOn : u.evaluated.CountsOn u.decided := by
  have hu := hc.onFixed hfixed
  have hfollows := follows_of_countsOn hc hstate
  obtain ⟨_, _, _, hbn, _⟩ := onFixed_followed hu hfollows
  rcases hstate with ⟨he, hdwell⟩ | ⟨he, hhold, hmax⟩ | ⟨he, hto⟩
  · rw [decided_of_tracking hu (hc.engine.trans he), if_neg (Nat.not_le.2 hdwell)]
    exact .inl ⟨_, rfl⟩
  · obtain ⟨x, hx, hrec, htally⟩ := evaluated_record hu.1 hbn
    rw [hy] at htally
    have hspent := (holdSpent_iff hx htally).not.2 (by rw [hrec, eventTally_holdUsed]; omega)
    rw [decided_of_holding hu (hc.engine.trans he), hc.inputs, if_pos hhold, if_neg hspent]
    exact .inr rfl
  · rw [decided_of_settling hu (hc.engine.trans he), hc.inForce, if_neg (Int.not_le.2 hto)]
    exact .inl ⟨_, rfl⟩

/-- What the event leaves is what the ON_TARGET evaluation leaves (R145, R147). -/
theorem countsOn_leaves :
    t.onTarget = u.evaluated.onTarget ∧ t.axes = u.evaluated.axes ∧ t.guide = u.evaluated.guide ∧
      t.enclosure = u.evaluated.enclosure ∧ t.notices = u.evaluated.notices := by
  obtain ⟨hon, haxes, hguide, henc, _, hnotices⟩ := (decided_countsOn hc hfixed hy hstate).leaves
  obtain ⟨_, _, _, _, _, hsame⟩ := hc.same
  rw [hsame]
  exact ⟨hon, haxes, hguide, henc, hnotices⟩

/-- ON_TARGET after the event (R145). -/
theorem onTarget_at_event :
    t.onTarget = true ↔
      s.engine.isTracking = true ∧ (∀ ax, magnitude (t.axes.get ax).lag ≤ s.inForce.lagTol) ∧
        (s.inForce.followEnc = 0 ∨ t.enclosure.alignment = .aligned) ∧
        (e.record.guideRequired = true → ∃ m, t.guide.state = .guiding m) := by
  have hu := hc.onFixed hfixed
  obtain ⟨hr, _, hev, hbn, _⟩ := onFixed_followed hu (follows_of_countsOn hc hstate)
  obtain ⟨x, hx, hrec⟩ := judgedNow_active hu.1 hbn
  obtain ⟨hengine, hguide, henc, hforce⟩ := evaluated_of_judgedNow u
  obtain ⟨hon, haxes, htguide, htenc, _⟩ := countsOn_leaves hc hfixed hy hstate
  rw [hon, evaluated_onTarget, hr, onTargetNow_iff hx, haxes, (judgedNow_axes u).2, htguide, hguide, htenc, henc, hforce,
    ← hengine, hev, hrec, hc.engine, hc.inForce]

/-- E and the lag after the event (R87). -/
theorem emitted_at_event (ax : Axis) (hm : 0 ≤ s.inForce.stepMax.get ax) :
    (t.axes.get ax).emitted = (s.axes.get ax).emitted + max (-s.inForce.stepMax.get ax)
        (min (s.inForce.stepMax.get ax) (roundCounts ((fixedPositions p w).get ax) - (s.axes.get ax).emitted)) ∧
      (t.axes.get ax).lag = roundCounts ((fixedPositions p w).get ax) - (t.axes.get ax).emitted := by
  have hu := hc.onFixed hfixed
  have hfollows := follows_of_countsOn hc hstate
  have hne : u.engine ≠ .stopped ∧ u.engine ≠ .parked := by
    constructor <;> intro h <;> rw [h] at hfollows <;> cases hfollows
  obtain ⟨_, _, _, _, hdemand⟩ := onFixed_followed hu hfollows
  obtain ⟨_, haxes, _⟩ := countsOn_leaves hc hfixed hy hstate
  have hcomputed : u.computeEvent.axes = t.axes :=
    (show u.computeEvent.axes = u.decided.axes from rfl).trans
      ((decided_countsOn hc hfixed hy hstate).leaves.2.1.trans haxes.symm)
  obtain ⟨_, hlag, _, hmoves, _⟩ := computeEvent_drives (s := u) (hc.inForce ▸ hfixed.2.2.2.2.2.2.1) hne.1 ax
  rw [hcomputed, if_neg hne.2, hc.axes, hc.inForce] at hmoves
  rw [hcomputed] at hlag
  have hd : (t.axes.get ax).demand = roundCounts ((fixedPositions p w).get ax) := by rw [haxes]; exact (hdemand ax).1
  rw [hd, clampAbs_eq hm] at hmoves
  rw [hd] at hlag
  exact ⟨by omega, hlag⟩

/-- What the entry counts at the event (R31, R32). -/
theorem counted_at_event : ∃ x z, t.activeEntry = some x ∧ x.record = e.record ∧ x.results.tally = some z ∧
    z.onTargetMs = (if t.onTarget then min 4294967295 (y.onTargetMs + 1) else y.onTargetMs) ∧
    ∀ ax, z.largestLag.get ax = max (y.largestLag.get ax) (min 4294967295 (t.axes.get ax).lag.natAbs) := by
  have hu := hc.onFixed hfixed
  obtain ⟨_, _, _, hbn, _⟩ := onFixed_followed hu (follows_of_countsOn hc hstate)
  obtain ⟨x, hx, hrec, htally⟩ := evaluated_record hu.1 hbn
  rw [hy] at htally
  obtain ⟨x', z, hx', hrec', hz, hms, hlag⟩ := (decided_countsOn hc hfixed hy hstate).activeEntry hx htally
  obtain ⟨hon, haxes, _⟩ := countsOn_leaves hc hfixed hy hstate
  have hbox : u.guide.mailbox = none := hu.2.2.2.2.2.1
  have htake : u.eventTally y = onTargetTally u.evaluated.onTarget (lagTally u.evaluated.axes y) := by
    unfold State.eventTally Guide.takeTally
    rw [hbox]
    split <;> rfl
  rw [htake, ← hon, ← haxes] at hms hlag
  obtain ⟨_, _, _, _, _, hsame⟩ := hc.same
  refine ⟨x', z, ?_, hrec'.trans hrec, hz, ?_, fun ax => ?_⟩
  · rw [hsame]
    exact hx'
  · rw [hms]
    unfold onTargetTally
    cases t.onTarget <;> rfl
  · rw [hlag]
    unfold onTargetTally
    cases t.onTarget <;> cases ax <;> rfl

/-- What a change of ON_TARGET raises and gives at the event (R147). -/
theorem onTarget_reported :
    (t.onTarget = s.onTarget → s.Rests .onTargetRise t ∧ s.Rests .onTargetFall t) ∧
      (t.onTarget ≠ s.onTarget → t.Noticed .onTarget ∧
        s.Flips (if t.onTarget then .onTargetRise else .onTargetFall) t ∧
        s.Rests (if t.onTarget then .onTargetFall else .onTargetRise) t) := by
  obtain ⟨hon, _, _, _, hnotices⟩ := countsOn_leaves hc hfixed hy hstate
  obtain ⟨_, _, _, _, hlines, _⟩ := (decided_countsOn hc hfixed hy hstate).leaves
  obtain ⟨hstays, hchanges⟩ := evaluated_hears u
  rw [hc.onTarget, ← hon] at hstays hchanges
  have hsilent {src : Source} (h : u.Silent src u.evaluated) : u.Silent src u.decided :=
    fun id hs => (congrArg (Lines.get · id) hlines).trans (h id hs)
  have hrings {src : Source} (h : u.Rings src u.evaluated) : u.Rings src u.decided :=
    fun id hs hm => (congrArg (Lines.get · id) hlines).trans (h id hs hm)
  refine ⟨fun h => ?_, fun h => ?_⟩
  · obtain ⟨h1, h2⟩ := hstays h.symm
    exact ⟨hc.rests nofun (hsilent h1), hc.rests nofun (hsilent h2)⟩
  · obtain ⟨h1, h2, h3⟩ := hchanges (Ne.symm h)
    refine ⟨fun l => ?_, hc.flips (by cases t.onTarget <;> exact nofun) (hrings h2),
      hc.rests (by cases t.onTarget <;> exact nofun) (hsilent h3)⟩
    rw [hnotices]
    exact h1 l

end

/-! ### O39 -/

/-- A line of one of the two sources of ON_TARGET flips exactly at its own edge (R147). -/
theorem edge_lines
    (hstays : t.onTarget = s.onTarget → s.Rests .onTargetRise t ∧ s.Rests .onTargetFall t)
    (hchanges : t.onTarget ≠ s.onTarget → s.Flips (if t.onTarget then .onTargetRise else .onTargetFall) t ∧
      s.Rests (if t.onTarget then .onTargetFall else .onTargetRise) t)
    (id : LineId) (hm : (s.lines.get id).mode = .toggle) (ht : (s.lines.get id).timer = none) :
    let flips :=
      (s.lines.get id).source = .onTargetRise ∧ s.onTarget = false ∧ t.onTarget = true ∨
        (s.lines.get id).source = .onTargetFall ∧ s.onTarget = true ∧ t.onTarget = false
    (flips → (t.lines.get id).output = !(s.lines.get id).output) ∧
      ((s.lines.get id).source = .onTargetRise ∨ (s.lines.get id).source = .onTargetFall →
        ¬ flips → (t.lines.get id).output = (s.lines.get id).output) := by
  refine ⟨?_, fun hsrc hno => ?_⟩
  · rintro (⟨hsrc, hs, ht'⟩ | ⟨hsrc, hs, ht'⟩)
    · obtain ⟨hflips, _⟩ := hchanges (by rw [hs, ht']; exact nofun)
      rw [ht'] at hflips
      exact hflips id hsrc hm ht
    · obtain ⟨hflips, _⟩ := hchanges (by rw [hs, ht']; exact nofun)
      rw [ht'] at hflips
      exact hflips id hsrc hm ht
  · by_cases hsame : t.onTarget = s.onTarget
    · obtain ⟨h1, h2⟩ := hstays hsame
      rcases hsrc with h | h
      · exact h1 id h hm ht
      · exact h2 id h hm ht
    · obtain ⟨_, hrests⟩ := hchanges hsame
      obtain ⟨h1, h2⟩ := not_or.1 hno
      cases htt : t.onTarget with
      | true =>
        have hs : s.onTarget = false := by rw [htt] at hsame; cases hs : s.onTarget <;> simp_all
        rw [htt] at hrests
        rcases hsrc with h | h
        · exact absurd ⟨h, hs, htt⟩ h1
        · exact hrests id h hm ht
      | false =>
        have hs : s.onTarget = true := by rw [htt] at hsame; cases hs : s.onTarget <;> simp_all
        rw [htt] at hrests
        rcases hsrc with h | h
        · exact hrests id h hm ht
        · exact absurd ⟨h, hs, htt⟩ h2

/-- The report counted, and the alignment it gives, at any demand event (R141, R142). -/
theorem judgement_at_event {r : EncReport} (h : s.counting) (hr : s.enclosure.report = some r) (order : List Turn) :
    let t := s.demandEvent levels order
    t.enclosure.report = some ⟨r.slit, r.flag, min 600001 (r.age + 1)⟩ ∧
      t.enclosure.alignment = judge (s.latest .encTimeout) (s.latest .encTol) ⟨r.slit, r.flag, min 600001 (r.age + 1)⟩
        t.axes.az.demand ∧
      (t.enclosure.alignment = .unknown → s.enclosure.alignment ≠ .unknown → .encReport ∈ t.expiries) := by
  obtain ⟨v, h1, h2, h3, h4, h5, h6, h7, h8⟩ := demandEvent_judges (levels := levels) h order
  obtain ⟨henc, hexp⟩ := judgeAlignment_some (h3.trans hr)
  rw [henc] at h1 h2
  refine ⟨h1, ?_, fun hun hne => h8 _ (hexp (h2.symm.trans hun) (h4 ▸ hne))⟩
  rw [h2, ← h5, ← h6, ← h7]
  rfl

/-- Settles O39: the judgement at any demand event, by its engine's turn; ON_TARGET at a calm one that ends nothing. -/
theorem reportAgeExpires : Obligations.ReportAgeExpires := by
  unfold Obligations.ReportAgeExpires
  refine ⟨fun levels order s h hnone => ?_, fun levels order s r h hr => ⟨?_, fun hage hne => ?_, ?_⟩, ?_⟩
  · obtain ⟨v, h1, h2, h3, _⟩ := demandEvent_judges (levels := levels) h order
    rw [judgeAlignment_none (h3.trans hnone)] at h1 h2
    exact ⟨_, exec_demandEvent .., h1.trans (h3.trans hnone), h2⟩
  · obtain ⟨h1, h2, _⟩ := judgement_at_event (levels := levels) h hr order
    refine ⟨_, exec_demandEvent .., h1, fun hage => ?_, fun hage hnear => ?_, fun hage hnear => ?_⟩
    · exact h2.trans (judge_expired hage)
    · exact h2.trans ((judge_fresh hage).trans (if_pos hnear))
    · exact h2.trans ((judge_fresh hage).trans (if_neg hnear))
  · obtain ⟨h1, h2, h3⟩ := judgement_at_event (levels := levels) h hr order
    have hun := h2.trans (judge_expired hage)
    exact ⟨_, demandEventOf_next (h3 hun hne), exec_demandEvent .., hun, h1⟩
  · intro timeout tol slit a demand hslit _ ha hto
    have hage : ((⟨slit.toNat, r.flag, a.toNat⟩ : EncReport).age : Int) ≤ timeout := by
      show (a.toNat : Int) ≤ timeout
      rw [Int.toNat_of_nonneg ha]
      exact hto
    dsimp only
    rw [judge_fresh hage]
    dsimp only
    rw [Int.toNat_of_nonneg hslit]
    exact ⟨fun h => if_pos h, fun h => if_neg h⟩
  · intro levels order s e p w y n hcalm hfixed hy
    have hlevel : s.inputs.instHold.level = showsLevel levels .instHold := hcalm.2.1 .instHold
    dsimp only
    rw [← hlevel]
    intro hstate
    have hne : s.engine ≠ .unset ∧ s.engine ≠ .stopped := by
      rcases hstate with ⟨he, _⟩ | ⟨he, _⟩ | ⟨he, _⟩ <;> rw [he] <;> exact ⟨nofun, nofun⟩
    obtain ⟨u, hc⟩ := calm_computes hcalm hne.1 hne.2 order
    obtain ⟨hstays, hchanges⟩ := onTarget_reported hc hfixed hy hstate
    refine ⟨_, exec_demandEvent .., ?_, emitted_at_event hc hfixed hy hstate, counted_at_event hc hfixed hy hstate,
      fun hch => noticed_bit rfl (hchanges hch).1, edge_lines hstays fun h => (hchanges h).2⟩
    rw [onTarget_at_event hc hfixed hy hstate]
    refine and_congr_left fun _ => ?_
    rcases hstate with ⟨he, h⟩ | ⟨he, h⟩ | ⟨he, h⟩
    · rw [he]
      exact ⟨fun _ => .inl ⟨rfl, h⟩, fun _ => rfl⟩
    · rw [he]
      exact ⟨fun _ => .inr ⟨rfl, h⟩, fun _ => rfl⟩
    · rw [he]
      refine ⟨nofun, ?_⟩
      rintro (⟨h, _⟩ | ⟨h, _⟩) <;> cases h

end Sys2Proof.Machine

/-! PROOFS. The covering segment of a chain, and what is passed or stale (R43 to R48). -/

namespace Sys2Proof.Machine

variable {t : Nat} {g : Segment} {chain before after rest : List Segment}

theorem begun_iff : begun t g = true ↔ segStart g ≤ t := decide_eq_true_iff

theorem begun_false_iff : begun t g = false ↔ t < segStart g := by
  unfold begun
  rw [decide_eq_false_iff_not, Nat.not_le]

theorem any_begun_false_iff : after.any (begun t) = false ↔ ∀ h ∈ after, t < segStart h := by
  rw [List.any_eq_false]
  exact forall₂_congr fun h _ => by rw [Bool.not_eq_true, begun_false_iff]

/-- The last begun segment of a chain, with what stands before and after it (R44). -/
theorem last_begun_iff :
    (chain.filter (begun t)).getLast? = some g ↔
      ∃ before after, chain = before ++ g :: after ∧ segStart g ≤ t ∧ ∀ h ∈ after, t < segStart h := by
  rw [List.getLast?_eq_head?_reverse, ← List.filter_reverse, List.head?_filter, List.find?_eq_some_iff_append, begun_iff]
  constructor
  · rintro ⟨hg, as, bs, heq, has⟩
    refine ⟨bs.reverse, as.reverse, ?_, hg, fun h hh => ?_⟩
    · rw [← List.reverse_reverse chain, heq]
      simp
    · have := has h (List.mem_reverse.1 hh)
      rw [Bool.not_eq_true'] at this
      exact begun_false_iff.1 this
  · rintro ⟨before, after, rfl, hg, hafter⟩
    refine ⟨hg, after.reverse, before.reverse, by simp, fun h hh => ?_⟩
    rw [Bool.not_eq_true']
    exact begun_false_iff.2 (hafter h (List.mem_reverse.1 hh))

/-- The covering segment (R44). -/
theorem covering_iff :
    covering t chain = some g ↔
      ∃ before after, chain = before ++ g :: after ∧ segStart g ≤ t ∧ t < segEnd g ∧ ∀ h ∈ after, t < segStart h := by
  have hsplit : covering t chain = some g ↔ (chain.filter (begun t)).getLast? = some g ∧ t < segEnd g := by
    unfold covering
    cases (chain.filter (begun t)).getLast? with
    | none => exact ⟨nofun, fun h => nomatch h.1⟩
    | some x =>
      dsimp only
      split
      case isTrue hx => exact ⟨fun h => ⟨h, Option.some.inj h ▸ hx⟩, And.left⟩
      case isFalse hx => exact ⟨nofun, fun h => absurd (Option.some.inj h.1 ▸ h.2) hx⟩
  rw [hsplit, last_begun_iff]
  constructor
  · rintro ⟨⟨before, after, heq, hs, ha⟩, he⟩
    exact ⟨before, after, heq, hs, he, ha⟩
  · rintro ⟨before, after, heq, hs, he, ha⟩
    exact ⟨⟨before, after, heq, hs, ha⟩, he⟩

/-- What a release of the passed segments leaves: the last begun one and those after it (R47). -/
theorem dropPassed_of_begun (hg : segStart g ≤ t) (hafter : ∀ h ∈ after, t < segStart h) :
    dropPassed t (before ++ g :: after) = g :: after := by
  induction before with
  | nil =>
    rw [List.nil_append, dropPassed, any_begun_false_iff.2 hafter]
    rfl
  | cons x rest ih =>
    have hany : (rest ++ g :: after).any (begun t) = true :=
      List.any_eq_true.2 ⟨g, List.mem_append_right _ List.mem_cons_self, begun_iff.2 hg⟩
    rw [List.cons_append, dropPassed, hany, if_pos rfl, ih]

/-- A covered chain keeps its covering segment at its head (R47). -/
theorem dropPassed_of_covering (h : covering t chain = some g) : (dropPassed t chain).head? = some g := by
  obtain ⟨before, after, rfl, hs, _, ha⟩ := covering_iff.1 h
  rw [dropPassed_of_begun hs ha]
  rfl

/-- Of the stale segments too the last begun one is left where it covers, with those after it (R48). -/
theorem dropStale_of_covering (hg : segStart g ≤ t) (hend : t < segEnd g)
    (hafter : ∀ h ∈ after, t < segStart h ∧ t < segEnd h) : dropStale t (before ++ g :: after) = g :: after := by
  induction before with
  | nil =>
    have hany := any_begun_false_iff.2 fun h hh => (hafter h hh).1
    rw [List.nil_append, dropStale, hany, if_neg (by rintro (h | h) <;> [omega; cases h]),
      dropStale_of_none fun x hx => ⟨(hafter x hx).2, begun_false_iff.2 (hafter x hx).1⟩]
  | cons x rest ih =>
    have hany : (rest ++ g :: after).any (begun t) = true :=
      List.any_eq_true.2 ⟨g, List.mem_append_right _ List.mem_cons_self, begun_iff.2 hg⟩
    rw [List.cons_append, dropStale, hany, if_pos (.inr rfl), ih]

theorem dropStale_of_ended (h : ∀ x ∈ chain, segEnd x ≤ t) : dropStale t chain = [] := by
  induction chain with
  | nil => rfl
  | cons g rest ih =>
    rw [dropStale, if_pos (.inl (h g List.mem_cons_self)), ih fun x hx => h x (List.mem_cons_of_mem _ hx)]

/-! ### Lawful chains -/

/-- The starts of a lawful chain rise (R43). -/
theorem segStart_lt_of_mem (h : chainLawful (g :: rest)) : ∀ x ∈ rest, segStart g < segStart x := by
  induction rest generalizing g with
  | nil => simp
  | cons a rest ih =>
    obtain ⟨_, ⟨hlt, _, _⟩, htail⟩ := (chainLawful_cons_cons g a rest).1 h
    intro x hx
    rcases List.mem_cons.1 hx with rfl | hx
    · exact hlt
    · exact hlt.trans (ih htail x hx)

theorem chainLawful_suffix (h : chainLawful (before ++ rest)) : chainLawful rest := by
  induction before with
  | nil => exact h
  | cons x before ih => exact ih (chainLawful_tail h)

theorem segStart_head_le {first : Segment} (h : chainLawful (before ++ g :: after))
    (hfirst : (before ++ g :: after).head? = some first) : segStart first ≤ segStart g := by
  cases before with
  | nil => cases hfirst; exact le_rfl
  | cons x before =>
    cases hfirst
    exact (segStart_lt_of_mem h g (List.mem_append_right _ List.mem_cons_self)).le

theorem segEnd_le_last {last : Segment} (h : chainLawful chain) (hlast : chain.getLast? = some last) :
    ∀ x ∈ chain, segEnd x ≤ segEnd last := by
  intro x hx
  obtain ⟨before, after, rfl⟩ := List.append_of_mem hx
  have hsuffix := chainLawful_suffix h
  rw [List.getLast?_append_of_ne_nil _ (by simp)] at hlast
  have hmem := List.mem_of_getLast? hlast
  rcases List.mem_cons.1 hmem with rfl | hmem
  · exact le_rfl
  · exact segEnd_le_of_mem hsuffix last hmem

/-- In a lawful chain the last begun segment covers until the chain's end (R43, R44). -/
theorem segEnd_of_last_begun {last : Segment} (h : chainLawful (before ++ g :: after))
    (hlast : (before ++ g :: after).getLast? = some last) (hafter : ∀ x ∈ after, t < segStart x) (hend : t < segEnd last) :
    t < segEnd g := by
  have hsuffix := chainLawful_suffix h
  cases after with
  | nil =>
    rw [List.getLast?_append_of_ne_nil _ (by simp)] at hlast
    cases hlast
    exact hend
  | cons a after =>
    obtain ⟨_, ⟨_, hle, _⟩, _⟩ := (chainLawful_cons_cons g a after).1 hsuffix
    exact (hafter a List.mem_cons_self).trans_le hle

theorem exists_last_begun {first : Segment} (hfirst : chain.head? = some first) (hle : segStart first ≤ t) :
    ∃ g before after, chain = before ++ g :: after ∧ segStart g ≤ t ∧ ∀ h ∈ after, t < segStart h := by
  have hmem : first ∈ chain.filter (begun t) := List.mem_filter.2 ⟨List.mem_of_head? hfirst, begun_iff.2 hle⟩
  cases hl : (chain.filter (begun t)).getLast? with
  | none => rw [List.getLast?_eq_none_iff.1 hl] at hmem; cases hmem
  | some g => exact ⟨g, last_begun_iff.1 hl⟩

/-- In a lawful chain what follows the covering segment has not begun and not ended. -/
theorem after_fresh (h : chainLawful (before ++ g :: after)) (hend : t < segEnd g) (hafter : ∀ x ∈ after, t < segStart x) :
    ∀ x ∈ after, t < segStart x ∧ t < segEnd x :=
  fun x hx => ⟨hafter x hx, hend.trans_le (segEnd_le_of_mem (chainLawful_suffix h) x hx)⟩

/-- The covering segment, what is passed and what is stale, by the law of the chain (R44, R45, R47, R48). -/
theorem covering_of_lawful {first last : Segment} (h : chainLawful chain) (hfirst : chain.head? = some first)
    (hlast : chain.getLast? = some last) :
    (covering t chain ≠ none ↔ segStart first ≤ t ∧ t < segEnd last) ∧
      (segEnd last ≤ t → dropStale t chain = []) ∧ (t < segStart first → dropStale t chain = chain) ∧
      (segStart first ≤ t → t < segEnd last → dropStale t chain = dropPassed t chain) := by
  refine ⟨⟨fun hne => ?_, fun ⟨hs, he⟩ => ?_⟩, fun he => ?_, fun hs => ?_, fun hs he => ?_⟩
  · obtain ⟨g, hg⟩ := Option.ne_none_iff_exists'.1 hne
    obtain ⟨before, after, rfl, hs, he, _⟩ := covering_iff.1 hg
    exact ⟨(segStart_head_le h hfirst).trans hs,
      he.trans_le (segEnd_le_last h hlast g (List.mem_append_right _ List.mem_cons_self))⟩
  · obtain ⟨g, before, after, rfl, hg, ha⟩ := exists_last_begun hfirst hs
    rw [covering_iff.2 ⟨before, after, rfl, hg, segEnd_of_last_begun h hlast ha he, ha⟩]
    exact nofun
  · exact dropStale_of_ended fun x hx => (segEnd_le_last h hlast x hx).trans he
  · cases chain with
    | nil => rfl
    | cons x rest =>
      cases hfirst
      have hbefore (y : Segment) (hy : y ∈ first :: rest) : t < segStart y := by
        rcases List.mem_cons.1 hy with rfl | hy
        · exact hs
        · exact hs.trans (segStart_lt_of_mem h y hy)
      refine dropStale_of_none fun y hy => ⟨?_, begun_false_iff.2 (hbefore y hy)⟩
      have hlt := hbefore y hy
      unfold segStart at hlt
      unfold segEnd
      omega
  · obtain ⟨g, before, after, rfl, hg, ha⟩ := exists_last_begun hfirst hs
    have hend := segEnd_of_last_begun h hlast ha he
    rw [dropPassed_of_begun hg ha, dropStale_of_covering hg hend (after_fresh h hend ha)]

end Sys2Proof.Machine

/-! PROOFS. A demand event of a TRACK target: the covering segment's position and rate, what has passed released, a chain
that has run out, and a position outside the limits (R46, R47, R73 to R78, R85, R92, R111). -/

namespace Sys2Proof.Machine

variable {s t u v : State} {levels : Inputs Bool} {e x : Entry} {w : Int} {g : Segment}

/-! ### The target of a chain -/

/-- The ACTIVE entry's chain less what has passed, which returns to the pool (R47). -/
def State.passed (e : Entry) (s : State) : State :=
  { s.onActive fun x => { x with chain := dropPassed s.time.mountTime x.chain } with
    free := s.free + (e.chain.length - (dropPassed s.time.mountTime e.chain).length) }

theorem aim_of_covered (hactive : s.activeEntry = some e) (hkind : e.record.kind = .track)
    (hwrap : e.results.wrapOffset = some w) (hg : covering s.time.mountTime e.chain = some g) :
    s.aim = some (s.passed e, segPositions g w (segIndex g s.time.mountTime), segRates g (segIndex g s.time.mountTime)) := by
  unfold State.aim
  rw [hactive]
  dsimp only
  rw [hkind, hwrap]
  dsimp only
  rw [hg]
  rfl

theorem aim_of_uncovered (hactive : s.activeEntry = some e) (hkind : e.record.kind = .track)
    (hg : covering s.time.mountTime e.chain = none) : s.aim = none := by
  unfold State.aim
  rw [hactive]
  dsimp only
  rw [hkind]
  dsimp only
  rw [hg]

theorem passed_active (hactive : s.activeEntry = some e) :
    (s.passed e).activeEntry = some { e with chain := dropPassed s.time.mountTime e.chain } :=
  onActive_activeEntry (s := s) hactive (List.find?_some hactive : e.isActive = true)

theorem passed_same (e : Entry) (s : State) :
    (s.passed e).axes = s.axes ∧ (s.passed e).inForce = s.inForce ∧ (s.passed e).engine = s.engine ∧
      (s.passed e).free = s.free + (e.chain.length - (dropPassed s.time.mountTime e.chain).length) := ⟨rfl, rfl, rfl, rfl⟩

/-- The entry before the decisions is the base stage's, with what it has counted. -/
theorem evaluated_active_base (h : s.baseStage.state.activeEntry = some x) :
    s.evaluated.activeEntry = some (Entry.onTally s.eventTally x) := (evaluated_tallied s).activeEntry h

theorem evaluated_free (s : State) : s.evaluated.free = s.baseStage.state.free := by
  obtain ⟨w, x, y, z, he⟩ := evaluateOnTarget_frame s.baseStage.runout (s.blended.limitStage.stepStage).judgeAlignment
  obtain ⟨x', y', hj⟩ := judgeAlignment_frame s.blended.limitStage.stepStage
  obtain ⟨a, b, c, d, f, h⟩ := guided_frame s
  rw [evaluated_eq, he, hj]
  show s.guided.free = _
  rw [h]
  rfl

/-! ### The base stage's three outcomes -/

theorem baseStage_of_uncovered (ht : s.engine.isTarget = true) (ha : s.aim = none) :
    s.baseStage = ⟨s.foldAxes, true, false, false⟩ := by
  have htarget : s.baseTarget = ⟨s.foldAxes, true, false, false⟩ := by
    unfold State.baseTarget
    rw [ha]
  cases he : s.engine with
  | slewing n az =>
    rw [baseStage_of_slewing he]
    unfold State.baseSlewing
    rw [ha]
  | settling n => rw [baseStage_of_follows (by rw [he]; rfl), htarget]
  | tracking n => rw [baseStage_of_follows (by rw [he]; rfl), htarget]
  | holding n => rw [baseStage_of_follows (by rw [he]; rfl), htarget]
  | _ => rw [he] at ht; cases ht

/-- A slew toward a position outside the limits (R111). -/
theorem baseStage_offLimits {p r : Axes Int} {n : Nat} {az : Int} (ha : s.aim = some (t, p, r)) (he : s.engine = .slewing n az)
    (hout : ¬ ∀ ax, t.within ax (roundCounts (p.get ax)) = true) :
    s.baseStage =
      ⟨({ t with engine := .slewing (n + 1) (roundCounts p.az) } : State).withMotions (t.followTo p r), false, true, false⟩ := by
  have hoff : (Axes.of fun ax =>
      !({ t with engine := .slewing (n + 1) (roundCounts p.az) } : State).within ax (roundCounts (p.get ax))).any id = true := by
    by_contra hno
    have hno : (!t.within .az (roundCounts (p.get .az)) || !t.within .el (roundCounts (p.get .el)) ||
        !t.within .rot (roundCounts (p.get .rot))) = false := by rwa [Bool.not_eq_true] at hno
    simp only [Bool.or_eq_false_iff, Bool.not_eq_false'] at hno
    obtain ⟨⟨h1, h2⟩, h3⟩ := hno
    exact hout fun ax => by cases ax <;> assumption
  rw [baseStage_of_slewing he]
  unfold State.baseSlewing
  rw [ha]
  dsimp only
  rw [hoff]
  rfl

/-- The limit stage acts where some sum lies outside the limits (R84). -/
theorem clampedNow_eq_true (h : ¬ ∀ ax, s.within ax (s.blended.axes.get ax).sum = true) : s.clampedNow = true := by
  have hforce : s.blended.inForce = s.inForce := by unfold State.blended; simp
  have hwithin (ax : Axis) (x : Int) : s.blended.within ax x = s.within ax x := by
    unfold State.within
    rw [hforce]
  by_contra hno
  have hno : (!s.blended.within .az (s.blended.axes.get .az).sum || !s.blended.within .el (s.blended.axes.get .el).sum ||
      !s.blended.within .rot (s.blended.axes.get .rot).sum) = false := by
    rwa [Bool.not_eq_true] at hno
  simp only [Bool.or_eq_false_iff, Bool.not_eq_false', hwithin] at hno
  obtain ⟨⟨h1, h2⟩, h3⟩ := hno
  exact h fun ax => by cases ax <;> assumption

/-! ### The ends -/

/-- What HOLDING counts before it decides, where it is HOLDING (R32, log entry 15). -/
def State.beforeEnd (s : State) : State :=
  if s.engine.state = .holding ∧ s.inputs.instHold.level = true then s.countHold else s

theorem beforeEnd_same (s : State) :
    s.beforeEnd.axes = s.axes ∧ s.beforeEnd.time = s.time ∧ s.beforeEnd.lines = s.lines ∧ s.beforeEnd.free = s.free ∧
      s.beforeEnd.guide = s.guide ∧ s.beforeEnd.expiries = s.expiries := by
  unfold State.beforeEnd
  split <;> exact ⟨rfl, rfl, rfl, rfl, rfl, rfl⟩

theorem beforeEnd_active (hx : s.activeEntry = some x) : ∃ f, s.beforeEnd.activeEntry = some (Entry.onTally f x) := by
  unfold State.beforeEnd
  split
  · exact ⟨_, countHold_active hx⟩
  · exact ⟨id, by rw [onTally_id]; exact hx⟩

theorem beforeEnd_of_holding {n : Nat} (he : s.engine = .holding n) :
    s.beforeEnd = if s.inputs.instHold.level then s.countHold else s := by
  have hstate : s.engine.state = .holding := by rw [he]; rfl
  unfold State.beforeEnd
  split
  case isTrue h => rw [if_pos h.2]
  case isFalse h => rw [if_neg fun hlevel => h ⟨hstate, hlevel⟩]

theorem beforeEnd_of_not_holding (he : s.engine.state ≠ .holding) : s.beforeEnd = s := if_neg fun h => he h.1

/-- A chain that has run out ends the entry (R92). -/
theorem decided_of_runout (ht : s.engine.isTarget = true) (ha : s.aim = none) :
    s.decided = s.evaluated.beforeEnd.endAndSelect .runout := by
  have hbase := baseStage_of_uncovered ht ha
  have hr : s.baseStage.runout = true := by rw [hbase]
  have hengine : s.evaluated.engine = s.engine := by
    rw [evaluated_engine, hbase]
    rfl
  unfold State.decided
  cases he : s.engine with
  | slewing n az =>
    rw [takeDecision_of_slewing (hengine.trans he), beforeEnd_of_not_holding (by rw [hengine, he]; exact nofun)]
    unfold State.decideSlewing
    rw [if_pos hr]
  | settling n =>
    rw [takeDecision_of_settling (hengine.trans he), beforeEnd_of_not_holding (by rw [hengine, he]; exact nofun)]
    unfold State.decideSettling
    rw [if_pos hr]
  | tracking n =>
    rw [takeDecision_of_tracking (hengine.trans he), beforeEnd_of_not_holding (by rw [hengine, he]; exact nofun)]
    unfold State.decideTracking
    rw [if_pos hr]
  | holding n =>
    rw [takeDecision_of_holding (hengine.trans he), beforeEnd_of_holding (hengine.trans he)]
    unfold State.decideHolding
    dsimp only
    rw [if_pos hr]
  | _ => rw [he] at ht; cases ht

/-- A sum outside the limits ends the entry past capture (R85). -/
theorem decided_of_clamped (hf : s.engine.followsTarget = true) (hr : s.baseStage.runout = false) (hc : s.clampedNow = true) :
    s.decided = s.evaluated.beforeEnd.endAndSelect .limit := by
  have hengine : s.evaluated.engine = s.engine := by
    rw [evaluated_engine]
    rcases baseStage_engine s with h | ⟨⟨n, az, h⟩, _⟩
    · exact h
    · rw [h] at hf; cases hf
  unfold State.decided
  cases he : s.engine with
  | settling n =>
    rw [takeDecision_of_settling (hengine.trans he), beforeEnd_of_not_holding (by rw [hengine, he]; exact nofun), hr, hc]
    rfl
  | tracking n =>
    rw [takeDecision_of_tracking (hengine.trans he), beforeEnd_of_not_holding (by rw [hengine, he]; exact nofun), hr, hc]
    rfl
  | holding n =>
    rw [takeDecision_of_holding (hengine.trans he), beforeEnd_of_holding (hengine.trans he), hr, hc]
    rfl
  | _ => rw [he] at hf; cases hf

/-- A slew toward a position outside the limits ends the entry (R111). -/
theorem decided_of_offLimits {p r : Axes Int} {n : Nat} {az : Int} (ha : s.aim = some (t, p, r)) (he : s.engine = .slewing n az)
    (hout : ¬ ∀ ax, t.within ax (roundCounts (p.get ax)) = true) : s.decided = s.evaluated.endAndSelect .limit := by
  have hbase := baseStage_offLimits ha he hout
  have hengine : s.evaluated.engine = .slewing (n + 1) (roundCounts p.az) := by
    rw [evaluated_engine, hbase]
    rfl
  unfold State.decided
  rw [takeDecision_of_slewing hengine, hbase]
  rfl

/-- The axes that an end at a calm event leaves are those of the event, folded (R91). -/
theorem State.Concludes.endsAxes {o : EndOutcome} (hc : s.Concludes u t) (hd : u.decided = v.endAndSelect o)
    (hv : v.activeEntry = some x) : t.axes = v.axes.map AxisState.fold := by
  have hends := endAndSelect_endsAs o hv
  rw [← hd] at hends
  obtain ⟨_, _, _, _, _, hsame⟩ := hc.same
  rw [hsame]
  exact hends.axes

end Sys2Proof.Machine

/-! PROOFS. The statement of the covering segment, put together: chains, and a calm event of a TRACK target. -/

namespace Sys2Proof.Machine

variable {s t u : State} {levels : Inputs Bool} {e : Entry} {w : Int} {g : Segment}

theorem onTrack_uncorrected (h : s.onTrack e w) : s.Uncorrected := by
  obtain ⟨_, _, _, hcells, hoffset, hbox, hcstep, _, haxes⟩ := h
  exact ⟨hcells, hoffset, hbox, hcstep, fun ax => (haxes ax).1, fun ax => (haxes ax).2⟩

theorem State.Opening.onTrack (h : s.Opening u) (hf : s.onTrack e w) : u.onTrack e w := by
  obtain ⟨hactive, hkind, hwrap, hcells, hoffset, hbox, hcstep, hrange, haxes⟩ := hf
  refine ⟨h.activeEntry.trans hactive, hkind, hwrap, h.model ▸ hcells, ?_, ?_, h.inForce ▸ hcstep, h.inForce ▸ hrange,
    fun ax => ?_⟩
  · rw [h.guide, hoffset]
    exact congrArg₂ AzEl.mk (clampAbs_zero hrange) (clampAbs_zero hrange)
  · rw [h.guide, hbox]
    rfl
  · rw [h.axes]
    exact haxes ax

/-! ### The stages of a covered target -/

section
variable (htrack : s.onTrack e w) (hg : covering s.time.mountTime e.chain = some g)
include htrack hg

theorem track_aim : s.aim =
    some (s.passed e, segPositions g w (segIndex g s.time.mountTime), segRates g (segIndex g s.time.mountTime)) :=
  aim_of_covered htrack.1 htrack.2.1 htrack.2.2.1 hg

/-- The stages of a covered target that is followed (R46, R47, R73, R74). -/
theorem track_followed (hf : s.engine.followsTarget = true) :
    s.baseStage.runout = false ∧ s.evaluated.engine = s.engine ∧
      s.evaluated.activeEntry = some (Entry.onTally s.eventTally { e with chain := dropPassed s.time.mountTime e.chain }) ∧
      s.evaluated.free = s.free + (e.chain.length - (dropPassed s.time.mountTime e.chain).length) ∧
      (∀ ax, (s.blended.axes.get ax).sum = roundCounts ((segPositions g w (segIndex g s.time.mountTime)).get ax)) ∧
      ∀ ax, (s.blended.axes.get ax).applied = 0 := by
  have ha := track_aim htrack hg
  have hbase := baseStage_followed ha hf
  have hr : s.baseStage.runout = false := by rw [hbase]
  have happlied := uncorrected_applied (onTrack_uncorrected htrack) (isTarget_of_followsTarget hf) hr
  refine ⟨hr, ?_, evaluated_active_base ?_, ?_, fun ax => ?_, happlied⟩
  · rw [evaluated_engine, hbase]
    exact (passed_same e s).2.2.1
  · rw [hbase]
    exact passed_active htrack.1
  · rw [evaluated_free, hbase]
    rfl
  · rw [blended_sum, happlied, Int.add_zero, hbase]
    cases ax <;> rfl

/-- The stages of a slew toward a covered target inside the limits (R109, R111). -/
theorem track_slewing {n : Nat} {az : Int} (he : s.engine = .slewing n az)
    (hin : ∀ ax, s.within ax (roundCounts ((segPositions g w (segIndex g s.time.mountTime)).get ax)) = true) :
    let p := segPositions g w (segIndex g s.time.mountTime)
    let m := s.followTo p (segRates g (segIndex g s.time.mountTime))
    s.baseStage.runout = false ∧ s.baseStage.offLimits = false ∧
      s.baseStage.capture = s.captureTest p (segRates g (segIndex g s.time.mountTime)) m ∧
      s.evaluated.engine = .slewing (n + 1) (roundCounts p.az) ∧
      s.evaluated.activeEntry = some (Entry.onTally s.eventTally { e with chain := dropPassed s.time.mountTime e.chain }) ∧
      s.evaluated.free = s.free + (e.chain.length - (dropPassed s.time.mountTime e.chain).length) ∧
      (∀ ax, (s.evaluated.axes.get ax).base = (m.get ax).pos ∧ (s.evaluated.axes.get ax).vel = (m.get ax).vel) ∧
      (∀ ax, (s.blended.axes.get ax).sum = roundCounts (m.get ax).pos) ∧ ∀ ax, (s.blended.axes.get ax).applied = 0 := by
  have ha := track_aim htrack hg
  have hbase := baseStage_slewing ha he hin
  have hr : s.baseStage.runout = false := by rw [hbase]
  have happlied := uncorrected_applied (onTrack_uncorrected htrack) (by rw [he]; rfl) hr
  refine ⟨hr, by rw [hbase], by rw [hbase]; rfl, ?_, evaluated_active_base ?_, ?_, fun ax => ?_, fun ax => ?_, happlied⟩
  · rw [evaluated_engine, hbase]
    rfl
  · rw [hbase]
    exact passed_active htrack.1
  · rw [evaluated_free, hbase]
    rfl
  · obtain ⟨h1, h2⟩ := evaluated_motion s ax
    rw [h1, h2, hbase]
    cases ax <;> exact ⟨rfl, rfl⟩
  · rw [blended_sum, happlied, Int.add_zero, hbase]
    cases ax <;> rfl

end

theorem roundCounts_whole (d : Int) : roundCounts (d * 65536) = d := by
  rw [roundCounts_eq]
  omega

/-- Where the chain has run out the demand stands (R92). -/
theorem uncovered_axis (hcstep : 0 ≤ s.inForce.cstep) (ht : s.engine.isTarget = true) (ha : s.aim = none) {ax : Axis}
    (hin : s.within ax (s.axes.get ax).demand = true) :
    (s.evaluated.axes.get ax).demand = (s.axes.get ax).demand ∧ (s.evaluated.axes.get ax).vel = (s.axes.get ax).vel := by
  have hbase := baseStage_of_uncovered ht ha
  have hr : s.baseStage.runout = true := by rw [hbase]
  have hfold : s.baseStage.state.axes.get ax = (s.axes.get ax).fold := by
    rw [hbase]
    exact get_map _ _ _
  have hwanted : (s.guided.wantedOf s.baseStage.runout).get ax = 0 := by
    unfold State.wantedOf
    rw [hr, Bool.not_true, Bool.and_false]
    cases ax <;> rfl
  have happlied : (s.blended.axes.get ax).applied = 0 := by
    rw [blended_axis_eq, hwanted, hfold]
    exact blend_zero hcstep
  refine ⟨?_, ?_⟩
  · rw [evaluated_demand, blended_sum, happlied, hfold, Int.add_zero]
    show clamp _ _ (roundCounts ((s.axes.get ax).demand * 65536)) = _
    rw [roundCounts_whole, clamp_of_mem ((within_iff _ _ _).1 hin)]
  · rw [(evaluated_motion s ax).2, hfold]
    rfl

/-! ### O16 -/

section
variable (hc : s.Concludes u t) (htrack : s.onTrack e w)
include hc htrack

omit htrack in
/-- An end at a calm event of a target, after whatever HOLDING counted. -/
theorem track_ends {o : EndOutcome} {x : Entry} (hd : u.decided = u.evaluated.beforeEnd.endAndSelect o)
    (hx : u.evaluated.activeEntry = some x) (hrec : x.record = e.record) :
    (∃ x ∈ t.night.entries, x.record = e.record ∧ x.status = .ended o ∧ x.results.endedAt = some s.nextEventTime ∧
      x.chain = []) ∧ t.onTarget = false ∧ t.axes = u.evaluated.axes.map AxisState.fold := by
  obtain ⟨haxes, htime, hlines, _⟩ := beforeEnd_same u.evaluated
  obtain ⟨f, hv⟩ := beforeEnd_active hx
  have hsilent : u.Silent .targetEnd u.evaluated.beforeEnd := fun id hs =>
    (congrArg (Lines.get · id) hlines).trans (evaluated_silent (src := .targetEnd) nofun nofun nofun u id hs)
  obtain ⟨hon, _, _, hends⟩ := hc.endsAs hd hv hrec
    ((congrArg TimeBase.mountTime htime).trans (congrArg TimeBase.mountTime (evaluated_rest u).1)) hsilent
  refine ⟨hends, hon, ?_⟩
  rw [hc.endsAxes hd hv, haxes]

/-- A chain that has run out (R92). -/
theorem runout_at_event (ht : s.engine.isTarget = true) (hg : covering s.nextEventTime e.chain = none)
    (hin : ∀ ax, s.within ax (s.axes.get ax).demand = true) :
    (∃ x ∈ t.night.entries, x.record = e.record ∧ x.status = .ended .runout ∧ x.results.endedAt = some s.nextEventTime ∧
      x.chain = []) ∧ t.onTarget = false ∧
      ∀ ax, (t.axes.get ax).demand = (s.axes.get ax).demand ∧ (t.axes.get ax).base = (s.axes.get ax).demand * 65536 ∧
        (t.axes.get ax).vel = (s.axes.get ax).vel ∧ (t.axes.get ax).applied = 0 := by
  have hu := hc.onTrack htrack
  have htu : u.engine.isTarget = true := hc.engine ▸ ht
  have ha : u.aim = none := aim_of_uncovered hu.1 hu.2.1 (by rw [hc.mountTime]; exact hg)
  have hbase : u.baseStage.state.activeEntry = some e := by
    rw [baseStage_of_uncovered htu ha]
    exact hu.1
  obtain ⟨hends, hon, haxes⟩ := track_ends hc (decided_of_runout htu ha) (evaluated_active_base hbase) rfl
  refine ⟨hends, hon, fun ax => ?_⟩
  obtain ⟨hd, hv⟩ := uncovered_axis (ax := ax) (onTrack_uncorrected hu).cstep htu ha
    (by rw [hc.within, hc.axes]; exact hin ax)
  rw [hc.axes] at hd hv
  rw [haxes, get_map]
  exact ⟨hd, congrArg (· * 65536) hd, hv, rfl⟩

/-- A position outside the limits past capture (R85). -/
theorem limit_at_event (hf : s.engine.followsTarget = true) (hg : covering s.nextEventTime e.chain = some g)
    (hout : ¬ ∀ ax, s.within ax (roundCounts ((segPositions g w (segIndex g s.nextEventTime)).get ax)) = true) :
    (∃ x ∈ t.night.entries, x.record = e.record ∧ x.status = .ended .limit ∧ x.results.endedAt = some s.nextEventTime ∧
      x.chain = []) ∧
      ∀ ax,
        let d := clamp (s.inForce.lower.get ax) (s.inForce.upper.get ax)
          (roundCounts ((segPositions g w (segIndex g s.nextEventTime)).get ax))
        (t.axes.get ax).demand = d ∧ (t.axes.get ax).base = d * 65536 := by
  have hu := hc.onTrack htrack
  rw [← hc.mountTime] at hg hout ⊢
  have hfu : u.engine.followsTarget = true := hc.engine ▸ hf
  obtain ⟨hr, _, hactive, _, hsum, _⟩ := track_followed hu hg hfu
  have hclamped := clampedNow_eq_true (s := u) fun h => hout fun ax => by
    have := h ax
    rwa [hsum, hc.within] at this
  obtain ⟨hends, _, haxes⟩ := track_ends hc (decided_of_clamped hfu hr hclamped) hactive rfl
  refine ⟨by rw [hc.mountTime]; exact hends, fun ax => ?_⟩
  have hd := evaluated_demand u ax
  rw [hsum, hc.inForce] at hd
  rw [haxes, get_map]
  exact ⟨hd, congrArg (· * 65536) hd⟩

/-- A target that goes on being followed (R46, R47, R73, R74). -/
theorem followed_at_event {n : Nat}
    (he : s.engine = .settling n ∧ (n + 1 : Nat) < s.inForce.settleTime ∨ s.engine = .tracking n ∧ n + 1 < e.record.dwell)
    (hg : covering s.nextEventTime e.chain = some g)
    (hin : ∀ ax, s.within ax (roundCounts ((segPositions g w (segIndex g s.nextEventTime)).get ax)) = true) :
    (t.free = s.free + (e.chain.length - (dropPassed s.nextEventTime e.chain).length) ∧
        (∃ x, t.activeEntry = some x ∧ x.record = e.record ∧ x.chain = dropPassed s.nextEventTime e.chain ∧
          (dropPassed s.nextEventTime e.chain).head? = some g) ∧
        ∀ ax, (t.axes.get ax).demand = roundCounts (t.axes.get ax).base ∧ (t.axes.get ax).applied = 0) ∧
      (s.engine = .settling n → t.engine = .settling (n + 1)) ∧ (s.engine = .tracking n → t.engine = .tracking (n + 1)) ∧
      ∀ ax, (t.axes.get ax).base = (segPositions g w (segIndex g s.nextEventTime)).get ax ∧
        (t.axes.get ax).vel = (segRates g (segIndex g s.nextEventTime)).get ax := by
  have hu := hc.onTrack htrack
  have hhead := dropPassed_of_covering hg
  rw [← hc.mountTime] at hg hin hhead ⊢
  have hfu : u.engine.followsTarget = true := by
    rcases he with ⟨he, _⟩ | ⟨he, _⟩ <;> rw [hc.engine, he] <;> rfl
  obtain ⟨hr, hev, hactive, hfree, hsum, happlied⟩ := track_followed hu hg hfu
  have hmotion := followed_motion (track_aim hu hg) hfu
  have hwithin (ax : Axis) : u.within ax (u.blended.axes.get ax).sum = true := by
    rw [hsum, hc.within]
    exact hin ax
  have hclamped := clampedNow_eq_false hwithin
  have hd : ∃ y, u.decided = u.evaluated.enter y ∧ (s.engine = .settling n → y = .settling (n + 1)) ∧
      (s.engine = .tracking n → y = .tracking (n + 1)) := by
    unfold State.decided
    rcases he with ⟨he, hto⟩ | ⟨he, hdwell⟩
    · have heu := hev.trans (hc.engine.trans he)
      refine ⟨.settling (n + 1), ?_, fun _ => rfl, fun h => by rw [he] at h; cases h⟩
      rw [takeDecision_of_settling heu, hr, hclamped]
      unfold State.decideSettling
      rw [if_neg Bool.false_ne_true, if_neg Bool.false_ne_true, (evaluated_rest u).2.1, hc.inForce, if_neg (Int.not_le.2 hto)]
    · have heu := hev.trans (hc.engine.trans he)
      refine ⟨.tracking (n + 1), ?_, fun h => (by rw [he] at h; cases h), fun _ => rfl⟩
      rw [takeDecision_of_tracking heu, hr, hclamped]
      unfold State.decideTracking
      rw [if_neg Bool.false_ne_true, if_neg Bool.false_ne_true, hactive]
      exact if_neg (Nat.not_le.2 hdwell)
  obtain ⟨y, hd, hsettling, htracking⟩ := hd
  obtain ⟨_, _, _, _, _, hsame⟩ := hc.same
  rw [hsame, hd]
  refine ⟨⟨hfree.trans ?_, ⟨_, hactive, rfl, rfl, hhead⟩, fun ax => ?_⟩, hsettling, htracking, hmotion⟩
  · rw [hc.free]
  · show (u.evaluated.axes.get ax).demand = roundCounts (u.evaluated.axes.get ax).base ∧ (u.evaluated.axes.get ax).applied = 0
    rw [evaluated_demand, clamp_of_mem ((within_iff _ _ _).1 (hwithin ax)), hsum, (hmotion ax).1, (evaluated_offsets u ax).2]
    exact ⟨rfl, happlied ax⟩

/-- A slew toward a position outside the limits (R111). -/
theorem offLimits_at_event {n : Nat} {az : Int} (he : s.engine = .slewing n az)
    (hg : covering s.nextEventTime e.chain = some g)
    (hout : ¬ ∀ ax, s.within ax (roundCounts ((segPositions g w (segIndex g s.nextEventTime)).get ax)) = true) :
    ∃ x ∈ t.night.entries, x.record = e.record ∧ x.status = .ended .limit ∧ x.results.endedAt = some s.nextEventTime ∧
      x.chain = [] := by
  have hu := hc.onTrack htrack
  rw [← hc.mountTime] at hg hout
  have heu := hc.engine.trans he
  have ha := track_aim hu hg
  have hout' : ¬ ∀ ax, (u.passed e).within ax (roundCounts ((segPositions g w (segIndex g u.time.mountTime)).get ax)) = true :=
    fun h => hout fun ax => (hc.within _ _).symm.trans (h ax)
  have hbase : u.baseStage.state.activeEntry = some { e with chain := dropPassed u.time.mountTime e.chain } := by
    rw [baseStage_offLimits ha heu hout']
    exact passed_active hu.1
  have hengine : u.evaluated.engine.state ≠ .holding := by
    rw [evaluated_engine, baseStage_offLimits ha heu hout']
    exact nofun
  have hd := decided_of_offLimits ha heu hout'
  rw [← beforeEnd_of_not_holding hengine] at hd
  exact (track_ends hc hd (evaluated_active_base hbase) rfl).1

/-- A slew that goes on toward a covered target (R109, R111). -/
theorem slewing_at_event {n : Nat} {az : Int} (he : s.engine = .slewing n az) (hg : covering s.nextEventTime e.chain = some g)
    (hin : ∀ ax, s.within ax (roundCounts ((segPositions g w (segIndex g s.nextEventTime)).get ax)) = true)
    (hcap : s.captureTest (segPositions g w (segIndex g s.nextEventTime)) (segRates g (segIndex g s.nextEventTime))
      (s.followTo (segPositions g w (segIndex g s.nextEventTime)) (segRates g (segIndex g s.nextEventTime))) = false)
    (hto : (n + 1 : Nat) < s.inForce.slewTimeout)
    (hmoved : ∀ ax, s.within ax (roundCounts ((s.followTo (segPositions g w (segIndex g s.nextEventTime))
      (segRates g (segIndex g s.nextEventTime))).get ax).pos) = true) :
    (t.free = s.free + (e.chain.length - (dropPassed s.nextEventTime e.chain).length) ∧
        (∃ x, t.activeEntry = some x ∧ x.record = e.record ∧ x.chain = dropPassed s.nextEventTime e.chain ∧
          (dropPassed s.nextEventTime e.chain).head? = some g) ∧
        ∀ ax, (t.axes.get ax).demand = roundCounts (t.axes.get ax).base ∧ (t.axes.get ax).applied = 0) ∧
      t.engine = .slewing (n + 1) (roundCounts (segPositions g w (segIndex g s.nextEventTime)).az) ∧
      ∀ ax, (t.axes.get ax).base = ((s.followTo (segPositions g w (segIndex g s.nextEventTime))
          (segRates g (segIndex g s.nextEventTime))).get ax).pos ∧
        (t.axes.get ax).vel = ((s.followTo (segPositions g w (segIndex g s.nextEventTime))
          (segRates g (segIndex g s.nextEventTime))).get ax).vel := by
  have hu := hc.onTrack htrack
  have hhead := dropPassed_of_covering hg
  have hsameFollow (p r : Axes Int) : u.followTo p r = s.followTo p r := by
    unfold State.followTo
    rw [hc.axes, hc.inForce]
  rw [← hc.mountTime] at hg hin hhead hcap hmoved ⊢
  obtain ⟨hr, hoff, hcapture, hev, hactive, hfree, hmotion, hsum, happlied⟩ :=
    track_slewing hu hg (hc.engine.trans he) fun ax => (hc.within _ _).trans (hin ax)
  rw [hsameFollow] at hcapture hmotion hsum
  have hcapture' : u.baseStage.capture = false := by
    rw [hcapture, ← hcap]
    unfold State.captureTest
    rw [hc.inForce]
  have hd : u.decided = u.evaluated := by
    unfold State.decided
    rw [takeDecision_of_slewing hev]
    unfold State.decideSlewing
    rw [hr, hoff, hcapture', (evaluated_rest u).2.1, hc.inForce, if_neg Bool.false_ne_true, if_neg Bool.false_ne_true,
      if_neg Bool.false_ne_true, if_neg (Int.not_le.2 hto)]
  obtain ⟨_, _, _, _, _, hsame⟩ := hc.same
  rw [hsame, hd]
  refine ⟨⟨hfree.trans ?_, ⟨_, hactive, rfl, rfl, hhead⟩, fun ax => ?_⟩, hev, hmotion⟩
  · rw [hc.free]
  · have hwithin : u.within ax (u.blended.axes.get ax).sum = true := by
      rw [hsum, hc.within]
      exact hmoved ax
    show (u.evaluated.axes.get ax).demand = roundCounts (u.evaluated.axes.get ax).base ∧ (u.evaluated.axes.get ax).applied = 0
    rw [evaluated_demand, clamp_of_mem ((within_iff _ _ _).1 hwithin), hsum, (hmotion ax).1, (evaluated_offsets u ax).2]
    exact ⟨rfl, happlied ax⟩

end

/-- Settles O16: chains by their last begun segment; a calm event of a TRACK target by what its base stage finds. -/
theorem coveringSegment : Obligations.CoveringSegment := by
  unfold Obligations.CoveringSegment
  refine ⟨fun t chain => ⟨fun g => covering_iff, ?_, fun hlaw first last => covering_of_lawful hlaw⟩, ?_⟩
  · rintro before g after rfl hs ha
    exact dropPassed_of_begun hs ha
  · intro levels order s e w hcalm htrack
    have hcomputes (ht : s.engine.isTarget = true) : ∃ u, s.Concludes u (s.demandEvent levels order) :=
      calm_computes hcalm (by intro h; rw [h] at ht; cases ht) (by intro h; rw [h] at ht; cases ht) order
    refine ⟨fun ht hg hin => ?_, fun g hg => ⟨fun hf hout => ?_, fun n he hin => ?_, fun n az he => ⟨fun hout => ?_,
      fun hin hcap hto hmoved => ?_⟩⟩⟩
    · obtain ⟨u, hc⟩ := hcomputes ht
      exact ⟨_, exec_demandEvent .., runout_at_event hc htrack ht hg hin⟩
    · obtain ⟨u, hc⟩ := hcomputes (isTarget_of_followsTarget hf)
      obtain ⟨hends, haxes⟩ := limit_at_event hc htrack hf hg hout
      refine ⟨_, exec_demandEvent .., hends, fun ax hle => ?_⟩
      rw [← clamp_eq_max_min hle]
      exact haxes ax
    · obtain ⟨u, hc⟩ := hcomputes (by rcases he with ⟨he, _⟩ | ⟨he, _⟩ <;> rw [he] <;> rfl)
      exact ⟨_, exec_demandEvent .., followed_at_event hc htrack he hg hin⟩
    · obtain ⟨u, hc⟩ := hcomputes (by rw [he]; rfl)
      exact ⟨_, exec_demandEvent .., offLimits_at_event hc htrack he hg hout⟩
    · obtain ⟨u, hc⟩ := hcomputes (by rw [he]; rfl)
      exact ⟨_, exec_demandEvent .., slewing_at_event hc htrack he hg hin hcap hto hmoved⟩

end Sys2Proof.Machine

/-! PROOFS. The scan of selection from the head of the list (R25, R27, R28, R48, R104 to R107). -/

namespace Sys2Proof.Machine

variable {s u v : State} {t : Nat} {e : Entry} {before before' rest tail : List Entry}

/-! ### Lists and entries -/

theorem updateFirst_at {α : Type} {p : α → Bool} {f : α → α} {b a : List α} {x : α} (hb : ∀ y ∈ b, p y = false)
    (hx : p x = true) : updateFirst p f (b ++ x :: a) = b ++ f x :: a := by
  induction b with
  | nil => simp [updateFirst, hx]
  | cons y b ih =>
    rw [List.cons_append, updateFirst, hb y List.mem_cons_self, if_neg Bool.false_ne_true,
      ih fun z hz => hb z (List.mem_cons_of_mem _ hz)]
    rfl

theorem find?_at {α : Type} {p : α → Bool} {b a : List α} {x : α} (hb : ∀ y ∈ b, p y = false) (hx : p x = true) :
    (b ++ x :: a).find? p = some x := by
  rw [List.find?_append, List.find?_eq_none.2 (fun y hy => by rw [hb y hy]; exact Bool.false_ne_true), Option.none_or,
    List.find?_cons, hx]

theorem not_pending_of_ended {o : EndOutcome} (h : e.status = .ended o) : e.isPending = false := by
  unfold Entry.isPending
  rw [h]

/-! ### The verdicts -/

/-- The entry with its stale segments released (R48). -/
def State.heldOf (s : State) (e : Entry) : Entry := { e with chain := dropStale s.time.mountTime e.chain }

/-- The window does not end the entry (R104, step 1). -/
def State.opens (s : State) (e : Entry) : Prop := ∀ l, e.record.latest = some l → s.time.mountTime ≤ l

/-- The window neither ends the entry nor keeps it waiting (R104, steps 1 and 2). -/
def State.admits (s : State) (e : Entry) : Prop := s.opens e ∧ ∀ b, e.record.earliest = some b → b ≤ s.time.mountTime

theorem any_decide_iff {p : Nat → Prop} [DecidablePred p] (o : Option Nat) :
    (o.any fun l => decide (p l)) = true ↔ ∃ l, o = some l ∧ p l := by
  cases o <;> simp

theorem windowVerdict_cases (s : State) (e : Entry) :
    (∃ l, e.record.latest = some l ∧ l < s.time.mountTime) ∧ windowVerdict s.time.mountTime e.record = some (.ends .late) ∨
      s.opens e ∧ (∃ b, e.record.earliest = some b ∧ s.time.mountTime < b) ∧
        windowVerdict s.time.mountTime e.record = some (.waits .early) ∨
      s.admits e ∧ windowVerdict s.time.mountTime e.record = none := by
  have hlate := any_decide_iff (p := (· < s.time.mountTime)) e.record.latest
  have hearly := any_decide_iff (p := (s.time.mountTime < ·)) e.record.earliest
  unfold windowVerdict
  by_cases h1 : ∃ l, e.record.latest = some l ∧ l < s.time.mountTime
  · exact .inl ⟨h1, if_pos (hlate.2 h1)⟩
  · have hopen : s.opens e := fun l hl => Nat.le_of_not_lt fun hlt => h1 ⟨l, hl, hlt⟩
    rw [if_neg (mt hlate.1 h1)]
    by_cases h2 : ∃ b, e.record.earliest = some b ∧ s.time.mountTime < b
    · exact .inr (.inl ⟨hopen, h2, if_pos (hearly.2 h2)⟩)
    · exact .inr (.inr ⟨⟨hopen, fun b hb => Nat.le_of_not_lt fun hlt => h2 ⟨b, hb, hlt⟩⟩, if_neg (mt hearly.1 h2)⟩)

theorem startPosition_none (h : startPosition t e = none) : e.record.kind = .track ∧ covering t e.chain = none := by
  unfold startPosition at h
  cases hk : e.record.kind with
  | fixed p => rw [hk] at h; cases h
  | track =>
    rw [hk] at h
    dsimp only at h
    cases hg : covering t e.chain with
    | none => exact ⟨rfl, rfl⟩
    | some g =>
      obtain ⟨before, after, heq, _⟩ := covering_iff.1 hg
      have hne : e.chain ≠ [] := by rw [heq]; simp
      rw [hg, List.getLast?_eq_some_getLast hne] at h
      cases h

theorem chainVerdict_noTrack (h : startPosition s.time.mountTime e = none) : s.chainVerdict e = .waits .noTrack := by
  unfold State.chainVerdict
  rw [h]

theorem chainVerdict_limit {p : Axes Int × Int} (h : startPosition s.time.mountTime e = some p) (hk : s.findWrap e p = none) :
    s.chainVerdict e = .ends .limit := by
  unfold State.chainVerdict
  rw [h]
  dsimp only
  rw [hk]

theorem chainVerdict_starts {p : Axes Int × Int} {k : Int} (h : startPosition s.time.mountTime e = some p)
    (hk : s.findWrap e p = some k) : s.chainVerdict e = .starts k p.1.az := by
  unfold State.chainVerdict
  rw [h]
  dsimp only
  rw [hk]

/-! ### The scan's progress -/

/-- How the scan leaves an entry it has passed: as it was, or PENDING before and ended as LATE or as LIMIT (R104). -/
def State.PassesAs (s : State) (e e' : Entry) : Prop :=
  (e.isPending = false → e' = e) ∧
    (e.isPending = true →
      e'.record = e.record ∧ e'.chain = [] ∧ e'.results = { e.results with endedAt := some s.time.mountTime } ∧
        (e'.status = .ended .late ∧ (∃ l, e.record.latest = some l ∧ l < s.time.mountTime) ∨
          e'.status = .ended .limit ∧ s.admits e ∧
            ∃ p, startPosition s.time.mountTime (s.heldOf e) = some p ∧ s.findWrap e p = none))

/-- The most recent end is that of the last PENDING entry passed, or the one before the scan (R28). -/
def LastEnd (before before' : List Entry) (r0 r : Option (Nat × EndOutcome)) : Prop :=
  ((∀ x ∈ before, x.isPending = false) → r = r0) ∧
    ∀ (i : Nat) (e e' : Entry), before[i]? = some e → before'[i]? = some e' →
      (∀ x ∈ before.drop (i + 1), x.isPending = false) → e.isPending = true →
        ∀ o, e'.status = .ended o → r = some (e.record.id, o)

/-- The scan of `s` stands at `v`: it has passed `before`, which it leaves as `before'`, and has `rest` to examine, which
stands as `rest'` in its list. -/
structure State.Scanned (s : State) (before before' rest rest' : List Entry) (v : State) : Prop where
  frame : ∃ f n, v = { s with night := { s.night with entries := before' ++ rest' }, free := f, notices := n }
  entries : s.night.entries = before ++ rest
  passed : List.Forall₂ s.PassesAs before before'
  boxes : v.notices.boxes = (if before.any Entry.isPending then State.raise .targetEnd s else s).notices.boxes
  recentStart : v.notices.recentStart = s.notices.recentStart
  lastEnd : LastEnd before before' s.notices.recentEnd v.notices.recentEnd
  pool : v.free + chainTotal v.night.entries = s.free + chainTotal s.night.entries

theorem scanned_start (s : State) : s.Scanned [] [] s.night.entries s.night.entries s :=
  ⟨⟨s.free, s.notices, rfl⟩, rfl, .nil, rfl, rfl, ⟨fun _ => rfl, fun i e e' h => by simp at h⟩, rfl⟩

theorem State.PassesAs.not_pending {e' : Entry} (h : s.PassesAs e e') : e'.isPending = false := by
  rcases Bool.eq_false_or_eq_true e.isPending with hp | hp
  · obtain ⟨_, _, _, hends⟩ := h.2 hp
    rcases hends with ⟨hst, _⟩ | ⟨hst, _⟩
    · exact not_pending_of_ended hst
    · exact not_pending_of_ended hst
  · have heq := h.1 hp
    subst heq
    exact hp

theorem passed_not_pending (h : List.Forall₂ s.PassesAs before before') : ∀ y ∈ before', y.isPending = false := by
  induction h with
  | nil => simp
  | cons hx _ ih =>
    intro y hy
    rcases List.mem_cons.1 hy with rfl | hy
    · exact hx.not_pending
    · exact ih y hy

theorem passesAs_idle (h : e.isPending = false) : s.PassesAs e e := ⟨fun _ => rfl, fun h' => by rw [h] at h'; cases h'⟩

theorem passes_idle {l : List Entry} (h : ∀ y ∈ l, y.isPending = false) : List.Forall₂ s.PassesAs l l := by
  induction l with
  | nil => exact .nil
  | cons x l ih =>
    exact .cons (passesAs_idle (h x List.mem_cons_self)) (ih fun y hy => h y (List.mem_cons_of_mem _ hy))

section
variable {r0 r : Option (Nat × EndOutcome)} {kept : List Entry}

theorem lastEnd_idle (h : LastEnd before before' r0 r) (hlen : before'.length = before.length)
    (hidle : ∀ x ∈ kept, x.isPending = false) : LastEnd (before ++ kept) (before' ++ kept) r0 r := by
  refine ⟨fun hnone => h.1 fun x hx => hnone x (List.mem_append_left _ hx), fun i e e' he he' hafter hp o ho => ?_⟩
  by_cases hi : i < before.length
  · rw [List.getElem?_append_left hi] at he
    rw [List.getElem?_append_left (hlen ▸ hi)] at he'
    refine h.2 i e e' he he' (fun x hx => hafter x ?_) hp o ho
    rw [List.drop_append_of_le_length hi]
    exact List.mem_append_left _ hx
  · rw [List.getElem?_append_right (Nat.le_of_not_lt hi)] at he
    have := hidle e (List.mem_of_getElem? he)
    rw [hp] at this
    cases this

theorem lastEnd_ended {e' : Entry} {o : EndOutcome} (hlen : before'.length = before.length) (hp : e.isPending = true)
    (hst : e'.status = .ended o) : LastEnd (before ++ [e]) (before' ++ [e']) r0 (some (e.record.id, o)) := by
  refine ⟨fun hnone => ?_, fun i x x' hx hx' hafter hpx o' ho' => ?_⟩
  · have := hnone e (List.mem_append_right _ List.mem_cons_self)
    rw [hp] at this
    cases this
  · by_cases hi : i < before.length
    · have := hafter e (by
        rw [List.drop_append_of_le_length hi]
        exact List.mem_append_right _ List.mem_cons_self)
      rw [hp] at this
      cases this
    · have hle := Nat.le_of_not_lt hi
      rw [List.getElem?_append_right hle] at hx
      rw [List.getElem?_append_right (hlen ▸ hle), hlen] at hx'
      cases hk : i - before.length with
      | zero =>
        rw [hk] at hx hx'
        cases hx
        cases hx'
        rw [hst] at ho'
        cases ho'
        rfl
      | succ k => rw [hk] at hx; cases hx

end

/-- Entries that are not PENDING are passed as they are. -/
theorem State.Scanned.pass {kept : List Entry} (h : s.Scanned before before' (kept ++ rest) (kept ++ rest) v)
    (hidle : ∀ x ∈ kept, x.isPending = false) : s.Scanned (before ++ kept) (before' ++ kept) rest rest v := by
  obtain ⟨⟨f, n, hframe⟩, hentries, hpassed, hboxes, hstart, hlast, hpool⟩ := h
  have hany : (before ++ kept).any Entry.isPending = before.any Entry.isPending := by
    have : kept.any Entry.isPending = false := List.any_eq_false.2 fun x hx => by rw [hidle x hx]; exact Bool.false_ne_true
    rw [List.any_append, this, Bool.or_false]
  refine ⟨⟨f, n, by rw [hframe, List.append_assoc]⟩, by rw [hentries, List.append_assoc],
    List.rel_append hpassed (passes_idle hidle), by rw [hany]; exact hboxes, hstart,
    lastEnd_idle hlast hpassed.length_eq.symm hidle, hpool⟩

theorem raise_twice (k : Notice) (b : NoticeBox) : NoticeBox.raise k (NoticeBox.raise k b) = NoticeBox.raise k b := by
  show NoticeBox.form { b with latched := (b.latched ||| k.bit) ||| k.bit } = NoticeBox.form { b with latched := b.latched ||| k.bit }
  rw [BitVec.or_assoc, BitVec.or_self]

theorem links_map_twice {α : Type} (f : α → α) (hf : ∀ x, f (f x) = f x) (x : Links α) : (x.map f).map f = x.map f := by
  show (⟨f (f x.schedule), f (f x.guide), f (f x.enclosure)⟩ : Links α) = _
  rw [hf, hf, hf]
  rfl

/-- An entry as the scan writes its end (R28, R104). -/
def State.endedAs (s : State) (o : EndOutcome) (e : Entry) : Entry :=
  { e with status := .ended o, chain := [], results := { e.results with endedAt := some s.time.mountTime } }

/-- The stale segments of the entry examined released (R48). -/
theorem State.Scanned.release (h : s.Scanned before before' (e :: rest) (e :: rest) v) (hp : e.isPending = true) :
    s.Scanned before before' (e :: rest) (s.heldOf e :: rest) (v.releaseStale e) := by
  obtain ⟨⟨f, n, hframe⟩, hentries, hpassed, hboxes, hstart, hlast, hpool⟩ := h
  have hlist : (v.releaseStale e).night.entries = before' ++ s.heldOf e :: rest := by
    rw [hframe]
    exact updateFirst_at (passed_not_pending hpassed) hp
  refine ⟨⟨v.free + (e.chain.length - (dropStale s.time.mountTime e.chain).length), n, ?_⟩, hentries, hpassed, hboxes, hstart,
    hlast, ?_⟩
  · rw [← hlist, hframe]
    rfl
  · have hle := length_dropStale_le s.time.mountTime e.chain
    have hfree : (v.releaseStale e).free = v.free + (e.chain.length - (dropStale s.time.mountTime e.chain).length) := by
      rw [hframe]
      rfl
    have hbefore : v.night.entries = before' ++ e :: rest := by rw [hframe]
    rw [hbefore, chainTotal_append] at hpool
    rw [hlist, hfree, chainTotal_append]
    show v.free + _ + (chainTotal before' + ((dropStale s.time.mountTime e.chain).length + chainTotal rest)) = _
    have hsum : chainTotal (e :: rest) = e.chain.length + chainTotal rest := rfl
    omega

/-- The entry examined ended: what the scan leaves of it, whatever part of its chain was released before (R28, R104). -/
theorem State.Scanned.ends {o : EndOutcome} {c : List Segment}
    (h : s.Scanned before before' (e :: rest) ({ e with chain := c } :: rest) v) (hp : e.isPending = true)
    (hpass : s.PassesAs e (s.endedAs o e)) :
    s.Scanned (before ++ [e]) (before' ++ [s.endedAs o e]) rest rest (v.endPending o { e with chain := c }) := by
  obtain ⟨⟨f, n, hframe⟩, hentries, hpassed, hboxes, hstart, hlast, hpool⟩ := h
  have hlist : (v.endPending o { e with chain := c }).night.entries = (before' ++ [s.endedAs o e]) ++ rest := by
    rw [List.append_assoc, hframe]
    exact updateFirst_at (passed_not_pending hpassed) hp
  have hbefore : v.night.entries = before' ++ { e with chain := c } :: rest := by rw [hframe]
  have hfree : (v.endPending o { e with chain := c }).free = v.free + c.length := rfl
  refine ⟨⟨v.free + c.length, (v.endPending o { e with chain := c }).notices, ?_⟩, by rw [hentries, List.append_assoc]; rfl,
    List.rel_append hpassed (.cons hpass .nil), ?_, hstart, lastEnd_ended hpassed.length_eq.symm hp rfl, ?_⟩
  · rw [← hlist, hframe]
    rfl
  · have hany : (before ++ [e]).any Entry.isPending = true :=
      List.any_eq_true.2 ⟨e, List.mem_append_right _ List.mem_cons_self, hp⟩
    rw [hany, if_pos rfl]
    show v.notices.boxes.map (NoticeBox.raise .targetEnd) = _
    rw [hboxes]
    split
    · show (s.notices.boxes.map (NoticeBox.raise .targetEnd)).map (NoticeBox.raise .targetEnd) = s.notices.boxes.map _
      exact links_map_twice _ (raise_twice .targetEnd) _
    · rfl
  · rw [hbefore, chainTotal_append] at hpool
    rw [hlist, hfree, chainTotal_append, chainTotal_append]
    have hsum : chainTotal ({ e with chain := c } :: rest) = c.length + chainTotal rest := rfl
    have hended : chainTotal [s.endedAs o e] = 0 := rfl
    omega

/-! ### Where the scan stops -/

/-- What stops a scan of `s`: no PENDING entry is left, or the first that is left waits or is started (R104 to R106). -/
inductive State.Stops (s : State) (afterEnd : Bool) (v : State) : List Entry → State → Prop where
  | empty : s.Stops afterEnd v [] (v.wait .nonePending afterEnd)
  | early {e : Entry} {tail : List Entry} {b : Nat} (hp : e.isPending = true) (ho : s.opens e)
      (hb : e.record.earliest = some b) (hlt : s.time.mountTime < b) :
      s.Stops afterEnd v (e :: tail) (v.wait .early afterEnd)
  | noTrack {e : Entry} {tail : List Entry} (hp : e.isPending = true) (ho : s.admits e)
      (hs : startPosition s.time.mountTime (s.heldOf e) = none) :
      s.Stops afterEnd v (e :: tail) ((v.releaseStale e).wait .noTrack afterEnd)
  | starts {e : Entry} {tail : List Entry} {p : Axes Int × Int} {k : Int} (hp : e.isPending = true) (ho : s.admits e)
      (hs : startPosition s.time.mountTime (s.heldOf e) = some p) (hk : s.findWrap e p = some k) :
      s.Stops afterEnd v (e :: tail)
        ((v.releaseStale e).start (s.heldOf e) k p.1.az (afterEnd && e.record.carryGuide))

/-- The entries that are not PENDING at the head of a list, and the first that is. -/
theorem split_pending (l : List Entry) :
    (∀ x ∈ l, x.isPending = false) ∨ ∃ kept e tail, l = kept ++ e :: tail ∧ (∀ x ∈ kept, x.isPending = false) ∧
      e.isPending = true := by
  cases h : l.find? Entry.isPending with
  | none =>
    left
    intro x hx
    exact Bool.eq_false_iff.2 (List.find?_eq_none.1 h x hx)
  | some e =>
    obtain ⟨he, kept, tail, heq, hkept⟩ := List.find?_eq_some_iff_append.1 h
    exact .inr ⟨kept, e, tail, heq, fun x hx => by simpa using hkept x hx, he⟩

/-- The scan passes entries up to the one that stops it (R104). -/
theorem scan_stops (afterEnd : Bool) (n : Nat) (h : s.Scanned before before' rest rest v) (hn : rest.length < n) :
    ∃ b b' r w, s.Scanned b b' r r w ∧ s.Stops afterEnd w r (State.scan afterEnd n v) := by
  induction n generalizing before before' rest v with
  | zero => exact absurd hn (Nat.not_lt_zero _)
  | succ n ih =>
    obtain ⟨f, x, hframe⟩ := h.frame
    have hlist : v.night.entries = before' ++ rest := by rw [hframe]
    have htime : v.time = s.time := by rw [hframe]
    have hpassed := passed_not_pending h.passed
    unfold State.scan
    rcases split_pending rest with hnone | ⟨kept, e, tail, rfl, hkept, hp⟩
    · have hfirst : v.firstPending = none := by
        unfold State.firstPending
        rw [hlist]
        refine List.find?_eq_none.2 fun x hx => ?_
        rcases List.mem_append.1 hx with hx | hx
        · rw [hpassed x hx]; exact Bool.false_ne_true
        · rw [hnone x hx]; exact Bool.false_ne_true
      rw [hfirst]
      have hall := State.Scanned.pass (kept := rest) (rest := []) (by rw [List.append_nil]; exact h) hnone
      exact ⟨_, _, _, _, hall, .empty⟩
    · have hhead := h.pass hkept
      have hfirst : v.firstPending = some e := by
        unfold State.firstPending
        rw [hlist, ← List.append_assoc]
        exact find?_at (fun x hx => (List.mem_append.1 hx).elim (hpassed x) (hkept x)) hp
      have hshort : tail.length < n := by
        rw [List.length_append, List.length_cons] at hn
        omega
      rw [hfirst]
      dsimp only
      rw [htime]
      rcases windowVerdict_cases s e with ⟨hlate, hw⟩ | ⟨ho, ⟨b, hb, hlt⟩, hw⟩ | ⟨ho, hw⟩ <;> rw [hw] <;> dsimp only
      · refine ih (State.Scanned.ends (c := e.chain) hhead hp ⟨fun hno => ?_, fun _ => ⟨rfl, rfl, rfl, .inl ⟨rfl, hlate⟩⟩⟩) hshort
        rw [hp] at hno
        cases hno
      · exact ⟨_, _, _, _, hhead, .early hp ho hb hlt⟩
      · have hrel := hhead.release hp
        obtain ⟨f', x', hframe'⟩ := hrel.frame
        have htime' : (v.releaseStale e).time = s.time := by rw [hframe']
        have hwrap (p : Axes Int × Int) : (v.releaseStale e).findWrap (s.heldOf e) p = s.findWrap e p := by
          rw [hframe']
          rfl
        have hheld : Entry.releaseStale s.time.mountTime e = s.heldOf e := rfl
        rw [hheld]
        cases hs : startPosition s.time.mountTime (s.heldOf e) with
        | none =>
          rw [chainVerdict_noTrack (by rw [htime']; exact hs)]
          exact ⟨_, _, _, _, hhead, .noTrack hp ho hs⟩
        | some p =>
          cases hk : s.findWrap e p with
          | none =>
            rw [chainVerdict_limit (by rw [htime']; exact hs) ((hwrap p).trans hk)]
            refine ih (State.Scanned.ends (c := dropStale s.time.mountTime e.chain) hrel hp ⟨fun hno => ?_, fun _ =>
              ⟨rfl, rfl, rfl, .inr ⟨rfl, ho, p, hs, hk⟩⟩⟩) hshort
            rw [hp] at hno
            cases hno
          | some k =>
            rw [chainVerdict_starts (by rw [htime']; exact hs) ((hwrap p).trans hk)]
            exact ⟨_, _, _, _, hhead, .starts hp ho hs hk⟩

end Sys2Proof.Machine

/-! PROOFS. What selection leaves, written out from where its scan stops (R27, R48, R60, R98, R104 to R107). -/

namespace Sys2Proof.Machine

variable {s u v w : State} {t : Nat} {e : Entry} {b b' r rest tail : List Entry}

/-! ### The start position and the wrap -/

theorem findWrap_eq (e : Entry) (p : Axes Int × Int) (s : State) :
    s.findWrap e p =
      if s.within .el p.1.el = true ∧ s.within .rot p.1.rot = true then
        wrapChoice e.record.wrap s.inForce.lower.az s.inForce.upper.az p.1.az p.2 s.axes.az.emitted
      else none := by
  unfold State.findWrap
  refine if_congr ?_ rfl rfl
  rw [Bool.and_eq_true]

theorem startPosition_fixed {p : Axes Int} (h : e.record.kind = .fixed p) : startPosition t e = some (p, p.az) := by
  unfold startPosition
  rw [h]

theorem startPosition_uncovered (h : e.record.kind = .track) (hg : covering t e.chain = none) : startPosition t e = none := by
  unfold startPosition
  rw [h]
  dsimp only
  rw [hg]

theorem startPosition_covered {g last : Segment} (h : e.record.kind = .track) (hg : covering t e.chain = some g)
    (hlast : e.chain.getLast? = some last) :
    startPosition t e =
      some ((segPositions g 0 (((t - segStart g) / 1000 : Nat) : Int)).map roundCounts,
        roundCounts (segPositions last 0 ((last.len.toNat : Int) - 1)).az) := by
  unfold startPosition
  rw [h]
  dsimp only
  rw [hg, hlast]
  rfl

/-! ### The wait and the start -/

/-- What a wait leaves (R105, R106). -/
theorem wait_eq (reason : WaitReason) (afterEnd : Bool) (s : State) :
    s.wait reason afterEnd =
      { s with
        waitReason := some reason
        guide := { s.guide with offset := ⟨0, 0⟩ }
        engine := if afterEnd then .stopping .waiting else .waiting
        enable := true
        notices := if reason = .nonePending ∧ s.waitReason ≠ some .nonePending then (State.raise .listEmpty s).notices
          else s.notices } := by
  unfold State.wait
  dsimp only
  by_cases h : reason = .nonePending ∧ s.waitReason ≠ some .nonePending
  · rw [if_pos h, if_pos h]
    cases afterEnd <;> rfl
  · rw [if_neg h, if_neg h]
    cases afterEnd <;> rfl

/-- What a start leaves (R27, R60, R106). -/
theorem start_leaves (e : Entry) (k az : Int) (keep : Bool) (s : State) :
    s.start e k az keep =
      { s with
        night := { s.night with entries := updateFirst Entry.isPending (Entry.activate s.time.mountTime k) s.night.entries }
        engine := .slewing 0 (az + k * 16777216)
        enable := true
        model := { s.model with pageInUse := e.record.station }
        waitReason := none
        notices := { (State.raise .targetStart s).notices with recentStart := some e.record.id }
        guide := if keep then s.guide else { s.guide with offset := ⟨0, 0⟩ }
        lines := (State.give .targetStart s).lines } := by
  unfold State.start
  cases keep <;> rfl

/-! ### What every selection leaves -/

/-- What a selection can change, and that it leaves the drives on and the pool whole (R42, R98, R104). -/
structure State.SelectedFrom (s t : State) : Prop where
  frame : { t with
    night := s.night, free := s.free, engine := s.engine, enable := s.enable, guide := s.guide
    waitReason := s.waitReason, model := s.model, lines := s.lines, notices := s.notices } = s
  guide : { t.guide with offset := s.guide.offset } = s.guide
  flag : t.night.flag = s.night.flag
  enable : t.enable = true
  pool : t.free + chainTotal t.night.entries = s.free + chainTotal s.night.entries

/-- The selection leaves its drives and its pool alike, wherever the scan stands when it stops. -/
theorem Scanned.waits (h : s.Scanned b b' r rest v) (reason : WaitReason) (afterEnd : Bool) :
    s.SelectedFrom (v.wait reason afterEnd) ∧ (v.wait reason afterEnd).night.entries = b' ++ rest ∧
      (v.wait reason afterEnd).notices.recentEnd = v.notices.recentEnd ∧
      ((v.wait reason afterEnd).waitReason = some reason ∧ (v.wait reason afterEnd).guide.offset = ⟨0, 0⟩ ∧
        (v.wait reason afterEnd).engine = (if afterEnd then .stopping .waiting else .waiting) ∧
        (v.wait reason afterEnd).model = s.model ∧ (v.wait reason afterEnd).lines = s.lines ∧
        (v.wait reason afterEnd).notices.recentStart = s.notices.recentStart) ∧
      (reason ≠ .nonePending → (v.wait reason afterEnd).notices.boxes = v.notices.boxes) ∧
      (reason = .nonePending → (v.wait reason afterEnd).notices.boxes =
        if s.waitReason = some .nonePending then v.notices.boxes else v.notices.boxes.map (NoticeBox.raise .listEmpty)) := by
  obtain ⟨⟨f, n, hframe⟩, _, _, _, hstart, _, hpool⟩ := h
  have hwait : v.waitReason = s.waitReason := by rw [hframe]
  have hrecent : (v.wait reason afterEnd).notices.recentEnd = v.notices.recentEnd ∧
      (v.wait reason afterEnd).notices.recentStart = v.notices.recentStart := by
    rw [wait_eq]
    dsimp only
    split <;> exact ⟨rfl, rfl⟩
  refine ⟨⟨?_, ?_, ?_, ?_, ?_⟩, ?_, hrecent.1, ⟨?_, ?_, ?_, ?_, ?_, hrecent.2.trans hstart⟩, fun hr => ?_, fun hr => ?_⟩
  · rw [wait_eq, hframe]
  · rw [wait_eq, hframe]
  · rw [wait_eq, hframe]
  · rw [wait_eq]
  · rw [wait_eq]; exact hpool
  · rw [wait_eq, hframe]
  · rw [wait_eq]
  · rw [wait_eq]
  · rw [wait_eq]
  · rw [wait_eq, hframe]
  · rw [wait_eq, hframe]
  · rw [wait_eq]
    dsimp only
    rw [if_neg fun h => hr h.1]
  · rw [wait_eq, hwait]
    dsimp only
    by_cases hs : s.waitReason = some .nonePending
    · rw [if_pos hs, if_neg fun h => h.2 hs]
    · rw [if_neg hs, if_pos ⟨hr, hs⟩]
      rfl

/-- What a start of the entry examined leaves (R27, R60, R106). -/
theorem Scanned.starts {k az : Int} {keep : Bool} {c : List Segment}
    (h : s.Scanned b b' (e :: tail) ({ e with chain := c } :: tail) v) (hp : e.isPending = true) :
    let t := v.start { e with chain := c } k az keep
    s.SelectedFrom t ∧
      t.night.entries = b' ++ { e with
        chain := c, status := .active .slewing
        results := { e.results with
          selectedAt := some s.time.mountTime, wrapOffset := some k
          tally := some ⟨0, 0, 0, 0, 0, ⟨0, 0, 0⟩, 0⟩ } } :: tail ∧
      t.notices.recentEnd = v.notices.recentEnd ∧ t.engine = .slewing 0 (az + k * 16777216) ∧ t.waitReason = none ∧
      t.model = { s.model with pageInUse := e.record.station } ∧ t.lines = (State.give .targetStart s).lines ∧
      t.notices.boxes = v.notices.boxes.map (NoticeBox.raise .targetStart) ∧ t.notices.recentStart = some e.record.id ∧
      t.guide.offset = if keep then s.guide.offset else ⟨0, 0⟩ := by
  obtain ⟨⟨f, n, hframe⟩, _, hpassed, _, hstart, _, hpool⟩ := h
  have hlist : updateFirst Entry.isPending (Entry.activate v.time.mountTime k) v.night.entries =
      b' ++ { e with
        chain := c, status := .active .slewing
        results := { e.results with
          selectedAt := some s.time.mountTime, wrapOffset := some k
          tally := some ⟨0, 0, 0, 0, 0, ⟨0, 0, 0⟩, 0⟩ } } :: tail := by
    rw [hframe]
    exact updateFirst_at (passed_not_pending hpassed) hp
  have hbefore : v.night.entries = b' ++ { e with chain := c } :: tail := by rw [hframe]
  have hchains : chainTotal (b' ++ { e with
        chain := c, status := .active .slewing
        results := { e.results with
          selectedAt := some s.time.mountTime, wrapOffset := some k
          tally := some ⟨0, 0, 0, 0, 0, ⟨0, 0, 0⟩, 0⟩ } } :: tail) = chainTotal v.night.entries := by
    rw [hbefore, chainTotal_append, chainTotal_append]
    rfl
  dsimp only
  rw [start_leaves, hlist]
  refine ⟨⟨?_, ?_, ?_, rfl, ?_⟩, rfl, rfl, rfl, rfl, ?_, ?_, rfl, rfl, ?_⟩
  · rw [hframe]
  · rw [hframe]
    cases keep <;> rfl
  · rw [hframe]
  · dsimp only
    rw [hchains]
    exact hpool
  · rw [hframe]
  · rw [hframe]
    rfl
  · rw [hframe]
    cases keep <;> rfl

end Sys2Proof.Machine

/-! PROOFS. The outcome of a selection, by what stops its scan (R25, R27, R28, R104 to R106). -/

namespace Sys2Proof.Machine

variable {s t w : State} {e : Entry} {b b' r : List Entry} {afterEnd : Bool}

/-- Whatever stops the scan, the selection leaves the rest alone, and the most recent end is the scan's. -/
theorem Stops.selected (h : s.Scanned b b' r r w) (hstop : s.Stops afterEnd w r t) :
    s.SelectedFrom t ∧ t.notices.recentEnd = w.notices.recentEnd := by
  cases hstop with
  | empty =>
    obtain ⟨hsel, _, hrecent, _⟩ := Scanned.waits h .nonePending afterEnd
    exact ⟨hsel, hrecent⟩
  | early =>
    obtain ⟨hsel, _, hrecent, _⟩ := Scanned.waits h .early afterEnd
    exact ⟨hsel, hrecent⟩
  | noTrack hp =>
    obtain ⟨hsel, _, hrecent, _⟩ := Scanned.waits (h.release hp) .noTrack afterEnd
    exact ⟨hsel, hrecent⟩
  | starts hp =>
    obtain ⟨hsel, _, hrecent, _⟩ := Scanned.starts (h.release hp) hp
    exact ⟨hsel, hrecent⟩

/-- The selection passes entries from the head until something stops it (R104). -/
theorem select_stops (afterEnd : Bool) (s : State) :
    ∃ b b' r w, s.Scanned b b' r r w ∧ s.Stops afterEnd w r (s.select afterEnd) :=
  scan_stops afterEnd _ (scanned_start s) (Nat.lt_succ_self _)

/-- The notices that the entries passed have raised (R28). -/
def State.noticedBy (s : State) (b : List Entry) : State := if b.any Entry.isPending then State.raise .targetEnd s else s

/-- How an entry passed stands after the selection, with what the most recent end tells of it (R28, R104). -/
theorem passed_at {i : Nat} {e e' : Entry} (h : s.Scanned b b' r r w) (hrecent : t.notices.recentEnd = w.notices.recentEnd)
    (he : b[i]? = some e) (he' : b'[i]? = some e') :
    s.PassesAs e e' ∧ ((∀ x ∈ b.drop (i + 1), x.isPending = false) → e.isPending = true →
      ∀ o, e'.status = .ended o → t.notices.recentEnd = some (e.record.id, o)) := by
  refine ⟨?_, fun hafter hp o ho => hrecent.trans (h.lastEnd.2 i e e' he he' hafter hp o ho)⟩
  obtain ⟨hi, hei⟩ := List.getElem?_eq_some_iff.1 he
  obtain ⟨hi', hei'⟩ := List.getElem?_eq_some_iff.1 he'
  have := (List.forall₂_iff_get.1 h.passed).2 i hi hi'
  simp only [List.get_eq_getElem, hei, hei'] at this
  exact this

/-- The selection that finds no PENDING entry (R105). -/
theorem Scanned.emptied (h : s.Scanned b b' [] [] w) :
    let t := w.wait .nonePending afterEnd
    t.night.entries = b' ∧
      (t.waitReason = some .nonePending ∧ t.guide.offset = ⟨0, 0⟩ ∧
        (t.engine = if afterEnd then .stopping .waiting else .waiting) ∧ t.model = s.model ∧ t.lines = s.lines ∧
        t.notices.recentStart = s.notices.recentStart) ∧
      t.notices.boxes =
        (if s.waitReason = some .nonePending then s.noticedBy b else State.raise .listEmpty (s.noticedBy b)).notices.boxes := by
  obtain ⟨_, hentries, _, hwaits, _, hboxes⟩ := Scanned.waits h .nonePending afterEnd
  have hw : w.notices.boxes = (s.noticedBy b).notices.boxes := h.boxes
  refine ⟨by rw [hentries, List.append_nil], hwaits, ?_⟩
  rw [hboxes rfl, hw]
  split <;> rfl

end Sys2Proof.Machine

/-! PROOFS. Two selections from states alike in what selection reads leave states alike in what it writes; what a demand
event's stages leave of it (R28, R104, R175). -/

namespace Sys2Proof.Machine

variable {s t u v w : State} {levels : Inputs Bool}

/-! ### Notices that only a selection or an end raises -/

/-- The kinds of notice that a selection or an end raises (R28, R105, R106). -/
def Notice.ofSelection (k : Notice) : Prop := k = .targetStart ∨ k = .targetEnd ∨ k = .listEmpty

/-- Between two states those kinds stand, and the most recent start and end. -/
structure State.Hushed (s t : State) : Prop where
  latched : ∀ (k : Notice) (l : Link), k.ofSelection →
    (t.notices.boxes.get l).latched &&& k.bit = (s.notices.boxes.get l).latched &&& k.bit
  recentStart : t.notices.recentStart = s.notices.recentStart
  recentEnd : t.notices.recentEnd = s.notices.recentEnd

theorem State.Hushed.of_same (h : t.notices = s.notices) : s.Hushed t := by
  constructor
  · intro k l _; rw [h]
  · rw [h]
  · rw [h]

theorem State.Hushed.trans (h : s.Hushed t) (h' : t.Hushed u) : s.Hushed u :=
  ⟨fun k l hk => (h'.latched k l hk).trans (h.latched k l hk), h'.recentStart.trans h.recentStart,
    h'.recentEnd.trans h.recentEnd⟩

theorem raise_hushed {k : Notice} (h : ¬ k.ofSelection) (s : State) : s.Hushed (State.raise k s) := by
  refine ⟨fun k' l hk' => ?_, rfl, rfl⟩
  rw [raise_box]
  show ((s.notices.boxes.get l).latched ||| k.bit) &&& k'.bit = _
  have hbit : k.bit &&& k'.bit = 0 := by
    rcases hk' with rfl | rfl | rfl <;> cases k <;>
      first | rfl | exact absurd (.inl rfl) h | exact absurd (.inr (.inl rfl)) h | exact absurd (.inr (.inr rfl)) h
  rw [BitVec.and_or_distrib_right, hbit]
  exact BitVec.or_zero

theorem opened_hushed (n : Nat) (s : State) : s.Hushed (s.opened levels n) := by
  have hopen : (s.opened levels n).notices = (s.elapse n).notices := rfl
  refine (?_ : s.Hushed (s.elapse n)).trans (.of_same hopen)
  have h := elapse_notices (P := fun x => s.Hushed { s with notices := x }) n s (.of_same rfl)
    fun u hu => State.Hushed.trans hu (raise_hushed (by rintro (h | h | h) <;> cases h) { s with notices := u.notices })
  exact ⟨h.latched, h.recentStart, h.recentEnd⟩

theorem setOnTarget_hushed (b : Bool) (s : State) : s.Hushed (s.setOnTarget b) := by
  unfold State.setOnTarget
  split
  · exact .of_same rfl
  · have hset : s.Hushed { s with onTarget := b } := .of_same rfl
    exact hset.trans ((raise_hushed (k := .onTarget) (by rintro (h | h | h) <;> cases h) _).trans (.of_same rfl))

theorem countGuide_hushed (s : State) : s.Hushed s.countGuide := by
  unfold State.countGuide
  split
  · split
    · have hset : s.Hushed (s.withGuideState .lost) := .of_same rfl
      exact hset.trans ((raise_hushed (k := .guide) (by rintro (h | h | h) <;> cases h) _).trans (.of_same rfl))
    · exact .of_same rfl
  all_goals exact .of_same rfl

theorem guided_hushed (s : State) : s.Hushed s.guided := by
  have hbase : s.Hushed s.baseStage.state.correctionStage := by
    obtain ⟨a, b, c, d, h⟩ := baseStage_frame s
    refine .of_same ?_
    show s.baseStage.state.notices = _
    rw [h]
  refine hbase.trans ?_
  unfold State.guided State.guideStage
  split
  · split
    · exact countGuide_hushed _
    · obtain ⟨x, y, z, h⟩ := takeMailbox_frame s.baseStage.state.correctionStage
      exact State.Hushed.trans (.of_same (by rw [h])) (countGuide_hushed _)
  · exact .of_same rfl

/-- The stages and the ON_TARGET evaluation raise none of those kinds. -/
theorem evaluated_hushed (s : State) : s.Hushed s.evaluated := by
  have hjudged : s.guided.Hushed s.judgedNow := by
    obtain ⟨x', y', hj⟩ := judgeAlignment_frame s.blended.limitStage.stepStage
    refine .of_same ?_
    unfold State.judgedNow
    rw [hj]
    rfl
  have heval : s.judgedNow.Hushed s.evaluated := by
    rw [evaluated_judgedNow]
    unfold State.evaluateOnTarget
    dsimp only
    split
    · exact (setOnTarget_hushed _ _).trans (.of_same rfl)
    · exact setOnTarget_hushed _ _
  exact ((guided_hushed s).trans hjudged).trans heval

/-! ### States alike for a selection -/

/-- One state is like another in what a selection reads of it and writes, but for the engine state and G. -/
structure State.Alike (v w : State) : Prop where
  night : v.night = w.night
  free : v.free = w.free
  waitReason : v.waitReason = w.waitReason
  pageInUse : v.model.pageInUse = w.model.pageInUse
  inForce : v.inForce = w.inForce
  emitted : v.axes.az.emitted = w.axes.az.emitted
  mountTime : v.time.mountTime = w.time.mountTime
  notices : w.Hushed v
  lines : ∀ id, (w.lines.get id).source = .targetStart → (w.lines.get id).mode = .toggle → (w.lines.get id).timer = none →
    v.lines.get id = w.lines.get id

/-- The notices of a kind raised on both sides stay alike. -/
theorem State.Hushed.raise (h : w.Hushed v) (k : Notice) : (State.raise k w).Hushed (State.raise k v) := by
  refine ⟨fun k' l hk' => ?_, h.recentStart, h.recentEnd⟩
  rw [raise_box, raise_box]
  show ((v.notices.boxes.get l).latched ||| k.bit) &&& k'.bit = ((w.notices.boxes.get l).latched ||| k.bit) &&& k'.bit
  rw [BitVec.and_or_distrib_right, BitVec.and_or_distrib_right, h.latched k' l hk']

theorem endPending_night (o : EndOutcome) (e : Entry) (s : State) :
    (s.endPending o e).night =
      { s.night with entries := updateFirst Entry.isPending (Entry.finish o s.time.mountTime) s.night.entries } := rfl

theorem releaseStale_night (e : Entry) (s : State) :
    (s.releaseStale e).night =
      { s.night with entries := updateFirst Entry.isPending (Entry.releaseStale s.time.mountTime) s.night.entries } := rfl

theorem State.Alike.endPending (h : v.Alike w) (o : EndOutcome) (e : Entry) : (v.endPending o e).Alike (w.endPending o e) where
  night := by rw [endPending_night, endPending_night, h.night, h.mountTime]
  free := congrArg (· + e.chain.length) h.free
  waitReason := h.waitReason
  pageInUse := h.pageInUse
  inForce := h.inForce
  emitted := h.emitted
  mountTime := h.mountTime
  notices := ⟨(h.notices.raise .targetEnd).latched, h.notices.recentStart, rfl⟩
  lines := h.lines

theorem State.Alike.releaseStale (h : v.Alike w) (e : Entry) : (v.releaseStale e).Alike (w.releaseStale e) where
  night := by rw [releaseStale_night, releaseStale_night, h.night, h.mountTime]
  free := by
    show v.free + (e.chain.length - (dropStale v.time.mountTime e.chain).length) =
      w.free + (e.chain.length - (dropStale w.time.mountTime e.chain).length)
    rw [h.free, h.mountTime]
  waitReason := h.waitReason
  pageInUse := h.pageInUse
  inForce := h.inForce
  emitted := h.emitted
  mountTime := h.mountTime
  notices := ⟨h.notices.latched, h.notices.recentStart, h.notices.recentEnd⟩
  lines := h.lines

/-- Two selections end alike: also in the engine state and G. -/
def State.EndsAlike (v w : State) : Prop := v.Alike w ∧ v.engine = w.engine ∧ v.guide.offset = w.guide.offset

theorem State.Alike.wait (h : v.Alike w) (r : WaitReason) (b : Bool) : (v.wait r b).EndsAlike (w.wait r b) := by
  rw [wait_eq, wait_eq, h.waitReason]
  refine ⟨⟨h.night, h.free, rfl, h.pageInUse, h.inForce, h.emitted, h.mountTime, ?_, h.lines⟩, rfl, rfl⟩
  by_cases hn : r = .nonePending ∧ w.waitReason ≠ some .nonePending
  · rw [if_pos hn, if_pos hn]
    exact ⟨(h.notices.raise .listEmpty).latched, h.notices.recentStart, h.notices.recentEnd⟩
  · rw [if_neg hn, if_neg hn]
    exact ⟨h.notices.latched, h.notices.recentStart, h.notices.recentEnd⟩

/-- A TOGGLE line with no timer was one before it heard an event (R160, R162). -/
theorem receive_toggle {due : Bool} {src x : Source} {l : EventLine} (hs : (l.receive due src).source = x)
    (hm : (l.receive due src).mode = .toggle) (ht : (l.receive due src).timer = none) :
    l.source = x ∧ l.mode = .toggle ∧ l.timer = none := by
  have hsame := heard_sameSet due [src] l
  exact ⟨hsame.source.symm.trans hs, hsame.mode.symm.trans hm, toggle_of_heard (gs := [src]) hm ht⟩

theorem State.Alike.start (h : v.Alike w) (e : Entry) (k az : Int) {keep : Bool}
    (hoffset : keep = true → v.guide.offset = w.guide.offset) :
    (v.start e k az keep).EndsAlike (w.start e k az keep) := by
  rw [start_leaves, start_leaves]
  refine ⟨⟨?_, h.free, rfl, rfl, h.inForce, h.emitted, h.mountTime, ?_, fun id hs hm ht => ?_⟩, rfl, ?_⟩
  · dsimp only
    rw [h.night, h.mountTime]
  · exact ⟨(h.notices.raise .targetStart).latched, rfl, h.notices.recentEnd⟩
  · dsimp only at hs hm ht ⊢
    rw [give_line] at hs hm ht ⊢
    rw [give_line]
    obtain ⟨hsource, hmode, htimer⟩ := receive_toggle hs hm ht
    rw [h.lines id hsource hmode htimer, receive_of_eq hsource, receive_of_eq hsource, trigger_toggle hmode,
      trigger_toggle hmode]
  · cases keep
    · rfl
    · exact hoffset rfl

/-- The wrap and the verdict on a chain are read from what alike states share (R104, R107). -/
theorem State.Alike.chainVerdict (h : v.Alike w) (e : Entry) : v.chainVerdict e = w.chainVerdict e := by
  have hwrap (p : Axes Int × Int) : v.findWrap e p = w.findWrap e p := by
    unfold State.findWrap State.within
    rw [h.inForce, h.emitted]
  unfold State.chainVerdict
  rw [h.mountTime]
  split
  · rfl
  · rw [hwrap]

/-- The scans of alike states end alike, from the same G where a start may keep it (R104 to R106). -/
theorem State.Alike.scan {b : Bool} (h : v.Alike w) (hoffset : b = true → v.guide.offset = w.guide.offset) (n : Nat) :
    (State.scan b n v).EndsAlike (State.scan b n w) := by
  induction n generalizing v w with
  | zero => exact h.wait .nonePending b
  | succ n ih =>
    have hfirst : v.firstPending = w.firstPending := by
      unfold State.firstPending
      rw [h.night]
    unfold State.scan
    rw [hfirst, h.mountTime]
    cases w.firstPending with
    | none => exact h.wait .nonePending b
    | some e =>
      dsimp only
      rcases windowVerdict_cases w e with ⟨_, hw⟩ | ⟨_, _, hw⟩ | ⟨_, hw⟩ <;> rw [hw] <;> dsimp only
      · exact ih (h.endPending .late e) hoffset
      · exact h.wait .early b
      · have hrel := h.releaseStale e
        rw [hrel.chainVerdict]
        split
        case h_1 o _ => exact ih (hrel.endPending o _) hoffset
        case h_2 r _ => exact hrel.wait r b
        case h_3 k az _ =>
          refine hrel.start _ k az fun hkeep => hoffset ?_
          rw [Bool.and_eq_true] at hkeep
          exact hkeep.1

theorem State.Alike.select {b : Bool} (h : v.Alike w) (hoffset : b = true → v.guide.offset = w.guide.offset) :
    (v.select b).EndsAlike (w.select b) := by
  unfold State.select
  rw [h.night]
  exact h.scan hoffset _

end Sys2Proof.Machine

/-! PROOFS. What a calm event leaves of the selection at it, against a selection from the state before the event
(R28, R98, R104). -/

namespace Sys2Proof.Machine

variable {s t u v w : State} {levels : Inputs Bool}

/-- What a calm event is compared in with a selection (R28, R98, R104 to R106). -/
def State.LeavesAs (s t u : State) : Prop :=
  t.night = u.night ∧ t.free = u.free ∧ t.engine = u.engine ∧ t.waitReason = u.waitReason ∧
    t.model.pageInUse = u.model.pageInUse ∧ t.guide.offset = u.guide.offset ∧
    t.notices.recentStart = u.notices.recentStart ∧ t.notices.recentEnd = u.notices.recentEnd ∧
    (∀ (k : Notice) (l : Link), k = .targetStart ∨ k = .targetEnd ∨ k = .listEmpty →
      (t.notices.boxes.get l).latched &&& k.bit = (u.notices.boxes.get l).latched &&& k.bit) ∧
    ∀ id : LineId, (s.lines.get id).source = .targetStart → (s.lines.get id).mode = .toggle →
      (s.lines.get id).timer = none → (t.lines.get id).output = (u.lines.get id).output

/-- A selection leaves a TOGGLE line with no timer one (R160, R162). -/
theorem select_toggle (b : Bool) (s : State) {id : LineId} (hm : (s.lines.get id).mode = .toggle)
    (ht : (s.lines.get id).timer = none) :
    ((s.select b).lines.get id).source = (s.lines.get id).source ∧ ((s.select b).lines.get id).mode = .toggle ∧
      ((s.select b).lines.get id).timer = none := by
  obtain ⟨_, gs, xs, _, hl, _⟩ := (acts_select (P := fun _ => True) (s := s) trivial b).sounds
  rw [hl, giveAll_get]
  refine heard_keeps (Q := fun l => l.source = (s.lines.get id).source ∧ l.mode = .toggle ∧ l.timer = none)
    (fun l h => ?_) gs ⟨rfl, hm, ht⟩
  rw [trigger_toggle h.2.1]
  exact h

/-- A calm event whose decisions end alike a selection from `w` leaves as that selection. -/
theorem State.Concludes.leavesAs {b : Bool} (hc : s.Concludes u t) (hd : u.decided.EndsAlike (w.select b))
    (hw : w.lines = s.lines) : s.LeavesAs t (w.select b) := by
  obtain ⟨halike, hengine, hoffset⟩ := hd
  have hpage : t.model.pageInUse = u.decided.model.pageInUse := by
    rw [hc.last]
    rfl
  have hout := hc.output
  obtain ⟨_, _, _, _, _, hsame⟩ := hc.same
  refine ⟨?_, ?_, ?_, ?_, hpage.trans halike.pageInUse, ?_, ?_, ?_, fun k l hk => ?_, fun id hs hm ht => ?_⟩
  · rw [hsame]; exact halike.night
  · rw [hsame]; exact halike.free
  · rw [hsame]; exact hengine
  · rw [hsame]; exact halike.waitReason
  · rw [hsame]; exact hoffset
  · rw [hsame]; exact halike.notices.recentStart
  · rw [hsame]; exact halike.notices.recentEnd
  · rw [hsame]; exact halike.notices.latched k l hk
  · rw [← hw] at hs hm ht
    obtain ⟨hs', hm', ht'⟩ := select_toggle b w hm ht
    have hline := halike.lines id (hs'.trans hs) hm' ht'
    rw [hout id (by rw [hline]; exact hm') (by rw [hline]; exact ht') (by rw [hline, hs', hs]; exact nofun), hline]

/-! ### What the stages leave of what selection reads -/

theorem evaluated_waitReason (s : State) : s.evaluated.waitReason = s.waitReason := by
  obtain ⟨a, b, c, d, e, f, g, h, i, j, k, l, hframe⟩ := evaluated_frame s
  rw [hframe]

theorem evaluated_pageInUse (s : State) : s.evaluated.model.pageInUse = s.model.pageInUse := by
  rw [evaluated_model, guided_model s (baseStage_model s)]

/-- Before the decisions of a calm event a state is like the one before the event, with the event's time and axes. -/
theorem State.Concludes.alike (hc : s.Concludes u t) (haxes : t.axes.az.emitted = u.evaluated.axes.az.emitted)
    (hnight : u.evaluated.night = s.night) (hfree : u.evaluated.free = s.free) :
    u.evaluated.Alike { s with time := { s.time with mountTime := s.nextEventTime }, axes := t.axes } where
  night := hnight
  free := hfree
  waitReason := (evaluated_waitReason u).trans hc.waitReason
  pageInUse := (evaluated_pageInUse u).trans (congrArg ModelTable.pageInUse hc.model)
  inForce := (evaluated_rest u).2.1.trans hc.inForce
  emitted := haxes.symm
  mountTime := (congrArg TimeBase.mountTime (evaluated_rest u).1).trans hc.mountTime
  notices := by
    obtain ⟨levels, n, rfl⟩ := hc.opens
    have h := (opened_hushed (levels := levels) n s).trans (evaluated_hushed _)
    exact ⟨h.latched, h.recentStart, h.recentEnd⟩
  lines id hs hm ht := by
    have hsilent := evaluated_silent (src := .targetStart) nofun nofun nofun u
    rw [← hc.lines] at hs
    rw [hsilent id hs, hc.lines]

/-- A calm event in WAITING leaves as the selection of it (R104). -/
theorem waiting_at_event (hc : s.Concludes u t) (he : s.engine = .waiting) (hnone : ∀ e ∈ s.night.entries, e.isActive = false) :
    s.LeavesAs t (State.select false { s with time := { s.time with mountTime := s.nextEventTime }, axes := t.axes }) := by
  have heu := hc.engine.trans he
  have hactive : u.activeEntry = none :=
    hc.activeEntry.trans (List.find?_eq_none.2 fun x hx => by rw [hnone x hx]; exact Bool.false_ne_true)
  have hengine : u.evaluated.engine = .waiting := by
    rw [evaluated_engine, baseStage_engine_iff (e := .waiting) nofun]
    exact heu
  have hd : u.decided = u.evaluated.select false := by
    unfold State.decided
    simp only [State.takeDecision, hengine]
  have haxes : t.axes = u.evaluated.axes := by
    obtain ⟨_, _, _, _, _, hsame⟩ := hc.same
    rw [hsame, hd]
    exact scan_axes false _ _
  have hfree : u.evaluated.free = s.free := by
    rw [evaluated_free, baseStage_of_held (.inr (.inl heu))]
    exact hc.free
  have halike := hc.alike (by rw [haxes]) ((evaluated_night_of_none hactive).trans hc.night) hfree
  exact hc.leavesAs (hd ▸ halike.select nofun) rfl

end Sys2Proof.Machine

/-! PROOFS. The ends of a FIXED target at a calm event, with any correction at work (R28, R79, R84, R85, R91, R111, R115,
R116). -/

namespace Sys2Proof.Machine

variable {s t u v : State} {levels : Inputs Bool} {e : Entry} {p : Axes Int} {w : Int} {o : EndOutcome}

/-! ### The stages of a FIXED target, followed or slewed to -/

/-- The base and the velocity that an event gives a FIXED target: its own past capture, the follower's in a slew. -/
def State.fixedBase (p : Axes Int) (w : Int) (s : State) (ax : Axis) : Int :=
  if s.engine.followsTarget then (fixedPositions p w).get ax
  else ((s.followTo (fixedPositions p w) (.const 0)).get ax).pos

def State.fixedVel (p : Axes Int) (w : Int) (s : State) (ax : Axis) : Int :=
  if s.engine.followsTarget then 0 else ((s.followTo (fixedPositions p w) (.const 0)).get ax).vel

/-- The offset that the stages want of the correction at that base, of G after the take, and of H (R79). -/
def State.offsetWanted (p : Axes Int) (w : Int) (s : State) : Axes Int :=
  let c := modelCorrection s.model.cells s.model.pageInUse (roundCounts (s.fixedBase p w .az))
    (roundCounts (s.fixedBase p w .el))
  let g := (s.guide.taken s.inForce.guideRange).offset
  ⟨c.az + g.az + s.axes.az.host, c.el + g.el + s.axes.el.host, s.axes.rot.host⟩

/-- The sum that the limit stage finds (R81, R84). -/
def State.fixedSum (p : Axes Int) (w : Int) (s : State) (ax : Axis) : Int :=
  roundCounts (s.fixedBase p w ax) + blend s.inForce.cstep ((s.offsetWanted p w).get ax) (s.axes.get ax).applied

/-- The entry is FIXED, in a target state, with an empty mailbox in a slew (R130). -/
structure State.Aimed (s : State) (e : Entry) (p : Axes Int) (w : Int) : Prop where
  active : s.activeEntry = some e
  kind : e.record.kind = .fixed p
  wrap : e.results.wrapOffset = some w
  target : s.engine.isTarget = true
  mailbox : s.engine.followsTarget = false → s.guide.mailbox = none

theorem slewing_of_target (ht : s.engine.isTarget = true) (hf : s.engine.followsTarget = false) :
    ∃ n az, s.engine = .slewing n az := by
  cases he : s.engine with
  | slewing n az => exact ⟨n, az, rfl⟩
  | _ => rw [he] at ht hf; first | exact absurd ht Bool.false_ne_true | exact absurd hf.symm Bool.false_ne_true

section
variable (h : s.Aimed e p w)
include h

theorem aimed_aim : s.aim = some (s, fixedPositions p w, .const 0) := aim_of_fixed h.active h.kind h.wrap

theorem aimed_base :
    s.baseStage.runout = false ∧ s.baseStage.state.night = s.night ∧ s.baseStage.state.free = s.free ∧
      ∀ ax, (s.baseStage.state.axes.get ax).base = s.fixedBase p w ax ∧
        (s.baseStage.state.axes.get ax).vel = s.fixedVel p w ax := by
  unfold State.fixedBase State.fixedVel
  cases hf : s.engine.followsTarget with
  | true =>
    rw [baseStage_followed (aimed_aim h) hf]
    exact ⟨rfl, rfl, rfl, fun ax => by cases ax <;> exact ⟨rfl, rfl⟩⟩
  | false =>
    obtain ⟨n, az, he⟩ := slewing_of_target h.target hf
    by_cases hin : ∀ ax, s.within ax (roundCounts ((fixedPositions p w).get ax)) = true
    · rw [baseStage_slewing (aimed_aim h) he hin]
      exact ⟨rfl, rfl, rfl, fun ax => by cases ax <;> exact ⟨rfl, rfl⟩⟩
    · rw [baseStage_offLimits (aimed_aim h) he hin]
      exact ⟨rfl, rfl, rfl, fun ax => by cases ax <;> exact ⟨rfl, rfl⟩⟩

/-- G after the stages (R130). -/
theorem aimed_offset : s.guided.guide.offset = (s.guide.taken s.inForce.guideRange).offset := by
  cases hf : s.engine.followsTarget with
  | true => rw [guided_guide hf (aimed_base h).1, (timed_offset _ _).1]
  | false =>
    obtain ⟨n, az, he⟩ := slewing_of_target h.target hf
    rw [guided_guide_of_slewing he, taken_of_none (h.mailbox hf)]

theorem aimed_wanted : s.guided.wantedOf s.baseStage.runout = s.offsetWanted p w := by
  obtain ⟨hr, _, _, haxis⟩ := aimed_base h
  have haz : s.baseStage.state.axes.az.base = s.fixedBase p w .az := (haxis .az).1
  have hel : s.baseStage.state.axes.el.base = s.fixedBase p w .el := (haxis .el).1
  obtain ⟨v, x1, x2, x3, x4, hframe⟩ := guided_frame s
  have hhost (ax : Axis) : (s.guided.axes.get ax).host = (s.axes.get ax).host := by
    have haxes : s.guided.axes = s.baseStage.state.axes := by rw [hframe]; rfl
    rw [haxes, (baseStage_host hr ax).1]
  have h1 : s.guided.axes.az.host = s.axes.az.host := hhost .az
  have h2 : s.guided.axes.el.host = s.axes.el.host := hhost .el
  have h3 : s.guided.axes.rot.host = s.axes.rot.host := hhost .rot
  rw [guided_wanted h.target hr, guided_model s (baseStage_model s), aimed_offset h, haz, hel, h1, h2, h3]
  rfl

theorem aimed_sum (ax : Axis) : (s.blended.axes.get ax).sum = s.fixedSum p w ax := by
  obtain ⟨hr, _, _, haxis⟩ := aimed_base h
  have happlied : (s.blended.axes.get ax).applied =
      blend s.inForce.cstep ((s.offsetWanted p w).get ax) (s.axes.get ax).applied := by
    rw [blended_axis_eq, aimed_wanted h, ← (baseStage_host hr ax).2]
    rfl
  rw [blended_sum, happlied, (haxis ax).1]
  rfl

/-- An axis after the event's stages, folded (R84, R91). -/
theorem aimed_folded (ax : Axis) :
    (s.evaluated.axes.get ax).fold =
      ⟨clamp (s.inForce.lower.get ax) (s.inForce.upper.get ax) (s.fixedSum p w ax) * 65536, s.fixedVel p w ax, 0, 0, 0,
        clamp (s.inForce.lower.get ax) (s.inForce.upper.get ax) (s.fixedSum p w ax),
        (s.evaluated.axes.get ax).emitted, (s.evaluated.axes.get ax).lag⟩ := by
  have hd := evaluated_demand s ax
  have hv := (evaluated_motion s ax).2
  rw [aimed_sum h] at hd
  rw [((aimed_base h).2.2.2 ax).2] at hv
  rw [← hd, ← hv]
  rfl

end

/-! ### What an end is decided from -/

/-- The state that an end is decided from is the evaluated one, but for what the entry counts, for an event of the line
sources and for the timers noted. -/
structure State.EndsFrom (s v : State) : Prop where
  same : ∃ a b c, v = { s.evaluated with night := a, lines := b, expiries := c }
  tally : ∃ f, s.evaluated.Tallied f v
  silent : ∀ src, src = .targetEnd ∨ src = .targetStart → s.evaluated.Silent src v

theorem endsFrom_evaluated (s : State) : s.EndsFrom s.evaluated := ⟨⟨_, _, _, rfl⟩, ⟨id, .of_night rfl⟩, fun _ _ _ _ => rfl⟩

theorem endsFrom_dwelt (s : State) : s.EndsFrom s.evaluated.dwelt := by
  refine ⟨⟨_, _, _, rfl⟩, ⟨id, .of_night rfl⟩, fun src hs => dwelt_silent ?_ _⟩
  rintro rfl
  rcases hs with h | h <;> cases h

theorem endsFrom_ranOut (h : s.EndsFrom v) (x : Expiry) : s.EndsFrom (v.ranOut x) := by
  obtain ⟨⟨a, b, c, hsame⟩, ⟨f, ht⟩, hsilent⟩ := h
  exact ⟨⟨a, b, c ++ [x], by rw [hsame]; rfl⟩, ⟨f, ht⟩, fun src hs id hid => hsilent src hs id hid⟩

theorem endsFrom_countHold (s : State) : s.EndsFrom s.evaluated.countHold :=
  ⟨⟨_, _, _, rfl⟩, ⟨_, onActive_tallied _ _⟩, fun _ _ _ _ => rfl⟩

theorem endsFrom_beforeEnd (s : State) : s.EndsFrom s.evaluated.beforeEnd := by
  unfold State.beforeEnd
  split
  · exact endsFrom_countHold s
  · exact endsFrom_evaluated s

/-- The decisions past capture on a position inside the limits (R115, R116). -/
theorem decided_of_clear (h : s.Aimed e p w) (hf : s.engine.followsTarget = true)
    (hclear : ∀ ax, s.within ax (s.fixedSum p w ax) = true) :
    s.evaluated.engine = s.engine ∧ s.baseStage.runout = false ∧ s.clampedNow = false ∧
      ∃ x, s.evaluated.activeEntry = some x ∧ x.record = e.record ∧ x.results.tally = e.results.tally.map s.eventTally := by
  obtain ⟨hr, hnight, _, _⟩ := aimed_base h
  have hengine : s.evaluated.engine = s.engine := by
    rw [evaluated_engine, baseStage_followed (aimed_aim h) hf]
    rfl
  exact ⟨hengine, hr, clampedNow_eq_false fun ax => by rw [aimed_sum h]; exact hclear ax,
    evaluated_record h.active hnight⟩

/-- What ends a FIXED target at an event, and as what (R85, R111, R115, R116). -/
inductive State.Ends (e : Entry) (p : Axes Int) (w : Int) (s : State) : EndOutcome → Prop where
  | complete {n : Nat} (he : s.engine = .tracking n) (hclear : ∀ ax, s.within ax (s.fixedSum p w ax) = true)
      (hd : e.record.dwell ≤ n + 1) (hh : ¬ (s.inputs.instHold.level = true ∧ 0 < e.record.maxHold)) : s.Ends e p w .complete
  | released {n : Nat} (he : s.engine = .holding n) (hclear : ∀ ax, s.within ax (s.fixedSum p w ax) = true)
      (hh : ¬ s.inputs.instHold.level = true) : s.Ends e p w .released
  | spent {n : Nat} {y : Tally} (he : s.engine = .holding n) (hclear : ∀ ax, s.within ax (s.fixedSum p w ax) = true)
      (hh : s.inputs.instHold.level = true) (hy : e.results.tally = some y) (hm : e.record.maxHold ≤ y.holdUsed + 1)
      (hw : y.holdUsed < 4294967295) : s.Ends e p w .holdExpired
  | timeout {n : Nat} {az : Int} (he : s.engine = .slewing n az)
      (hin : ∀ ax, s.within ax (roundCounts ((fixedPositions p w).get ax)) = true)
      (hc : s.captureTest (fixedPositions p w) (.const 0) (s.followTo (fixedPositions p w) (.const 0)) = false)
      (ht : s.inForce.slewTimeout ≤ (n + 1 : Nat)) : s.Ends e p w .slewTimeout
  | clamped (hf : s.engine.followsTarget = true) (hout : ¬ ∀ ax, s.within ax (s.fixedSum p w ax) = true) : s.Ends e p w .limit
  | offLimits {n : Nat} {az : Int} (he : s.engine = .slewing n az)
      (hout : ¬ ∀ ax, s.within ax (roundCounts ((fixedPositions p w).get ax)) = true) : s.Ends e p w .limit

theorem decided_of_ends (h : s.Aimed e p w) (hends : s.Ends e p w o) :
    ∃ v, s.EndsFrom v ∧ s.decided = v.endAndSelect o := by
  cases hends with
  | @complete n he hclear hd hh =>
    obtain ⟨hengine, hr, hc, x, hx, hrec, _⟩ := decided_of_clear h (by rw [he]; rfl) hclear
    refine ⟨_, endsFrom_dwelt s, ?_⟩
    rw [← hrec] at hd hh
    unfold State.decided
    rw [takeDecision_of_tracking (hengine.trans he), hr, hc]
    unfold State.decideTracking
    rw [hx, if_neg Bool.false_ne_true, if_neg Bool.false_ne_true]
    dsimp only [Option.map_some, Option.getD_some]
    rw [if_pos hd, dwellEnds_eq hx, (evaluated_rest s).2.2, if_neg hh]
  | @released n he hclear hh =>
    obtain ⟨hengine, hr, hc, _⟩ := decided_of_clear h (by rw [he]; rfl) hclear
    refine ⟨_, endsFrom_evaluated s, ?_⟩
    unfold State.decided
    rw [takeDecision_of_holding (hengine.trans he), hr, hc]
    unfold State.decideHolding
    rw [(evaluated_rest s).2.2, if_neg hh, if_neg Bool.false_ne_true, if_neg Bool.false_ne_true, if_neg hh]
  | @spent n y he hclear hh hy hm hw =>
    obtain ⟨hengine, hr, hc, x, hx, hrec, htally⟩ := decided_of_clear h (by rw [he]; rfl) hclear
    rw [hy] at htally
    have hspent := (holdSpent_iff hx htally).2 (by rw [hrec, eventTally_holdUsed]; omega)
    refine ⟨_, endsFrom_ranOut (endsFrom_countHold s) .holdExpired, ?_⟩
    unfold State.decided
    rw [takeDecision_of_holding (hengine.trans he), hr, hc]
    unfold State.decideHolding
    rw [(evaluated_rest s).2.2, if_pos hh, if_neg Bool.false_ne_true, if_neg Bool.false_ne_true, if_pos hh, if_pos hspent]
  | @timeout n az he hin hc ht =>
    have hbase := baseStage_slewing (aimed_aim h) he hin
    have hengine : s.evaluated.engine = .slewing (n + 1) (roundCounts (fixedPositions p w).az) := by
      rw [evaluated_engine, hbase]
      rfl
    refine ⟨_, endsFrom_ranOut (endsFrom_evaluated s) .slewTimeout, ?_⟩
    unfold State.decided
    rw [takeDecision_of_slewing hengine, hbase]
    unfold State.decideSlewing
    dsimp only
    rw [hc, if_neg Bool.false_ne_true, if_neg Bool.false_ne_true, if_neg Bool.false_ne_true, (evaluated_rest s).2.1, if_pos ht]
  | clamped hf hout =>
    refine ⟨_, endsFrom_beforeEnd s, decided_of_clamped hf (aimed_base h).1 (clampedNow_eq_true fun hall => hout fun ax => ?_)⟩
    rw [← aimed_sum h]
    exact hall ax
  | offLimits he hout => exact ⟨_, endsFrom_evaluated s, decided_of_offLimits (aimed_aim h) he hout⟩

end Sys2Proof.Machine

/-! PROOFS. The statement of selection, put together: the scan, a calm event in WAITING, and one that ends a FIXED target. -/

namespace Sys2Proof.Machine

variable {s t u v : State} {levels : Inputs Bool} {e x : Entry} {p : Axes Int} {w : Int} {o : EndOutcome}

/-! ### The end of the ACTIVE entry, as selection finds it -/

theorem endActive_flag (o : EndOutcome) (he : s.activeEntry = some e) : (s.endActive o).night.flag = s.night.flag := by
  rw [endActive_of_some he]
  have hflag : (State.give .targetEnd (s.endWritten o e)).night.flag = s.night.flag := rfl
  generalize State.give .targetEnd (s.endWritten o e) = v at hflag
  obtain ⟨x, y, z, h⟩ := setOnTarget_frame false v
  rw [h]
  exact hflag

/-- The notices of an end are those of TARGET_END and, where it falls, of ON_TARGET (R28, R147). -/
theorem endActive_hushed (o : EndOutcome) (he : s.activeEntry = some e) {m : State} (hm : m.Hushed s) :
    ({ State.raise .targetEnd m with
      notices := { (State.raise .targetEnd m).notices with recentEnd := some (e.record.id, o) } } : State).Hushed
        (s.endActive o) := by
  have hraised := hm.raise .targetEnd
  have hwritten : ({ State.raise .targetEnd m with
      notices := { (State.raise .targetEnd m).notices with recentEnd := some (e.record.id, o) } } : State).Hushed
        (State.give .targetEnd (s.endWritten o e)) :=
    ⟨hraised.latched, hraised.recentStart, rfl⟩
  rw [endActive_of_some he]
  exact hwritten.trans (setOnTarget_hushed false _)

/-- The list after the end of an entry that has only counted since `m` (R28, R31). -/
theorem endActive_night {m : State} {f : Tally → Tally} (hm : m.Tallied f s) (he : s.activeEntry = some x) (o : EndOutcome) :
    (s.endActive o).night =
      { m.night with entries := updateFirst Entry.isActive (fun _ => s.written o x) m.night.entries } := by
  have hnight : s.night = { m.night with entries := updateFirst Entry.isActive (Entry.onTally f) m.night.entries } := hm
  have hentries := (endActive_leaves o he).1.2.2.2.2.2
  have hflag := endActive_flag o he
  have hsame : updateFirst Entry.isActive (fun _ => s.written o x) s.night.entries =
      updateFirst Entry.isActive (fun _ => s.written o x) m.night.entries := by
    rw [hnight]
    exact updateFirst_updateFirst (g := Entry.onTally f) (fun x h => (isActive_onTally f x).trans h) _
  have heta : (s.endActive o).night = ⟨(s.endActive o).night.entries, (s.endActive o).night.flag⟩ := rfl
  rw [heta, hentries, hflag]
  refine congrArg₂ NightList.mk hsame ?_
  rw [hnight]

/-! ### A calm event that ends a FIXED target -/

/-- The state before the event, with the event's time and axes, and with the end written (R28, R42, R130). -/
def State.endedBy (s t : State) (o : EndOutcome) (e x : Entry) : State :=
  { s with
    time := { s.time with mountTime := s.nextEventTime }
    axes := t.axes
    free := s.free + e.chain.length
    guide := { s.guide with offset := (s.guide.taken s.inForce.guideRange).offset }
    notices := { (State.raise .targetEnd s).notices with recentEnd := some (e.record.id, o) }
    night := { s.night with entries := updateFirst Entry.isActive (fun _ => x) s.night.entries } }

theorem fixedEnd_at_event (hc : s.Concludes u t) (hguide : u.guide = s.guide) (h : u.Aimed e p w) (hends : u.Ends e p w o) :
    ∃ x : Entry, x.record = e.record ∧ x.status = .ended o ∧ x.chain = [] ∧
      x.results = { e.results with endedAt := some s.nextEventTime, tally := x.results.tally } ∧
      t.onTarget = false ∧ t.Noticed .targetEnd ∧ s.Flips .targetEnd t ∧
      (∀ ax, t.axes.get ax =
        ⟨clamp (s.inForce.lower.get ax) (s.inForce.upper.get ax) (u.fixedSum p w ax) * 65536, u.fixedVel p w ax, 0, 0, 0,
          clamp (s.inForce.lower.get ax) (s.inForce.upper.get ax) (u.fixedSum p w ax), (t.axes.get ax).emitted,
          (t.axes.get ax).lag⟩) ∧
      s.LeavesAs t (State.select true (s.endedBy t o e x)) := by
  obtain ⟨v, hfrom, hd⟩ := decided_of_ends h hends
  obtain ⟨⟨a, b, c, hsame⟩, ⟨f, htally⟩, hsilent⟩ := hfrom
  obtain ⟨hr, hnight, hfree, _⟩ := aimed_base h
  have hbase : s.Tallied id u.baseStage.state := .of_night (hnight.trans hc.night)
  have hcounted := (hbase.trans (evaluated_tallied u)).trans htally
  have hactive : s.activeEntry = some e := hc.activeEntry.symm.trans h.active
  have hv := hcounted.activeEntry hactive
  have htime : v.time = u.time := by
    rw [hsame]
    exact (evaluated_rest u).1
  have hvsilent (src : Source) (hs : src = .targetEnd ∨ src = .targetStart) : u.Silent src v :=
    (evaluated_silent (by rcases hs with rfl | rfl <;> exact nofun) (by rcases hs with rfl | rfl <;> exact nofun)
      (by rcases hs with rfl | rfl <;> exact nofun) u).trans (hsilent src hs)
  obtain ⟨hon, hnoticed, hflips, _⟩ := hc.endsAs (e := e) hd hv rfl (congrArg TimeBase.mountTime htime)
    (hvsilent _ (.inl rfl))
  have haxes : t.axes = u.evaluated.axes.map AxisState.fold := by
    rw [hc.endsAxes hd hv, hsame]
  have hended : (v.endActive o).axes = t.axes := by
    rw [(State.endActive_some v o hv).2.2.1, hc.endsAxes hd hv]
  have hmount : v.time.mountTime = s.nextEventTime := (congrArg TimeBase.mountTime htime).trans hc.mountTime
  refine ⟨v.written o (Entry.onTally (f ∘ u.eventTally ∘ id) e), rfl, rfl, rfl, ?_, hon, hnoticed, hflips, fun ax => ?_, ?_⟩
  · rw [← hmount]
    rfl
  · have hfolded := aimed_folded h ax
    rw [hc.inForce] at hfolded
    rw [haxes, get_map]
    exact hfolded
  · have hhushed : s.Hushed v := by
      obtain ⟨levels, n, rfl⟩ := hc.opens
      refine ((opened_hushed (levels := levels) n s).trans (evaluated_hushed _)).trans (.of_same ?_)
      rw [hsame]
    have halike : (v.endActive o).Alike (s.endedBy t o e (v.written o _)) :=
      { night := endActive_night hcounted hv o
        free := by
          rw [(State.endActive_some v o hv).2.2.2]
          have hvfree : v.free = s.free := by
            rw [hsame]
            exact (evaluated_free u).trans (hfree.trans hc.free)
          rw [hvfree]
          rfl
        waitReason := by
          rw [State.endActive_waitReason, hsame]
          exact (evaluated_waitReason u).trans hc.waitReason
        pageInUse := by
          rw [State.endActive_model, hsame]
          exact (evaluated_pageInUse u).trans (congrArg ModelTable.pageInUse hc.model)
        inForce := by
          rw [State.endActive_inForce, hsame]
          exact (evaluated_rest u).2.1.trans hc.inForce
        emitted := by
          rw [hended]
          rfl
        mountTime := by
          rw [State.endActive_time]
          exact hmount
        notices := by
          have hh := endActive_hushed o hv hhushed
          exact ⟨hh.latched, hh.recentStart, hh.recentEnd⟩
        lines := fun id hs hm ht => by
          have hs' : (u.lines.get id).source = .targetStart := by rw [hc.lines]; exact hs
          have hend : v.Silent .targetStart (v.endActive o) :=
            (acts_endActive (P := fun x => x = .targetEnd ∨ x = .onTargetFall) (.inl rfl) (.inr rfl) o).sounds.silent
              (by rintro (h | h) <;> cases h)
          rw [((hvsilent _ (.inr rfl)).trans hend) id hs', hc.lines]
          rfl }
    have hoffset (x : Entry) : (v.endActive o).guide.offset = (s.endedBy t o e x).guide.offset := by
      rw [(State.endActive_some v o hv).2.1]
      show v.guide.offset = (s.guide.taken s.inForce.guideRange).offset
      rw [hsame]
      show u.evaluated.guide.offset = _
      rw [evaluated_guide, aimed_offset h, hguide, hc.inForce]
    refine hc.leavesAs ?_ rfl
    rw [hd]
    exact halike.select fun _ => hoffset _

/-! ### From the state before the event to the one that the engine finds -/

section
variable (h : s.Opening u) (hguide : u.guide = s.guide)
include h

theorem opening_followTo (g r : Axes Int) : u.followTo g r = s.followTo g r := by
  unfold State.followTo
  rw [h.axes, h.inForce]

theorem opening_fixedBase : u.fixedBase p w = s.fixedBase p w ∧ u.fixedVel p w = s.fixedVel p w := by
  refine ⟨funext fun ax => ?_, funext fun ax => ?_⟩
  · unfold State.fixedBase
    rw [h.engine, opening_followTo h]
  · unfold State.fixedVel
    rw [h.engine, opening_followTo h]

include hguide

theorem opening_fixedSum : u.fixedSum p w = s.fixedSum p w := by
  funext ax
  unfold State.fixedSum State.offsetWanted
  rw [(opening_fixedBase h).1, h.model, hguide, h.inForce, h.axes]

theorem opening_ends (hends : s.Ends e p w o) : u.Ends e p w o := by
  have hsum := opening_fixedSum (p := p) (w := w) h hguide
  have hwithin (ax : Axis) (x : Int) : u.within ax x = s.within ax x := h.within ax x
  have hclear (hall : ∀ ax, s.within ax (s.fixedSum p w ax) = true) : ∀ ax, u.within ax (u.fixedSum p w ax) = true :=
    fun ax => by rw [hsum, hwithin]; exact hall ax
  have hback (hall : ∀ ax, u.within ax (u.fixedSum p w ax) = true) : ∀ ax, s.within ax (s.fixedSum p w ax) = true :=
    fun ax => by rw [← hsum, ← hwithin]; exact hall ax
  cases hends with
  | complete he hc hd hh => exact .complete (h.engine.trans he) (hclear hc) hd (by rw [h.inputs]; exact hh)
  | released he hc hh => exact .released (h.engine.trans he) (hclear hc) (by rw [h.inputs]; exact hh)
  | spent he hc hh hy hm hw => exact .spent (h.engine.trans he) (hclear hc) (by rw [h.inputs]; exact hh) hy hm hw
  | timeout he hin hc ht =>
    exact .timeout (h.engine.trans he) (fun ax => (hwithin _ _).trans (hin ax))
      ((captureTest_congr h.axes h.inForce _ _).trans hc) (by rw [h.inForce]; exact ht)
  | clamped hf hout => exact .clamped (by rw [h.engine]; exact hf) fun hall => hout (hback hall)
  | offLimits he hout =>
    exact .offLimits (h.engine.trans he) fun hall => hout fun ax => (hwithin _ _).symm.trans (hall ax)

end

theorem ends_target (hends : s.Ends e p w o) : s.engine.isTarget = true := by
  cases hends with
  | complete he => rw [he]; rfl
  | released he => rw [he]; rfl
  | spent he => rw [he]; rfl
  | timeout he => rw [he]; rfl
  | clamped hf => exact isTarget_of_followsTarget hf
  | offLimits he => rw [he]; rfl

/-- The ends written out (R85, R111, R115, R116). -/
theorem ends_of_cases
    (h : (∃ n, s.engine = .tracking n ∧ (∀ ax, s.within ax (s.fixedSum p w ax) = true) ∧ e.record.dwell ≤ n + 1 ∧
        ¬ (s.inputs.instHold.level = true ∧ 0 < e.record.maxHold) ∧ o = .complete) ∨
      (∃ n, s.engine = .holding n ∧ (∀ ax, s.within ax (s.fixedSum p w ax) = true) ∧ ¬ s.inputs.instHold.level = true ∧
        o = .released) ∨
      (∃ n y, s.engine = .holding n ∧ (∀ ax, s.within ax (s.fixedSum p w ax) = true) ∧ s.inputs.instHold.level = true ∧
        e.results.tally = some y ∧ e.record.maxHold ≤ y.holdUsed + 1 ∧ y.holdUsed < 4294967295 ∧ o = .holdExpired) ∨
      (∃ n az, s.engine = .slewing n az ∧ (∀ ax, s.within ax (roundCounts ((fixedPositions p w).get ax)) = true) ∧
        s.captureTest (fixedPositions p w) (.const 0) (s.followTo (fixedPositions p w) (.const 0)) = false ∧
        s.inForce.slewTimeout ≤ (n + 1 : Nat) ∧ o = .slewTimeout) ∨
      (s.engine.followsTarget = true ∧ ¬ (∀ ax, s.within ax (s.fixedSum p w ax) = true) ∧ o = .limit) ∨
      ((∃ n az, s.engine = .slewing n az) ∧
        ¬ (∀ ax, s.within ax (roundCounts ((fixedPositions p w).get ax)) = true) ∧ o = .limit)) : s.Ends e p w o := by
  rcases h with ⟨n, he, hc, hd, hh, rfl⟩ | ⟨n, he, hc, hh, rfl⟩ | ⟨n, y, he, hc, hh, hy, hm, hw, rfl⟩ |
    ⟨n, az, he, hin, hc, ht, rfl⟩ | ⟨hf, hout, rfl⟩ | ⟨⟨n, az, he⟩, hout, rfl⟩
  · exact .complete he hc hd hh
  · exact .released he hc hh
  · exact .spent he hc hh hy hm hw
  · exact .timeout he hin hc ht
  · exact .clamped hf hout
  · exact .offLimits he hout

/-- A calm event that ends a FIXED target, with any correction at work (R28, R79, R84, R85, R91, R111, R115, R116). -/
theorem fixedEnd_of_calm (hcalm : s.calm levels) (order : List Turn) (hconfig : s.ConfigLaw) (hlaw : s.GuideLaw)
    (hactive : s.activeEntry = some e) (hkind : e.record.kind = .fixed p) (hwrap : e.results.wrapOffset = some w)
    (hends : s.Ends e p w o) :
    ∃ (t : State) (x : Entry), exec (.demandEvent levels order) s = .next t ∧ x.record = e.record ∧ x.status = .ended o ∧
      x.chain = [] ∧ x.results = { e.results with endedAt := some s.nextEventTime, tally := x.results.tally } ∧
      t.onTarget = false ∧ t.Noticed .targetEnd ∧ s.Flips .targetEnd t ∧
      (∀ ax, t.axes.get ax =
        ⟨max (s.inForce.lower.get ax) (min (s.inForce.upper.get ax) (s.fixedSum p w ax)) * 65536, s.fixedVel p w ax, 0, 0, 0,
          max (s.inForce.lower.get ax) (min (s.inForce.upper.get ax) (s.fixedSum p w ax)), (t.axes.get ax).emitted,
          (t.axes.get ax).lag⟩) ∧
      s.LeavesAs t (State.select true (s.endedBy t o e x)) := by
  have ht := ends_target hends
  obtain ⟨u, hc⟩ := calm_computes hcalm (by intro h; rw [h] at ht; cases ht) (by intro h; rw [h] at ht; cases ht) order
  have hguide := hc.guide_of_law hlaw
  have haimed : u.Aimed e p w :=
    { active := hc.activeEntry.trans hactive
      kind := hkind
      wrap := hwrap
      target := hc.engine ▸ ht
      mailbox := fun hf => by
        rw [hguide]
        exact (hlaw.2.2.2 (hc.engine ▸ hf)).2 }
  obtain ⟨x, hrec, hst, hchain, hres, hon, hnoticed, hflips, haxes, hleaves⟩ :=
    fixedEnd_at_event hc hguide haimed (opening_ends hc.toOpening hguide hends)
  refine ⟨_, x, exec_demandEvent .., hrec, hst, hchain, hres, hon, hnoticed, hflips, fun ax => ?_, hleaves⟩
  have hle : s.inForce.lower.get ax ≤ s.inForce.upper.get ax := by
    have h := (hconfig.1.2 ax).2.1
    cases ax <;> exact h.le
  have hax := haxes ax
  rwa [opening_fixedSum hc.toOpening hguide, (opening_fixedBase hc.toOpening).2, clamp_eq_max_min hle] at hax

/-! ### O34 -/

/-- Settles O34: the scan by what stops it; a calm event by states alike for a selection. -/
theorem selectionScansFromHead : Obligations.SelectionScansFromHead := by
  unfold Obligations.SelectionScansFromHead
  refine ⟨fun afterEnd s _ => ⟨fun e p => findWrap_eq e p s, ?_⟩, fun levels order s hcalm => ⟨fun he hnone => ?_, ?_⟩⟩
  · obtain ⟨b, b', r, w, hscan, hstop⟩ := select_stops afterEnd s
    obtain ⟨hsel, hrecent⟩ := Stops.selected hscan hstop
    dsimp only
    generalize s.select afterEnd = t at *
    simp only [← findWrap_eq]
    refine ⟨fun e p => startPosition_fixed, fun e => startPosition_uncovered,
      fun e g last => startPosition_covered, hsel.enable, hsel.pool, hsel.frame, hsel.guide, hsel.flag,
      b, b', r, hscan.entries, hscan.passed.length_eq.symm, fun i e e' he he' => ?_, fun hnone => ?_, ?_⟩
    · obtain ⟨⟨h1, h2⟩, h3⟩ := passed_at hscan hrecent he he'
      exact ⟨h1, h2, h3⟩
    · exact hrecent.trans (hscan.lastEnd.1 hnone)
    · cases hstop with
      | empty => exact .inl ⟨rfl, Scanned.emptied hscan⟩
      | early hp ho hb hlt =>
        obtain ⟨_, hentries, _, hwaits, hboxes, _⟩ := Scanned.waits hscan .early afterEnd
        exact .inr ⟨_, _, rfl, hp, ho, .inl ⟨hentries, hwaits, (hboxes nofun).trans hscan.boxes, _, hb, hlt⟩⟩
      | noTrack hp ho hs =>
        obtain ⟨_, hentries, _, hwaits, hboxes, _⟩ := Scanned.waits (hscan.release hp) .noTrack afterEnd
        obtain ⟨hkind, hcov⟩ := startPosition_none hs
        exact .inr ⟨_, _, rfl, hp, ho.1,
          .inr ⟨ho.2, .inl ⟨hentries, hwaits, (hboxes nofun).trans hscan.boxes, hkind, hcov⟩⟩⟩
      | starts hp ho hs hk =>
        obtain ⟨_, hentries, _, hengine, hreason, hmodel, hlines, hboxes, hstart, hoffset⟩ :=
          Scanned.starts (hscan.release hp) hp
        exact .inr ⟨_, _, rfl, hp, ho.1, .inr ⟨ho.2, .inr ⟨_, _, hs, hk, hentries, hengine, hreason, hmodel, hlines,
          hboxes.trans (congrArg (fun x => x.map (NoticeBox.raise .targetStart)) hscan.boxes), hstart, hoffset⟩⟩⟩
  · obtain ⟨u, hc⟩ := calm_computes hcalm (by rw [he]; exact nofun) (by rw [he]; exact nofun) order
    exact ⟨_, exec_demandEvent .., waiting_at_event hc he hnone⟩
  · intro e p w o hconfig hlaw hactive hkind hwrap
    have hlevel : s.inputs.instHold.level = showsLevel levels .instHold := hcalm.2.1 .instHold
    dsimp only
    rw [← hlevel]
    have hrange : 0 ≤ s.inForce.guideRange := by
      have h := hlaw.1.1
      unfold magnitude at h
      omega
    have hoffset : (∀ box, s.guide.mailbox = some box → (s.guide.taken s.inForce.guideRange).offset =
        ⟨max (-s.inForce.guideRange) (min s.inForce.guideRange (s.guide.offset.az + box.correction.az)),
          max (-s.inForce.guideRange) (min s.inForce.guideRange (s.guide.offset.el + box.correction.el))⟩) ∧
        (s.guide.mailbox = none → (s.guide.taken s.inForce.guideRange).offset = s.guide.offset) := by
      unfold Guide.taken
      refine ⟨fun box hbox => ?_, fun hbox => by rw [hbox]⟩
      rw [hbox, cut_eq hrange]
      rfl
    have hall (hends : s.Ends e p w o) := fixedEnd_of_calm hcalm order hconfig hlaw hactive hkind hwrap hends
    cases hbox : s.guide.mailbox with
    | none =>
      intro hends
      have h := hall (ends_of_cases (by simp only [State.fixedSum, State.offsetWanted, hoffset.2 hbox]; exact hends))
      simp only [State.endedBy, State.fixedSum, State.offsetWanted, hbox, hoffset.2 hbox] at h
      exact h
    | some box =>
      intro hends
      have h := hall (ends_of_cases (by simp only [State.fixedSum, State.offsetWanted, hoffset.1 box hbox]; exact hends))
      simp only [State.endedBy, State.fixedSum, State.offsetWanted, hbox, hoffset.1 box hbox] at h
      exact h

end Sys2Proof.Machine

/-! PROOFS. What the turns of a demand event leave in STOPPED: nothing there moves the mount, ends an entry or gives FAULT
(R72, R150, R151, R172). -/

namespace Sys2Proof.Machine

variable {s t u : State}

/-! ### In STOPPED -/

/-- Between two states of STOPPED all stands but the inputs, the further faults, the enclosure, the lines, the notices and the
timers noted; of those, a park owed by the shelter condition stays so, and the lines of FAULT with no timer stand. -/
structure State.Halted (s t : State) : Prop where
  same : ∃ i f e l n x,
    t = { s with inputs := i, faults := f, enclosure := e, lines := l, notices := n, expiries := x }
  first : t.faults.first = s.faults.first
  recentEnd : t.notices.recentEnd = s.notices.recentEnd
  owed : s.enclosure.parkOwed = s.enclosure.shelter → t.enclosure.parkOwed = t.enclosure.shelter
  lines : ∀ id, (s.lines.get id).source = .fault → (s.lines.get id).timer = none → t.lines.get id = s.lines.get id

theorem State.Halted.of_same (h : ∃ i f e l n x,
      t = { s with inputs := i, faults := f, enclosure := e, lines := l, notices := n, expiries := x })
    (hf : t.faults.first = s.faults.first) (hn : t.notices.recentEnd = s.notices.recentEnd)
    (he : t.enclosure.parkOwed = s.enclosure.parkOwed ∧ t.enclosure.shelter = s.enclosure.shelter)
    (hl : t.lines = s.lines) : s.Halted t :=
  ⟨h, hf, hn, fun ho => he.1.trans (ho.trans he.2.symm), fun _ _ _ => by rw [hl]⟩

theorem State.Halted.refl (s : State) : s.Halted s := .of_same ⟨_, _, _, _, _, _, rfl⟩ rfl rfl ⟨rfl, rfl⟩ rfl

theorem State.Halted.trans (h : s.Halted t) (h' : t.Halted u) : s.Halted u where
  same := by
    obtain ⟨i, f, e, l, n, x, ht⟩ := h.same
    obtain ⟨i', f', e', l', n', x', hu⟩ := h'.same
    exact ⟨i', f', e', l', n', x', by rw [hu, ht]⟩
  first := h'.first.trans h.first
  recentEnd := h'.recentEnd.trans h.recentEnd
  owed ho := h'.owed (h.owed ho)
  lines id hs ht := by
    have heq := h.lines id hs ht
    rw [h'.lines id (heq ▸ hs) (heq ▸ ht), heq]

theorem State.Halted.engine (h : s.Halted t) : t.engine = s.engine := by
  obtain ⟨i, f, e, l, n, x, ht⟩ := h.same
  rw [ht]

theorem faultEvent_halts (k : FaultKind) (he : s.engine = .stopped) : s.Halted (s.faultEvent k) := by
  rw [faultEvent_stopped k he]
  refine .of_same ⟨_, _, _, _, _, _, rfl⟩ ?_ rfl ⟨rfl, rfl⟩ rfl
  show (if s.faults.second.isSome = true then _ else _ : FaultRecord).first = _
  split <;> rfl

theorem shelterRise_of_down (h : s.engine = .unset ∨ s.engine = .stopped) : s.shelterRise = s.withParkOwed true := by
  unfold State.shelterRise
  rcases h with h | h <;> rw [h]

theorem formShelter_halts (he : s.engine = .stopped) : s.Halted s.formShelter := by
  rcases formShelter_cases s with ⟨_, h⟩ | ⟨hsrc, h⟩ | ⟨hsrc, _, h⟩ <;> rw [h]
  · exact .refl s
  · exact ⟨⟨_, _, _, _, _, _, rfl⟩, rfl, rfl, fun _ => hsrc.symm, fun _ _ _ => rfl⟩
  · rw [shelterRise_of_down (s := s.shelterEdge) (.inr he)]
    exact ⟨⟨_, _, _, _, _, _, rfl⟩, rfl, rfl, fun _ => hsrc.symm, fun _ _ _ => rfl⟩

theorem filterInput_halts (i : Input) (he : s.engine = .stopped) : s.Halted (s.filterInput i) := by
  unfold State.filterInput
  dsimp only
  generalize (s.inputs.get i).sample (s.pins.get i == assertedHigh i) = f
  have hset : s.Halted { s with inputs := s.inputs.set i f } := .of_same ⟨_, _, _, _, _, _, rfl⟩ rfl rfl ⟨rfl, rfl⟩ rfl
  split
  · unfold State.faultIf
    split
    · exact hset.trans (faultEvent_halts _ he)
    · exact hset
  · split
    · exact hset.trans (formShelter_halts he)
    · exact hset

theorem judgeAlignment_halts (s : State) : s.Halted s.judgeAlignment := by
  obtain ⟨_, hshelter, howed, _⟩ := judgeAlignment_shelter s
  obtain ⟨x, y, h⟩ := judgeAlignment_frame s
  rw [h] at hshelter howed ⊢
  exact .of_same ⟨_, _, _, _, _, _, rfl⟩ rfl rfl ⟨howed, hshelter⟩ rfl

theorem lineTurn_halts (id : LineId) (s : State) : s.Halted (s.lineTurn id) := by
  have hframe : ∃ y, s.lineTurn id = { s with lines := (s.lineTurn id).lines, expiries := y } := by
    unfold State.lineTurn
    dsimp only
    split
    · split <;> exact ⟨_, rfl⟩
    · exact ⟨_, rfl⟩
  have hlines := lineTurn_lines id s
  obtain ⟨y, hy⟩ := hframe
  rw [hy]
  refine ⟨⟨_, _, _, _, _, _, rfl⟩, rfl, rfl, fun ho => ho, fun id' _ ht => ?_⟩
  show (s.lineTurn id).lines.get id' = _
  rw [hlines, lines_get_set]
  split
  · rename_i hid
    subst hid
    exact count_of_none ht
  · rfl

theorem secondTurn_halts (s : State) : s.Halted s.secondTurn := by
  unfold State.secondTurn
  split
  · refine ⟨⟨_, _, _, _, _, _, rfl⟩, rfl, rfl, fun ho => ho, fun id hs _ => ?_⟩
    rw [give_line]
    exact receive_of_ne (by rw [hs]; exact nofun)
  · exact .refl s

/-- Whatever turn is taken in STOPPED, the mount stays stopped (R72, R172). -/
theorem turn_halts (x : Turn) (he : s.engine = .stopped) : s.Halted (s.turn x) := by
  cases x with
  | filter i => exact filterInput_halts i he
  | engine =>
    show s.Halted s.engineTurn
    rw [engineTurn_of_down (.inr he)]
    exact judgeAlignment_halts s
  | line id => exact lineTurn_halts id s
  | second => exact secondTurn_halts s

theorem turns_halt (l : List Turn) (he : s.engine = .stopped) : s.Halted (l.foldl State.turn s) := by
  induction l generalizing s with
  | nil => exact .refl s
  | cons x rest ih =>
    have h := turn_halts x he
    exact h.trans (ih (h.engine.trans he))

/-! ### Notices latched -/

theorem turns_noticed {k : Notice} (l : List Turn) (h : s.Noticed k) : (l.foldl State.turn s).Noticed k := by
  refine Moves.keep (P := fun t => t.Noticed k) (fun v w hm hv => ?_) (turns_moves l s) h
  rcases move_signals hm with hm | ⟨id, rfl⟩
  · exact hm.noticed hv
  · exact hv

/-! ### A fault from a filter -/

/-- The inputs with one filter asserted, by two samples alike (R154). -/
def State.asserted (i : Input) (s : State) : State := { s with inputs := s.inputs.set i ⟨true, true⟩ }

/-- A filter that shows an asserted level twice takes it, and a fault input's rise with the enables on or in STOPPED is a
fault event (R154, R168). -/
theorem filterInput_faults {i : Input} {k : FaultKind} (hk : faultKindOf i = some k) (hl : (s.inputs.get i).level = false)
    (hp : (s.inputs.get i).previous = true) (hpin : (s.pins.get i == assertedHigh i) = true)
    (hon : s.enable = true ∨ s.engine = .stopped) : s.filterInput i = (s.asserted i).faultEvent k := by
  have hsample : (s.inputs.get i).sample true = ⟨true, true⟩ := by
    unfold Filter.sample
    rw [hl, hp]
    rfl
  have hor : (s.enable || decide (s.engine.state = .stopped)) = true := by
    rcases hon with h | h <;> rw [h]
    · rfl
    · exact Bool.or_true _
  unfold State.filterInput
  dsimp only
  rw [hpin, hsample, hk, hl, hor]
  rfl

end Sys2Proof.Machine

/-! PROOFS. What a fault event leaves outside STOPPED, at once and at the end of its demand event (R168 to R171). -/

namespace Sys2Proof.Machine

variable {s t u : State} {k : FaultKind}

/-! ### The fault stop -/

theorem EndLeaves.of_parts {o : EndOutcome} {e : Entry} (h : s.EndLeaves o e t) (hf : u.free = t.free)
    (ho : u.onTarget = t.onTarget) (hg : u.guide.state = t.guide.state ∧ u.guide.mailbox = t.guide.mailbox)
    (hn : u.notices.recentEnd = t.notices.recentEnd) (he : u.night.entries = t.night.entries) (ha : u.axes = t.axes) :
    s.EndLeaves o e u := by
  obtain ⟨⟨h1, h2, h3, h4, h5, h6⟩, h7⟩ := h
  exact ⟨⟨hf.trans h1, ho.trans h2, hg.1.trans h3, hg.2.trans h4, hn.trans h5, he.trans h6⟩, fun ax => ha ▸ h7 ax⟩

/-- What a fault event leaves outside STOPPED but for the lines and the notices (R158, R169 to R171). -/
structure State.FaultStops (k : FaultKind) (s t : State) : Prop where
  engine : t.engine = .stopped
  enable : t.enable = false
  first : t.faults.first = some ⟨k, s.time.mountTime, s.engine.state, s.activeId⟩
  flag : t.night.flag = false
  waitReason : t.waitReason = none
  offset : t.guide.offset = ⟨0, 0⟩
  steps : t.steps = s.steps.map StepOut.drop
  emitted : ∀ ax, (t.axes.get ax).emitted = (s.axes.get ax).emitted
  idle : s.activeEntry = none → t.axes = s.axes ∧ t.night.entries = s.night.entries
  ends : ∀ e, s.activeEntry = some e → s.EndLeaves .fault e t
  owed : s.ShelterLaw → t.enclosure.parkOwed = t.enclosure.shelter

theorem faultEvent_frame (k : FaultKind) (h : s.engine ≠ .stopped) : ∃ c n l,
    s.faultEvent k =
      { ((s.faultRecorded k).endActive .fault).halted with enclosure := c, notices := n, lines := l } ∧
      n.recentEnd = ((s.faultRecorded k).endActive .fault).notices.recentEnd := by
  rw [faultEvent_of_ne k h]
  show ∃ c n l, State.give .fault (State.raise .fault ((s.faultRecorded k).endActive .fault).halted.owesPark) = _ ∧ _
  generalize (s.faultRecorded k).endActive .fault = v
  obtain ⟨c, hc⟩ := owesPark_eq v.halted
  rw [hc]
  exact ⟨_, _, _, rfl, rfl⟩

theorem faultEvent_stops (k : FaultKind) (h : s.engine ≠ .stopped) : s.FaultStops k (s.faultEvent k) := by
  have hfirst := faultEvent_faults_of_ne k h
  have henclosure := faultEvent_enclosure k h
  have hsteps : ((s.faultRecorded k).endActive .fault).steps = s.steps := by simp [State.faultRecorded]
  have haxes := endActive_axes_cases .fault (s.faultRecorded k)
  have hidle := State.endActive_none (s.faultRecorded k) .fault
  have hends (e : Entry) := endActive_leaves (s := s.faultRecorded k) .fault (e := e)
  obtain ⟨c, n, l, hframe, hrecent⟩ := faultEvent_frame k h
  rw [hframe] at hfirst henclosure ⊢
  generalize (s.faultRecorded k).endActive .fault = v at *
  exact {
    engine := rfl
    enable := rfl
    first := congrArg FaultRecord.first hfirst
    flag := rfl
    waitReason := rfl
    offset := rfl
    steps := congrArg (fun x => x.map StepOut.drop) hsteps
    emitted := fun ax => by
      show (v.axes.get ax).emitted = _
      rcases haxes with ha | ha <;> rw [ha]
      · rfl
      · rw [get_map]
        rfl
    idle := fun hnone => by
      have hv := hidle hnone
      show v.axes = _ ∧ v.night.entries = _
      rw [hv]
      exact ⟨rfl, rfl⟩
    ends := fun e he => EndLeaves.of_parts (hends e he) rfl rfl ⟨rfl, rfl⟩ hrecent rfl rfl
    owed := fun hlaw => by
      show c.parkOwed = c.shelter
      have hc : c = { s.enclosure with parkOwed := s.enclosure.shelter || s.enclosure.parkOwed } := henclosure
      rw [hc]
      show (s.enclosure.shelter || s.enclosure.parkOwed) = s.enclosure.shelter
      cases howed : s.enclosure.parkOwed with
      | false => exact Bool.or_false _
      | true => rw [(hlaw.2.1 howed).1]; rfl }

/-- What follows in STOPPED leaves the stop as it is. -/
theorem State.FaultStops.halted (h : s.FaultStops k t) (h' : t.Halted u) : s.FaultStops k u := by
  have hf := h'.first.trans h.first
  have hrecent := h'.recentEnd
  have howed (hlaw : s.ShelterLaw) := h'.owed (h.owed hlaw)
  obtain ⟨i, f, c, l, n, x, hu⟩ := h'.same
  rw [hu] at hf hrecent howed ⊢
  exact ⟨h.engine, h.enable, hf, h.flag, h.waitReason, h.offset, h.steps, h.emitted, h.idle,
    fun e he => EndLeaves.of_parts (h.ends e he) rfl rfl ⟨rfl, rfl⟩ hrecent rfl rfl, howed⟩

theorem State.FaultStops.close (h : s.FaultStops k t) : s.FaultStops k t.closeEvent :=
  ⟨h.engine, h.enable, h.first, h.flag, h.waitReason, h.offset, h.steps, h.emitted, h.idle,
    fun e he => EndLeaves.of_parts (h.ends e he) rfl rfl ⟨rfl, rfl⟩ rfl rfl rfl, h.owed⟩

/-- A fault event outside STOPPED and the rest of its demand event. -/
theorem faultEvent_closes (k : FaultKind) (h : s.engine ≠ .stopped) (l : List Turn) :
    s.FaultStops k (l.foldl State.turn (s.faultEvent k)).closeEvent :=
  ((faultEvent_stops k h).halted (turns_halt l (faultEvent_stops k h).engine)).close

/-! ### Its notices and its lines -/

theorem endActive_noticed (o : EndOutcome) {e : Entry} (he : s.activeEntry = some e) : (s.endActive o).Noticed .targetEnd := by
  have hnotices := endActive_notices o he
  have hraised : Signalled (State.raise .targetEnd s)
      (if s.onTarget then State.raise .onTarget (State.raise .targetEnd s) else State.raise .targetEnd s) := by
    split
    · exact .raise _ .refl
    · exact .refl
  have hn := hraised.noticed (raise_noticed .targetEnd s)
  intro l
  rw [hnotices]
  exact hn l

theorem faultEvent_noticed (k : FaultKind) (h : s.engine ≠ .stopped) :
    (s.faultEvent k).Noticed .fault ∧ (s.activeEntry.isSome = true → (s.faultEvent k).Noticed .targetEnd) := by
  have hstopped (hsome : s.activeEntry.isSome = true) : (s.faultRecorded k).faultStopped.owesPark.Noticed .targetEnd := by
    obtain ⟨e, he⟩ := Option.isSome_iff_exists.1 hsome
    have hended : ((s.faultRecorded k).endActive .fault).Noticed .targetEnd := endActive_noticed .fault (s := s.faultRecorded k) he
    have hnotices : (s.faultRecorded k).faultStopped.notices = ((s.faultRecorded k).endActive .fault).notices := by
      unfold State.faultStopped
      generalize (s.faultRecorded k).endActive .fault = v
      rfl
    obtain ⟨c, hc⟩ := owesPark_eq (s.faultRecorded k).faultStopped
    intro l
    rw [hc]
    show ((s.faultRecorded k).faultStopped.notices.boxes.get l).latched &&& _ ≠ 0
    rw [hnotices]
    exact hended l
  rw [faultEvent_of_ne k h]
  generalize (s.faultRecorded k).faultStopped.owesPark = v at hstopped
  exact ⟨raise_noticed .fault v, fun hsome => (Signalled.give .fault (.raise .fault .refl)).noticed (hstopped hsome)⟩

theorem faultEvent_rings (k : FaultKind) (h : s.engine ≠ .stopped) : s.Rings .fault (s.faultEvent k) := by
  have hsilent : (s.faultRecorded k).Silent .fault (s.faultRecorded k).faultStopped :=
    (acts_faultStopped (P := (· ≠ .fault)) nofun nofun).sounds.silent fun h => h rfl
  have howes : (s.faultRecorded k).faultStopped.Silent .fault (s.faultRecorded k).faultStopped.owesPark :=
    (acts_owesPark (P := (· ≠ .fault))).sounds.silent fun h => h rfl
  have hring := (hsilent.trans howes).rings (give_rings .fault _)
  rw [faultEvent_of_ne k h]
  exact hring

/-- A fault event outside STOPPED flips the TOGGLE lines of FAULT once over its demand event, whatever follows (R155, R162). -/
theorem faultEvent_flips (k : FaultKind) (h : s.engine ≠ .stopped) (l : List Turn) :
    s.Flips .fault (l.foldl State.turn (s.faultEvent k)).closeEvent := by
  intro id hs hm ht
  have hring := faultEvent_rings k h id hs hm
  have hhalted := (turns_halt l (faultEvent_stops k h).engine).lines id (by rw [hring]; exact hs) (by rw [hring]; exact ht)
  show (((l.foldl State.turn (s.faultEvent k)).lines.map EventLine.unmark).get id).output = _
  rw [lines_map_get, hhalted, hring]
  rfl

end Sys2Proof.Machine

/-! PROOFS. A fault filtered at a demand event stops the mount, before or after the computation; a further one is recorded
(R155, R168 to R172). -/

namespace Sys2Proof.Machine

variable {s t u v w : State} {k : FaultKind} {i : Input} {levels : Inputs Bool}

/-! ### From the state before the event to the one that a first turn finds -/

theorem EndLeaves.from_parts {o : EndOutcome} {e : Entry} (h : v.EndLeaves o e t) (hf : v.free = w.free)
    (ht : v.time.mountTime = w.time.mountTime) (hg : v.guide.held = w.guide.held) (hn : v.night = w.night)
    (ha : v.axes = w.axes) : w.EndLeaves o e t := by
  obtain ⟨⟨h1, h2, h3, h4, h5, h6⟩, h7⟩ := h
  rw [hf] at h1
  rw [ht, hg, hn] at h6
  rw [ha] at h7
  exact ⟨⟨h1, h2, h3, h4, h5, h6⟩, h7⟩

theorem opened_held (n : Nat) (s : State) : (s.opened levels n).guide.held = s.guide.held := by
  rw [opened_guide]
  unfold Guide.held
  cases s.guide.mailbox <;> rfl

theorem asserted_shelterSources (hk : faultKindOf i = some k) (s : State) : (s.asserted i).shelterSources = s.shelterSources := by
  cases i <;> first | rfl | cases hk

theorem untilEvent_of_counting (h : s.counting) : ∃ n, s.time.untilEvent = some n := Option.isSome_iff_exists.1 h.2

theorem demandEvent_first {n : Nat} (hreset : s.resetLow = false) (hn : s.time.untilEvent = some n) (x : Turn) (rest : List Turn) :
    ∃ l : List Turn, s.demandEvent levels (x :: rest) = (l.foldl State.turn ((s.opened levels n).turn x)).closeEvent := by
  obtain ⟨l, hl⟩ := completeOrder_first x rest
  refine ⟨l, ?_⟩
  rw [demandEvent_eq hreset hn]
  unfold State.runEvent
  rw [hl]
  rfl

theorem demandEvent_two {n : Nat} (hreset : s.resetLow = false) (hn : s.time.untilEvent = some n) {x y : Turn} (h : y ≠ x)
    (rest : List Turn) :
    ∃ l : List Turn,
      s.demandEvent levels (x :: y :: rest) = (l.foldl State.turn (((s.opened levels n).turn x).turn y)).closeEvent := by
  obtain ⟨l, hl⟩ := completeOrder_two h rest
  refine ⟨l, ?_⟩
  rw [demandEvent_eq hreset hn]
  unfold State.runEvent
  rw [hl]
  rfl

/-- Of the state that a demand event opens with, what a fault taken first reads. -/
theorem opened_reads (n : Nat) (s : State) :
    (s.opened levels n).engine = s.engine ∧ (s.opened levels n).enable = s.enable ∧ (s.opened levels n).inputs = s.inputs ∧
      (s.opened levels n).pins = levels ∧ (s.opened levels n).night = s.night ∧ (s.opened levels n).axes = s.axes ∧
      (s.opened levels n).free = s.free ∧ (s.opened levels n).enclosure = s.enclosure ∧ (s.opened levels n).lines = s.lines ∧
      (s.opened levels n).faults = s.faults := by
  obtain ⟨y, z, h⟩ := opened_frame levels n s
  rw [h]
  exact ⟨rfl, rfl, rfl, rfl, rfl, rfl, rfl, rfl, rfl, rfl⟩

theorem drop_steps {x : Axes StepOut} (h : t.steps = x.map StepOut.drop) (ax : Axis) :
    (t.steps.get ax).schedule = none ∧ (t.steps.get ax).waiting = [] := by
  rw [h, get_map]
  exact ⟨rfl, rfl⟩

/-! ### In STOPPED -/

/-- Every pin but that of `i` shows its filtered level. -/
def State.Matched (levels : Inputs Bool) (i : Input) (s : State) : Prop :=
  s.pins = levels ∧ ∀ j, j ≠ i → (s.inputs.get j).level = showsLevel levels j

theorem sample_level (f : Filter) : (f.sample f.level).level = f.level := by
  unfold Filter.sample
  dsimp only
  rw [if_neg (by rintro ⟨h, _⟩; exact h rfl)]

/-- A filter whose pin shows its level gives no fault event. -/
theorem filterInput_faults_of_same {j : Input} (h : (s.inputs.get j).level = (s.pins.get j == assertedHigh j)) :
    (s.filterInput j).faults = s.faults := by
  unfold State.filterInput
  dsimp only
  rw [← h, sample_level]
  split
  · have hno : ((s.inputs.get j).level && !(s.inputs.get j).level) = false := by cases (s.inputs.get j).level <;> rfl
    rw [hno, Bool.false_and]
    rfl
  · split
    · simp
    · rfl

theorem matched_turn (h : s.Matched levels i) (x : Turn) : (s.turn x).Matched levels i := by
  refine ⟨(State.turn_pins s x).trans h.1, fun j hj => ?_⟩
  by_cases hx : x = .filter j
  · subst hx
    show ((s.filterInput j).inputs.get j).level = _
    have hlevel := h.2 j hj
    have hpin : (s.pins.get j == assertedHigh j) = (s.inputs.get j).level := by rw [hlevel, h.1]; rfl
    rw [State.filterInput_inputs, inputs_get_set, if_pos rfl, hpin, sample_level, hlevel]
  · rw [turn_input hx]
    exact h.2 j hj

theorem matched_turns (h : s.Matched levels i) (l : List Turn) : (l.foldl State.turn s).Matched levels i := by
  induction l generalizing s with
  | nil => exact h
  | cons x rest ih => exact ih (matched_turn h x)

theorem turn_faults_stopped (h : s.Matched levels i) (he : s.engine = .stopped) {x : Turn} (hx : x ≠ .filter i) :
    (s.turn x).faults = s.faults := by
  cases x with
  | filter j =>
    have hj : j ≠ i := fun heq => hx (heq ▸ rfl)
    refine filterInput_faults_of_same ?_
    rw [h.2 j hj, h.1]
    rfl
  | engine =>
    show s.engineTurn.faults = _
    rw [engineTurn_of_down (.inr he)]
    obtain ⟨x, y, h⟩ := judgeAlignment_frame s
    rw [h]
  | line id =>
    show (s.lineTurn id).faults = _
    unfold State.lineTurn
    dsimp only
    repeat' split
    all_goals rfl
  | second =>
    show s.secondTurn.faults = _
    unfold State.secondTurn
    split <;> rfl

theorem turns_faults_stopped (h : s.Matched levels i) (he : s.engine = .stopped) {l : List Turn} (hl : Turn.filter i ∉ l) :
    (l.foldl State.turn s).faults = s.faults := by
  induction l generalizing s with
  | nil => rfl
  | cons x rest ih =>
    obtain ⟨hx, hrest⟩ := not_or.1 (mt List.mem_cons.2 hl)
    exact (ih (matched_turn h x) ((turn_halts x he).engine.trans he) hrest).trans (turn_faults_stopped h he (Ne.symm hx))

/-- The record after a further fault (R172). -/
def FaultRecord.further (k : FaultKind) (t : Nat) (f : FaultRecord) : FaultRecord :=
  if f.second.isSome then { f with overflow := saturate 255 f.overflow 1 }
  else { f with second := some ⟨k, t, .stopped, none⟩ }

/-- A demand event in STOPPED at which one fault input rises: what it leaves, and one further fault recorded (R172). -/
theorem event_in_stopped {n : Nat} (hk : faultKindOf i = some k) (hreset : s.resetLow = false)
    (hn : s.time.untilEvent = some n) (he : s.engine = .stopped) (hl : (s.inputs.get i).level = false)
    (hp : (s.inputs.get i).previous = true)
    (hlevels : ∀ j : Input, showsLevel levels j = if j = i then true else (s.inputs.get j).level) (order : List Turn) :
    ∃ t, s.demandEvent levels order = t.closeEvent ∧ (s.opened levels n).Halted t ∧ t.Noticed .fault ∧
      t.faults = s.faults.further k s.nextEventTime := by
  obtain ⟨pre, post, hsplit, hpre, hpost⟩ := completeOrder_split (.filter i) order
  obtain ⟨hengine, _, hinputs, hpins, _, _, _, _, _, hfaults⟩ := opened_reads (levels := levels) n s
  have hmatched : (s.opened levels n).Matched levels i :=
    ⟨hpins, fun j hj => by rw [hinputs, hlevels, if_neg hj]⟩
  have hbefore := turns_halt pre (hengine.trans he)
  have hmatched' := matched_turns hmatched pre
  have hin := turns_input hpre (s.opened levels n)
  have hf := turns_faults_stopped hmatched (hengine.trans he) hpre
  have htime : (pre.foldl State.turn (s.opened levels n)).time.mountTime = s.nextEventTime := by
    obtain ⟨_, _, _, _, _, _, hu⟩ := hbefore.same
    rw [hu]
    exact opened_mountTime (levels := levels) hn
  have hrun : s.demandEvent levels order =
      (post.foldl State.turn ((pre.foldl State.turn (s.opened levels n)).turn (.filter i))).closeEvent := by
    rw [demandEvent_eq hreset hn]
    unfold State.runEvent
    rw [hsplit, List.foldl_append]
    rfl
  rw [hinputs] at hin
  rw [hfaults] at hf
  generalize pre.foldl State.turn (s.opened levels n) = v at *
  have hv : v.engine = .stopped := hbefore.engine.trans (hengine.trans he)
  have hpin : (v.pins.get i == assertedHigh i) = true := by
    rw [hmatched'.1]
    exact (hlevels i).trans (if_pos rfl)
  have hturn : v.turn (.filter i) = (v.asserted i).faultEvent k :=
    filterInput_faults hk (hin ▸ hl) (hin ▸ hp) hpin (.inr hv)
  have hfault := turn_halts (.filter i) hv
  have hstopped := hfault.engine.trans hv
  refine ⟨_, hrun, (hbefore.trans hfault).trans (turns_halt post hstopped), turns_noticed post ?_, ?_⟩
  · rw [hturn, faultEvent_stopped (s := v.asserted i) k hv]
    exact raise_noticed .fault _
  · rw [turns_faults_stopped (matched_turn hmatched' (.filter i)) hstopped hpost, hturn, faultEvent_stopped (s := v.asserted i) k hv]
    exact congrArg₂ (FaultRecord.further k) htime hf

/-! ### The obligation -/

/-- Settles O49: the fault stop of a first turn and of one after the computation is kept by the rest of the event. -/
theorem faultStopsTheMount : Obligations.FaultStopsTheMount := by
  unfold Obligations.FaultStopsTheMount
  refine ⟨fun i k levels rest s hk hcount henable hne hl hp hshows => ?_,
    fun i k levels rest s n hk hreset hn hl hp hshows => ?_, fun i k levels order s hk hcount he hl hp hlevels => ?_⟩
  · obtain ⟨n, hn⟩ := untilEvent_of_counting hcount
    obtain ⟨l, hrun⟩ := demandEvent_first (levels := levels) hcount.1 hn (.filter i) rest
    obtain ⟨hengine, hon, hinputs, hpins, hnight, haxes, hfree, henclosure, hlines, _⟩ := opened_reads (levels := levels) n s
    have htime := opened_mountTime (levels := levels) hn
    have hheld := opened_held (levels := levels) n s
    have hturn : (s.opened levels n).turn (.filter i) = ((s.opened levels n).asserted i).faultEvent k :=
      filterInput_faults hk (hinputs ▸ hl) (hinputs ▸ hp) (hpins ▸ hshows) (.inl (hon.trans henable))
    rw [hturn] at hrun
    have hsources := asserted_shelterSources hk (s.opened levels n)
    have hsame : (s.opened levels n).shelterSources = s.shelterSources := by
      unfold State.shelterSources
      rw [hinputs, henclosure]
    generalize s.opened levels n = v at *
    have hv : (v.asserted i).engine ≠ .stopped := fun h => hne (hengine.symm.trans h)
    have hstop := faultEvent_closes k hv l
    have hflips := faultEvent_flips k hv l
    obtain ⟨hnoticed, hended⟩ := faultEvent_noticed k hv
    have hnoticed := turns_noticed l hnoticed
    have hended (hsome) := turns_noticed l (hended hsome)
    have hactive : (v.asserted i).activeEntry = s.activeEntry := by
      show v.activeEntry = _
      unfold State.activeEntry
      rw [hnight]
    have hid : (v.asserted i).activeId = s.activeId := by
      unfold State.activeId
      rw [hactive]
    have hlaw (h : s.ShelterLaw) : (v.asserted i).ShelterLaw :=
      ShelterLaw.of_parts (s := s) (congrArg Engine.isDown hengine) (congrArg Enclosure.shelter henclosure)
        (congrArg Enclosure.parkOwed henclosure) (hsources.trans hsame) h
    have hends (e : Entry) (he : s.activeEntry = some e) :=
      hstop.ends e (hactive.trans he)
    refine ⟨_, (exec_demandEvent ..).trans (congrArg _ hrun), hstop.engine, hstop.enable, ?_, hstop.flag, hstop.waitReason,
      hstop.offset, fun hsome => ?_, fun ax => ?_, fun l => noticed_bit rfl hnoticed l, fun hnone => ?_, fun e he => ⟨?_, ?_⟩,
      fun h => hstop.owed (hlaw h), fun id hs hm ht => ?_⟩
    · rw [hstop.first, hid]
      show some (FaultEntry.mk k v.time.mountTime v.engine.state _) = _
      rw [htime, hengine]
    · obtain ⟨e, he⟩ := Option.ne_none_iff_exists'.1 hsome
      exact (hends e he).1.2.1
    · obtain ⟨h1, h2⟩ := drop_steps hstop.steps ax
      exact ⟨h1, h2, (hstop.emitted ax).trans (by rw [← haxes]; rfl)⟩
    · obtain ⟨h1, h2⟩ := hstop.idle (hactive.trans hnone)
      exact ⟨h1.trans haxes, h2.trans (congrArg NightList.entries hnight)⟩
    · exact EndLeaves.from_parts (hends e he) hfree htime hheld hnight haxes
    · exact noticed_bit rfl (hended (by rw [hactive, he]; rfl))
    · have h := hflips id
      rw [show (v.asserted i).lines = s.lines from hlines] at h
      exact h hs hm ht
  · intro computed hon hne
    obtain ⟨l, hrun⟩ := demandEvent_two (levels := levels) hreset hn (x := .engine) (y := .filter i) nofun rest
    obtain ⟨_, _, hinputs, hpins, _⟩ := opened_reads (levels := levels) n s
    have htime := opened_mountTime (levels := levels) hn
    have hinputs : computed.inputs = s.inputs := (State.engineTurn_inputs _).trans hinputs
    have hpins : computed.pins = levels := (State.engineTurn_pins _).trans hpins
    have htime : computed.time.mountTime = s.nextEventTime := (congrArg TimeBase.mountTime (State.engineTurn_time _)).trans htime
    have hturn : computed.turn (.filter i) = (computed.asserted i).faultEvent k :=
      filterInput_faults hk (hinputs ▸ hl) (hinputs ▸ hp) (hpins ▸ hshows) (.inl hon)
    have hrun : s.demandEvent levels (.engine :: .filter i :: rest) =
        (l.foldl State.turn ((computed.asserted i).faultEvent k)).closeEvent := by
      rw [hrun, ← hturn]
      rfl
    clear_value computed
    have hstop := faultEvent_closes (s := computed.asserted i) k hne l
    refine ⟨_, (exec_demandEvent ..).trans (congrArg _ hrun), hstop.engine, hstop.enable, ?_, fun ax => ?_, hstop.idle, hstop.ends⟩
    · rw [← htime]
      exact hstop.first
    · obtain ⟨h1, h2⟩ := drop_steps hstop.steps ax
      exact ⟨h1, h2, hstop.emitted ax⟩
  · obtain ⟨n, hn⟩ := untilEvent_of_counting hcount
    obtain ⟨t, hrun, hhalted, hnoticed, hfaults⟩ := event_in_stopped hk hcount.1 hn he hl hp hlevels order
    obtain ⟨hengine, _, _, _, hnight, haxes, _, _, hlines, hf⟩ := opened_reads (levels := levels) n s
    have hsame : t.axes = s.axes ∧ t.night = s.night ∧ t.steps = (s.opened levels n).steps := by
      obtain ⟨_, _, _, _, _, _, hu⟩ := hhalted.same
      rw [hu]
      exact ⟨haxes, hnight, rfl⟩
    refine ⟨_, (exec_demandEvent ..).trans (congrArg _ hrun), hhalted.engine.trans (hengine.trans he),
      hhalted.first.trans (congrArg FaultRecord.first hf), hsame.1, hsame.2.1, ?_, fun hnone => ?_, fun f hsome => ?_,
      fun l => noticed_bit rfl hnoticed l, fun id hs ht => ?_⟩
    · rw [hn]
      exact hsame.2.2
    · unfold FaultRecord.further at hfaults
      rw [hnone] at hfaults
      show t.faults.second = _ ∧ t.faults.overflow = _
      rw [hfaults]
      exact ⟨rfl, rfl⟩
    · unfold FaultRecord.further at hfaults
      rw [hsome] at hfaults
      show t.faults.second = _ ∧ t.faults.overflow = _
      rw [hfaults]
      exact ⟨rfl, rfl⟩
    · show ((t.lines.map EventLine.unmark).get id).output = _
      have hline := hhalted.lines id
      rw [hlines] at hline
      rw [lines_map_get, hline hs ht]
      rfl

end Sys2Proof.Machine

/-! PROOFS. An edge of the shelter condition by the engine state, and ENC_REPORT (R123, R140, R149 to R152). -/

namespace Sys2Proof.Machine

variable {s t u : State}

/-! ### A rise by the engine state -/

theorem formShelter_of_same (h : s.shelterSources = s.enclosure.shelter) : s.formShelter = s := if_pos h

theorem formShelter_of_fall (hs : s.enclosure.shelter = true) (h : s.shelterSources = false) :
    s.formShelter = s.shelterEdge.withParkOwed false := by
  rcases formShelter_cases s with ⟨he, _⟩ | ⟨_, hf⟩ | ⟨he, _⟩
  · rw [hs, h] at he
    cases he
  · exact hf
  · rw [h] at he
    cases he

theorem formShelter_of_rise (hs : s.enclosure.shelter = false) (h : s.shelterSources = true) :
    s.formShelter = s.shelterEdge.shelterRise := by
  rcases formShelter_cases s with ⟨he, _⟩ | ⟨he, _⟩ | ⟨_, _, hf⟩
  · rw [hs, h] at he
    cases he
  · rw [h] at he
    cases he
  · exact hf

theorem shelterRise_of_parked (h : s.engine = .parking ∨ s.engine = .parked) : s.shelterRise = s := by
  unfold State.shelterRise
  rcases h with h | h <;> rw [h]

/-- The engine is at rest or comes to rest: IDLE, WAITING or STOPPING (R150). -/
def Engine.rests (e : Engine) : Prop := e = .idle ∨ e = .waiting ∨ ∃ d, e = .stopping d

theorem shelterRise_of_rests (h : s.engine.rests) : s.shelterRise = s.enterParking := by
  unfold State.shelterRise
  rcases h with h | h | ⟨d, h⟩ <;> rw [h]

theorem shelterRise_of_target (h : s.engine.isTarget = true) : s.shelterRise = (s.endActive .shelter).enterParking := by
  unfold State.shelterRise
  cases he : s.engine <;> first | rfl | (rw [he] at h; cases h)

/-- What a rise of the shelter condition leaves, by the engine state it finds (R123, R150, R151). -/
structure State.ShelterRises (s t : State) : Prop where
  shelter : t.enclosure.shelter = true
  noticed : t.Noticed .shelter
  time : t.time = s.time
  steps : t.steps = s.steps
  inForce : t.inForce = s.inForce
  pins : t.pins = s.pins
  inputs : t.inputs = s.inputs
  sources : t.shelterSources = true
  silent : s.Silent .parked t
  emitted : ∀ ax, (t.axes.get ax).emitted = (s.axes.get ax).emitted
  down : s.engine = .unset ∨ s.engine = .stopped →
    t.enclosure.parkOwed = true ∧ t.engine = s.engine ∧ t.axes = s.axes ∧ t.night = s.night
  parks : s.engine = .parking ∨ s.engine = .parked →
    t.enclosure.parkOwed = s.enclosure.parkOwed ∧ t.engine = s.engine ∧ t.axes = s.axes ∧ t.night = s.night ∧
      t.enable = s.enable
  leaves : s.engine.rests ∨ s.engine.isTarget = true →
    t.enclosure.parkOwed = s.enclosure.parkOwed ∧ t.engine = .parking ∧ t.enable = true ∧ t.waitReason = none ∧
      t.guide.offset = ⟨0, 0⟩ ∧ t.night.flag = false ∧ t.axes = s.axes.map AxisState.fold
  rests : s.engine.rests → t.night.entries = s.night.entries ∧ t.notices.recentEnd = s.notices.recentEnd
  ends : ∀ e, s.engine.isTarget = true → s.activeEntry = some e →
    s.EndLeaves .shelter e t ∧ t.Noticed .targetEnd ∧ s.Rings .targetEnd t

theorem formShelter_noticed (hs : s.enclosure.shelter = false) (h : s.shelterSources = true) : s.formShelter.Noticed .shelter := by
  have hedge : s.shelterEdge.Noticed .shelter := raise_noticed .shelter _
  have hrise : Signalled s.shelterEdge s.shelterEdge.shelterRise := by
    generalize s.shelterEdge = v
    rcases shelterRise_cases v with ⟨_, h⟩ | ⟨_, h⟩ | ⟨_, h⟩ | ⟨_, h⟩ <;> rw [h]
    · exact (endActive_signals .shelter v).trans (enterParking_signals _)
    · exact enterParking_signals v
    · exact .refl
    · exact .same .refl ⟨rfl, rfl, rfl, rfl, rfl, rfl, rfl, rfl, rfl⟩
  rw [formShelter_of_rise hs h]
  exact hrise.noticed hedge

theorem endPark_rings (o : EndOutcome) {e : Entry} (he : s.activeEntry = some e) :
    s.Rings .targetEnd (s.endActive o).enterParking ∧ (s.endActive o).enterParking.Noticed .targetEnd := by
  have hring := endActive_rings o he
  have hnoticed := endActive_noticed o he
  generalize s.endActive o = v at hring hnoticed
  exact ⟨hring, hnoticed⟩

/-- A rise of the shelter condition. -/
theorem formShelter_rises (hs : s.enclosure.shelter = false) (h : s.shelterSources = true) : s.ShelterRises s.formShelter := by
  have hnoticed := formShelter_noticed hs h
  have hrise := formShelter_of_rise hs h
  have haside := formShelter_aside s
  have hreport := formShelter_report s
  have hemitted (ax : Axis) : (s.formShelter.axes.get ax).emitted = (s.axes.get ax).emitted := by
    rcases haside.axes with ha | ⟨ha, _⟩ <;> rw [ha]
    rw [get_map]
    rfl
  have hsources : s.formShelter.shelterSources = true :=
    (shelterSources_of_parts hreport.1 (State.formShelter_inputs s)).trans h
  have hsilent : s.Silent .parked s.formShelter :=
    (acts_formShelter (P := (· ≠ .parked)) nofun nofun).sounds.silent fun h => h rfl
  have hengine : s.shelterEdge.engine = s.engine := rfl
  have henclosure : s.shelterEdge.enclosure = { s.enclosure with shelter := true } :=
    congrArg (fun b => ({ s.enclosure with shelter := b } : Enclosure)) h
  have hshelter : s.formShelter.enclosure.shelter = true := by
    rw [hrise]
    rcases shelterRise_cases s.shelterEdge with ⟨_, h⟩ | ⟨_, h⟩ | ⟨_, h⟩ | ⟨_, h⟩ <;> rw [h]
    · show ((s.shelterEdge.endActive .shelter).enclosure).shelter = _
      rw [State.endActive_enclosure, henclosure]
    · show s.shelterEdge.enclosure.shelter = _
      rw [henclosure]
    · rw [henclosure]
    · show s.shelterEdge.enclosure.shelter = _
      rw [henclosure]
  refine ⟨hshelter, hnoticed, by simp, by simp, by simp, by simp, by simp, hsources, hsilent, hemitted, fun hdown => ?_,
    fun hparks => ?_, fun hleaves => ?_, fun hrests => ?_, fun e ht he => ?_⟩
  · rw [hrise, shelterRise_of_down (s := s.shelterEdge) hdown]
    exact ⟨rfl, rfl, rfl, rfl⟩
  · rw [hrise, shelterRise_of_parked (s := s.shelterEdge) hparks]
    exact ⟨rfl, rfl, rfl, rfl, rfl⟩
  · rcases hleaves with hrests | ht
    · rw [hrise, shelterRise_of_rests (s := s.shelterEdge) hrests]
      exact ⟨rfl, rfl, rfl, rfl, rfl, rfl, rfl⟩
    · rw [hrise, shelterRise_of_target (s := s.shelterEdge) ht]
      have haxes := endActive_enterParking_axes .shelter s.shelterEdge
      have howed : (s.shelterEdge.endActive .shelter).enclosure = s.shelterEdge.enclosure := State.endActive_enclosure _ _
      generalize s.shelterEdge.endActive .shelter = v at haxes howed
      have howed : v.enclosure.parkOwed = s.shelterEdge.enclosure.parkOwed := congrArg Enclosure.parkOwed howed
      exact ⟨howed, rfl, rfl, rfl, rfl, rfl, haxes⟩
  · rw [hrise, shelterRise_of_rests (s := s.shelterEdge) hrests]
    exact ⟨rfl, rfl⟩
  · rw [hrise, shelterRise_of_target (s := s.shelterEdge) ht]
    have hends := (endPark_leaves .shelter (s := s.shelterEdge) he).1
    obtain ⟨hrings, hended⟩ := endPark_rings .shelter (s := s.shelterEdge) he
    generalize (s.shelterEdge.endActive .shelter).enterParking = v at *
    exact ⟨EndLeaves.from_parts hends rfl rfl rfl rfl rfl, hended, hrings⟩

/-! ### ENC_REPORT -/

/-- The report replaced (R140). -/
def State.reporting (slit : Nat) (flag : Bool) (s : State) : State :=
  { s with enclosure := { s.enclosure with report := some ⟨slit, flag, 0⟩ } }

/-- The report replaced and the shelter condition formed. -/
def State.reported (slit : Nat) (flag active : Bool) (s : State) : State :=
  { s with enclosure := { s.enclosure with report := some ⟨slit, flag, 0⟩, shelter := active } }

theorem bitOfCode_flag {b : Byte} (h : b.toNat ≤ 1) : bitOfCode b = some (decide (b.toNat = 1)) := by
  obtain ⟨x, hx⟩ := (bitOfCode_isSome b).2 (by omega)
  rw [hx]
  refine congrArg some ?_
  rw [Bool.eq_iff_iff, decide_eq_true_eq]
  exact bitOfCode_eq_some hx

theorem encReport_refused {slit : BitVec 32} {flag : Byte} (h : 16777215 < slit.toNat ∨ 1 < flag.toNat) (s : State) :
    encReport slit flag s = (s, .only .badValue) := by
  unfold encReport
  rcases h with h | h
  · cases bitOfCode flag with
    | none => rfl
    | some b => exact if_pos h
  · rw [bitOfCode_eq_none h]

theorem encReport_accepted {slit : BitVec 32} {flag : Byte} (hslit : slit.toNat ≤ 16777215) (hflag : flag.toNat ≤ 1)
    (h : (s.reporting slit.toNat (decide (flag.toNat = 1))).formShelter = t) :
    encReport slit flag s = (t, ⟨.ok, .encAccepted t.engine.state t.enclosure.shelter t.enclosure.parkOwed⟩) := by
  unfold encReport
  rw [bitOfCode_flag hflag]
  dsimp only
  rw [if_neg (by omega)]
  subst h
  rfl

theorem reporting_sources (slit : Nat) (flag : Bool) (s : State) :
    (s.reporting slit flag).shelterSources = (s.inputs.shelter.level || flag) := rfl

theorem reporting_edge {slit : Nat} {flag active : Bool} (h : (s.inputs.shelter.level || flag) = active) :
    (s.reporting slit flag).shelterEdge = State.raise .shelter (s.reported slit flag active) := by
  subst h
  rfl

end Sys2Proof.Machine

/-! PROOFS. A computation in PARKING: what it leaves of the offsets, the guide unit and the reports (R79, R81, R84, R120). -/

namespace Sys2Proof.Machine

variable {s t u v : State} {levels : Inputs Bool}

/-- A computation in PARKING decides the arrival or nothing (R121). -/
theorem parking_decided (he : s.engine = .parking) : ∃ a b c n l d,
    s.computeEvent = { s.evaluated with axes := a, engine := b, enable := c, notices := n, lines := l, model := d } ∧
      n.recentEnd = s.evaluated.notices.recentEnd ∧
      ∀ ax, ∃ m, a.get ax = (s.evaluated.axes.get ax).withMotion m := by
  have hengine : s.evaluated.engine = .parking := by
    rw [evaluated_engine]
    exact (baseStage_engine_iff (e := .parking) nofun s).2 he
  have hstands (a : AxisState) : a = a.withMotion a.motion := rfl
  rw [computeEvent_eq, takeDecision_of_parking hengine]
  split
  · refine ⟨_, _, _, _, _, _, rfl, rfl, fun ax => ⟨⟨s.evaluated.inForce.park.get ax * fineUnits, 0⟩, ?_⟩⟩
    cases ax <;> rfl
  · exact ⟨_, _, _, _, _, _, rfl, rfl, fun ax => ⟨_, hstands _⟩⟩

theorem parking_base (he : s.engine = .parking) :
    s.baseStage.runout = false ∧ s.baseStage.state.free = s.free ∧ s.baseStage.state.guide = s.guide := by
  rw [baseStage_of_parking he]
  exact ⟨rfl, rfl, rfl⟩

theorem guided_guide_of_parking (he : s.engine = .parking) : s.guided.guide = s.guide := by
  have hengine : s.baseStage.state.correctionStage.engine.followsTarget = false := by
    show s.baseStage.state.engine.followsTarget = false
    rw [(baseStage_engine_iff (e := .parking) nofun s).2 he]
    rfl
  unfold State.guided State.guideStage
  rw [if_neg (by rw [hengine]; exact Bool.false_ne_true)]
  exact (parking_base he).2.2

theorem parkArrives_silent (s : State) : s.Silent .targetEnd s.parkArrives := by
  intro id hs
  show (s.lines.map (EventLine.receive s.time.eventDue .parked)).get id = _
  rw [lines_map_get]
  exact receive_of_ne (by rw [hs]; exact nofun)

/-- What a computation in PARKING leaves of the list's room, the guide unit and the reports (R120, R145). -/
theorem computeEvent_parking_rest (he : s.engine = .parking) :
    s.computeEvent.free = s.free ∧ s.computeEvent.guide = s.guide ∧ s.computeEvent.onTarget = false ∧
      s.computeEvent.waitReason = s.waitReason ∧ s.computeEvent.notices.recentEnd = s.notices.recentEnd ∧
      s.Silent .targetEnd s.computeEvent := by
  have hfree := (evaluated_free s).trans (parking_base he).2.1
  have hguide := (evaluated_guide s).trans (guided_guide_of_parking he)
  have hengine : s.evaluated.engine = .parking := by
    rw [evaluated_engine]
    exact (baseStage_engine_iff (e := .parking) nofun s).2 he
  have hon := evaluated_onTarget_false (s := s) (by rw [hengine]; rfl)
  have hwait := evaluated_waitReason s
  have hrecent := (evaluated_hushed s).recentEnd
  have hdecided : s.evaluated.Silent .targetEnd (s.evaluated.takeDecision s.baseStage s.clampedNow) := by
    rw [takeDecision_of_parking hengine]
    split
    · exact parkArrives_silent _
    · exact fun _ _ => rfl
  have hsilent : s.Silent .targetEnd s.computeEvent := by
    rw [computeEvent_eq]
    exact (evaluated_silent (src := .targetEnd) nofun nofun nofun s).trans hdecided
  obtain ⟨a, b, c, n, l, d, hframe, hn, _⟩ := parking_decided he
  refine ⟨?_, ?_, ?_, ?_, ?_, hsilent⟩ <;> rw [hframe]
  · exact hfree
  · exact hguide
  · exact hon
  · exact hwait
  · exact hn.trans hrecent

/-- The rounded position of a follower inside the limits is inside them. -/
theorem clamp_roundCounts {lower upper x : Int} (hlow : lower * 65536 ≤ x) (hup : x ≤ upper * 65536) :
    clamp lower upper (roundCounts x) = roundCounts x := by
  rw [roundCounts_eq]
  unfold clamp
  rw [if_neg (by omega), if_neg (by omega)]

/-- In PARKING with no offset at work the demand of an axis is the follower's position (R79, R84, R120). -/
theorem computeEvent_parking_axis (he : s.engine = .parking) (ax : Axis) (hcstep : 0 ≤ s.inForce.cstep)
    (hvmax : 1 ≤ s.inForce.vmax.get ax) (hle : s.inForce.lower.get ax ≤ s.inForce.upper.get ax)
    (happlied : (s.axes.get ax).applied = 0) (hhost : (s.axes.get ax).host = 0) :
    (s.computeEvent.axes.get ax).demand =
        roundCounts (followStep (s.inForce.lower.get ax) (s.inForce.upper.get ax) (s.inForce.acc.get ax)
          (s.inForce.vmax.get ax) (s.inForce.park.get ax * 65536) 0 ⟨(s.axes.get ax).base, (s.axes.get ax).vel⟩).pos ∧
      (s.computeEvent.axes.get ax).applied = 0 ∧ (s.computeEvent.axes.get ax).host = 0 ∧
      (s.computeEvent.axes.get ax).wanted = 0 := by
  obtain ⟨_, _, _, hmag, hlow, hup⟩ := follower_axis (s.inForce.lower.get ax) (s.inForce.upper.get ax) (s.inForce.acc.get ax)
    (s.inForce.vmax.get ax) (s.inForce.park.get ax * 65536) 0 ⟨(s.axes.get ax).base, (s.axes.get ax).vel⟩ hvmax hle
  have hbase : (s.baseStage.state.axes.get ax).base =
      (followStep (s.inForce.lower.get ax) (s.inForce.upper.get ax) (s.inForce.acc.get ax)
        (s.inForce.vmax.get ax) (s.inForce.park.get ax * 65536) 0 ⟨(s.axes.get ax).base, (s.axes.get ax).vel⟩).pos := by
    rw [baseStage_of_parking he]
    cases ax <;> rfl
  obtain ⟨hhost', happlied'⟩ := baseStage_host (parking_base he).1 ax
  have hblend := blended_axis_eq s ax
  have hsum := blended_sum s ax
  have haxis := evaluated_axis s ax
  have hwanted : (s.guided.wantedOf s.baseStage.runout).get ax = 0 := by
    obtain ⟨v, w, x, y, z, h⟩ := guided_frame s
    have hengine : s.guided.engine.isTarget = false := by
      rw [h]
      show s.baseStage.state.engine.isTarget = false
      rw [(baseStage_engine_iff (e := .parking) nofun s).2 he]
      rfl
    unfold State.wantedOf
    rw [hengine]
    cases ax <;> rfl
  have hzero : (s.blended.axes.get ax).applied = 0 := by
    rw [hblend, hwanted]
    show blend s.inForce.cstep 0 (s.baseStage.state.axes.get ax).applied = 0
    rw [happlied', happlied, blend_zero hcstep]
  rw [hbase, hzero, Int.add_zero] at hsum
  obtain ⟨a, b, c, n, l, d, hframe, _, hmotion⟩ := parking_decided he
  obtain ⟨m, hm⟩ := hmotion ax
  rw [hframe]
  show (a.get ax).demand = _ ∧ (a.get ax).applied = 0 ∧ (a.get ax).host = 0 ∧ (a.get ax).wanted = 0
  rw [hm, haxis]
  refine ⟨?_, hzero, ?_, ?_⟩
  · show clamp _ _ (s.blended.axes.get ax).sum = _
    rw [hsum]
    exact clamp_roundCounts hlow hup
  · show (s.blended.axes.get ax).host = 0
    rw [hblend]
    exact hhost'.trans hhost
  · show (s.blended.axes.get ax).wanted = 0
    rw [hblend]
    exact hwanted

end Sys2Proof.Machine

/-! PROOFS. A rise of the shelter condition by its filter at a demand event, before and after the computation (R123, R150,
R155). -/

namespace Sys2Proof.Machine

variable {s t u v w : State} {levels : Inputs Bool}

/-! ### The order of the turns -/

theorem completeOrder_engine {l : List Turn} {x : Turn} {order : List Turn} (h : completeOrder order = x :: l) :
    (x = .engine → Turn.engine ∉ l) ∧ (x ≠ .engine → ∃ pre post, l = pre ++ .engine :: post ∧ .engine ∉ pre ∧ .engine ∉ post) := by
  obtain ⟨pre, post, hsplit, hpre, hpost⟩ := completeOrder_split .engine order
  rw [h] at hsplit
  cases pre with
  | nil =>
    injection hsplit with hx hl
    exact ⟨fun _ => hl ▸ hpost, fun hne => absurd hx hne⟩
  | cons y pre =>
    injection hsplit with hx hl
    subst hx
    obtain ⟨hy, hpre⟩ := not_or.1 (mt List.mem_cons.2 hpre)
    exact ⟨fun he => absurd he.symm hy, fun _ => ⟨pre, post, hl, hpre, hpost⟩⟩

/-- A filter's turn first, then the turns of the others and the engine's. -/
theorem demandEvent_filter_first {n : Nat} (hreset : s.resetLow = false) (hn : s.time.untilEvent = some n) (i : Input)
    (rest : List Turn) : ∃ pre post : List Turn, Turn.engine ∉ pre ∧ Turn.engine ∉ post ∧
      s.demandEvent levels (.filter i :: rest) =
        (post.foldl State.turn (pre.foldl State.turn ((s.opened levels n).filterInput i)).engineTurn).closeEvent := by
  obtain ⟨l, hl⟩ := completeOrder_first (.filter i) rest
  obtain ⟨pre, post, hsplit, hpre, hpost⟩ := (completeOrder_engine hl).2 nofun
  refine ⟨pre, post, hpre, hpost, ?_⟩
  rw [demandEvent_eq hreset hn]
  unfold State.runEvent
  rw [hl, hsplit, List.foldl_cons, List.foldl_append]
  rfl

/-- The engine's turn first, a filter's next, then the turns of the others. -/
theorem demandEvent_engine_first {n : Nat} (hreset : s.resetLow = false) (hn : s.time.untilEvent = some n) (i : Input)
    (rest : List Turn) : ∃ l : List Turn, Turn.engine ∉ l ∧
      s.demandEvent levels (.engine :: .filter i :: rest) =
        (l.foldl State.turn ((s.opened levels n).engineTurn.filterInput i)).closeEvent := by
  obtain ⟨l, hl⟩ := completeOrder_two (x := .engine) (y := .filter i) nofun rest
  refine ⟨l, fun hmem => (completeOrder_engine hl).1 rfl (List.mem_cons_of_mem _ hmem), ?_⟩
  rw [demandEvent_eq hreset hn]
  unfold State.runEvent
  rw [hl]
  rfl

/-! ### The shelter filter -/

/-- The shelter filter that shows its level twice takes it, and the condition is formed again (R149, R154). -/
theorem filterInput_shelter (hl : (s.inputs.get .shelter).level = false) (hp : (s.inputs.get .shelter).previous = true)
    (hpin : (s.pins.get .shelter == assertedHigh .shelter) = true) :
    s.filterInput .shelter = (s.asserted .shelter).formShelter := by
  have hsample : (s.inputs.get .shelter).sample true = ⟨true, true⟩ := by
    unfold Filter.sample
    rw [hl, hp]
    rfl
  unfold State.filterInput
  dsimp only
  rw [hpin, hsample]
  rfl

/-- The shelter condition is not active, its filter has sampled its level once, and every other pin shows its filtered
level. -/
structure State.Shelters (levels : Inputs Bool) (s : State) : Prop where
  shelter : s.enclosure.shelter = false
  level : (s.inputs.get .shelter).level = false
  previous : (s.inputs.get .shelter).previous = true
  pins : s.pins = levels
  shows : ∀ i : Input, showsLevel levels i = if i = .shelter then true else (s.inputs.get i).level

theorem State.Shelters.rises (h : s.Shelters levels) :
    (s.asserted .shelter).ShelterRises (s.filterInput .shelter) ∧ (s.filterInput .shelter).Quiet levels := by
  have hpin : (s.pins.get .shelter == assertedHigh .shelter) = true := by
    rw [h.pins]
    exact (h.shows .shelter).trans (if_pos rfl)
  have hrises : (s.asserted .shelter).ShelterRises (s.asserted .shelter).formShelter := formShelter_rises h.shelter rfl
  rw [filterInput_shelter h.level h.previous hpin]
  refine ⟨hrises, hrises.pins.trans h.pins, fun i => ?_, hrises.sources.trans hrises.shelter.symm⟩
  rw [hrises.inputs, h.shows]
  show ((s.inputs.set .shelter ⟨true, true⟩).get i).level = _
  rw [inputs_get_set]
  by_cases hi : i = .shelter
  · rw [if_pos hi.symm, if_pos hi]
  · rw [if_neg (Ne.symm hi), if_neg hi]

theorem State.Shelters.opened (n : Nat) (hs : s.enclosure.shelter = false) (hl : (s.inputs.get .shelter).level = false)
    (hp : (s.inputs.get .shelter).previous = true)
    (hlevels : ∀ i : Input, showsLevel levels i = if i = .shelter then true else (s.inputs.get i).level) :
    (s.opened levels n).Shelters levels := by
  obtain ⟨y, z, h⟩ := opened_frame levels n s
  rw [h]
  exact ⟨hs, hl, hp, rfl, hlevels⟩

theorem State.Shelters.engineTurn (h : s.Shelters levels) : s.engineTurn.Shelters levels := by
  have hin : s.engineTurn.inputs = s.inputs := State.engineTurn_inputs s
  refine ⟨(engineTurn_shelter s).2.1.trans h.shelter, ?_, ?_, (State.engineTurn_pins s).trans h.pins, ?_⟩ <;> rw [hin]
  · exact h.level
  · exact h.previous
  · exact h.shows

/-! ### The end of the event -/

theorem flips_of_rings {σ : Side} {src : Source} (hlines : v.lines = s.lines) (hb : u.side.Beside σ) (hne : src ≠ .second)
    (h : v.Rings src u) : s.Flips src (u.withSide σ).closeEvent := by
  intro id hs hm ht
  have hline := h id (hlines ▸ hs) (hlines ▸ hm)
  rw [hlines] at hline
  rw [beside_output hb (by rw [hline]; exact hm) (by rw [hline]; exact ht) (by rw [hline]; exact hs ▸ hne), hline]

theorem engineTurn_noticed {k : Notice} (h : s.Noticed k) : s.engineTurn.Noticed k := turns_noticed [.engine] h

theorem noticed_of_bit {k : Notice} {i : Nat} (hk : k.bit.getLsbD i = true)
    (h : ∀ l, (t.notices.boxes.get l).latched.getLsbD i = true) : t.Noticed k := by
  intro l hzero
  have hbit := congrArg (fun b => b.getLsbD i) hzero
  rw [BitVec.getLsbD_and, h l, hk] at hbit
  simp at hbit

/-- Outside the target states a lawful cycle has no ACTIVE entry (R25). -/
theorem activeEntry_of_not_target (hs : s.CycleLaw) (h : s.engine.isTarget = false) : s.activeEntry = none := by
  obtain ⟨hlen, _⟩ := hs
  rw [h] at hlen
  have hnil := List.length_eq_zero_iff.1 (hlen.trans (if_neg Bool.false_ne_true))
  refine activeEntry_of_none fun e he => ?_
  by_contra hactive
  exact List.filter_eq_nil_iff.1 hnil e he (by simpa using hactive)

/-- The items in force at a demand event that opens lawfully (R190). -/
theorem opened_lawful (n : Nat) (h : s.ConfigLaw) : itemsLawful (s.opened levels n).inForce.get := by
  obtain ⟨y, z, hframe⟩ := elapse_frame n s
  unfold State.opened
  rw [openEvent_inForce, hframe]
  exact h.2

end Sys2Proof.Machine

/-! PROOFS. O38: ENC_REPORT, and the rise of the shelter condition by its filter (R123, R140, R149 to R152, R155). -/

namespace Sys2Proof.Machine

variable {s t u v w : State} {levels : Inputs Bool} {σ : Side}

/-! ### The engine's turn after a rise, by the engine state -/

/-- After a rise in UNSET or STOPPED the engine's turn computes nothing. -/
theorem turn_after_down (h : v.ShelterRises w) (he : v.engine = .unset ∨ v.engine = .stopped) :
    w.engineTurn.enclosure.parkOwed = true ∧ w.engineTurn.engine = v.engine ∧ w.engineTurn.axes = v.axes ∧
      w.engineTurn.night = v.night := by
  obtain ⟨howed, hengine, haxes, hnight⟩ := h.down he
  rw [(engineTurn_shelter w).2.2, engineTurn_of_down (by rw [hengine]; exact he)]
  obtain ⟨x, y, hj⟩ := judgeAlignment_frame w
  rw [hj]
  exact ⟨howed, hengine, haxes, hnight⟩

/-- A computation in PARKED moves nothing and ends nothing (R73, R87). -/
theorem computeEvent_parked (he : s.engine = .parked) (hnone : s.activeEntry = none) :
    s.computeEvent.engine = .parked ∧ s.computeEvent.night = s.night ∧
      ∀ ax, (s.computeEvent.axes.get ax).base = (s.axes.get ax).base := by
  have hbase := (computeEvent_held (.inr (.inr he))).1
  have hnight := evaluated_night_of_none hnone
  have hengine : s.evaluated.engine = .parked := by
    rw [evaluated_engine]
    exact (baseStage_engine_iff (e := .parked) nofun s).2 he
  have hdecide : s.evaluated.takeDecision s.baseStage s.clampedNow = s.evaluated := by simp only [State.takeDecision, hengine]
  refine ⟨?_, ?_, fun ax => (hbase ax).1⟩ <;> rw [computeEvent_eq, hdecide]
  · exact hengine
  · exact hnight

theorem turn_after_parked (h : v.ShelterRises w) (he : v.engine = .parked) (hnone : w.activeEntry = none) :
    w.engineTurn.enclosure.parkOwed = v.enclosure.parkOwed ∧ w.engineTurn.engine = .parked ∧ w.engineTurn.night = v.night ∧
      ∀ ax, (w.engineTurn.axes.get ax).base = (v.axes.get ax).base := by
  obtain ⟨howed, hengine, haxes, hnight, _⟩ := h.parks (.inr he)
  have hw : w.engine = .parked := hengine.trans he
  obtain ⟨h1, h2, h3⟩ := computeEvent_parked hw hnone
  rw [(engineTurn_shelter w).2.2, engineTurn_of_ne (by rw [hw]; exact nofun) (by rw [hw]; exact nofun)]
  exact ⟨howed, h1, h2.trans hnight, fun ax => (h3 ax).trans (by rw [haxes])⟩

/-- The motion that the first follower step of a park starts from: the folded base, but in PARKING the base that stands. -/
def State.parkStart (v : State) (ax : Axis) : Motion :=
  ⟨if v.engine = .parking then (v.axes.get ax).base else (v.axes.get ax).demand * 65536, (v.axes.get ax).vel⟩

/-- A rise sends the mount to the park position from the folded base, or leaves it on its way (R93, R123). -/
theorem rise_parks (h : v.ShelterRises w) (hon : v.EnableLaw) (hu : v.engine ≠ .unset) (hs : v.engine ≠ .stopped)
    (hp : v.engine ≠ .parked) :
    w.enclosure.parkOwed = v.enclosure.parkOwed ∧ w.engine = .parking ∧ w.enable = true ∧
      (∀ ax, (⟨(w.axes.get ax).base, (w.axes.get ax).vel⟩ : Motion) = v.parkStart ax) ∧
      (v.engine = .parking → w.night = v.night) ∧
      (v.engine ≠ .parking → v.engine.rests ∨ v.engine.isTarget = true) := by
  by_cases hpark : v.engine = .parking
  · obtain ⟨howed, hengine, haxes, hnight, henable⟩ := h.parks (.inl hpark)
    refine ⟨howed, hengine.trans hpark, ?_, fun ax => ?_, fun _ => hnight, fun hne => absurd hpark hne⟩
    · rw [henable, hon, hpark]
      rfl
    · unfold State.parkStart
      rw [if_pos hpark, haxes]
  · have hgo : v.engine.rests ∨ v.engine.isTarget = true := by
      unfold Engine.rests
      cases he : v.engine with
      | unset => exact absurd he hu
      | stopped => exact absurd he hs
      | parked => exact absurd he hp
      | parking => exact absurd he hpark
      | idle => exact .inl (.inl rfl)
      | waiting => exact .inl (.inr (.inl rfl))
      | stopping d => exact .inl (.inr (.inr ⟨d, rfl⟩))
      | slewing | settling | tracking | holding => exact .inr rfl
    obtain ⟨howed, hengine, henable, _, _, _, haxes⟩ := h.leaves hgo
    refine ⟨howed, hengine, henable, fun ax => ?_, fun he => absurd he hpark, fun _ => hgo⟩
    unfold State.parkStart
    rw [if_neg hpark, haxes, get_map]
    rfl

/-- What a rise writes of an end stays through the computation in PARKING. -/
theorem endWrites_parking {e : Entry} (hw : w.engine = .parking) (hnone : w.activeEntry = none) (h : s.EndWrites .shelter e w) :
    s.EndWrites .shelter e w.computeEvent := by
  obtain ⟨hfree, hguide, hon, _, hrecent, _⟩ := computeEvent_parking_rest hw
  have hnight := (computeEvent_parking hw hnone).1
  obtain ⟨h1, _, h3, h4, h5, h6⟩ := h
  exact ⟨hfree.trans h1, hon, (congrArg Guide.state hguide).trans h3, (congrArg Guide.mailbox hguide).trans h4,
    hrecent.trans h5, (congrArg NightList.entries hnight).trans h6⟩

/-! ### The row -/

/-- ENC_REPORT by the shelter condition and the engine state (R140, R150 to R152). -/
theorem encReport_row (slit : BitVec 32) (flag : Byte) (s : State) (hready : s.ready .enclosure) :
    (16777215 < slit.toNat ∨ 1 < flag.toNat →
      exec (.encReport slit flag) s = .next (s.answered .enclosure 0xF0 .badValue .none)) ∧
    (slit.toNat ≤ 16777215 → flag.toNat ≤ 1 → ∀ t : State,
      (s.reporting slit.toNat (decide (flag.toNat = 1))).formShelter = t →
      exec (.encReport slit flag) s =
        .next (t.answered .enclosure 0xF0 .ok (.encAccepted t.engine.state t.enclosure.shelter t.enclosure.parkOwed))) := by
  have hdo (t : State) (a : Answer) (h : encReport slit flag s = (t, a)) :
      exec (.encReport slit flag) s = .next (t.answered .enclosure 0xF0 a.status a.fields) :=
    congrArg Host.Outcome.next (State.request_of_ready hready h)
  exact ⟨fun h => hdo s (.only .badValue) (encReport_refused h s),
    fun hslit hflag t h => hdo t _ (encReport_accepted hslit hflag h)⟩

end Sys2Proof.Machine

/-! PROOFS. O38 settled: the row and the filter (R123, R140, R149 to R152, R155). -/

namespace Sys2Proof.Machine

variable {s t u v w : State} {levels : Inputs Bool} {σ : Side}

/-- In a rise of the condition the row's edge is raised on the state reported. -/
theorem reporting_rises {slit : Nat} {flag : Bool} (hs : s.enclosure.shelter = false)
    (h : (s.inputs.shelter.level || flag) = true) :
    (s.reporting slit flag).formShelter = (State.raise .shelter (s.reported slit flag true)).shelterRise := by
  rw [formShelter_of_rise (s := s.reporting slit flag) hs h, reporting_edge h]

/-- An end toward PARKING taken from a state that differs in the enclosure and the notices. -/
theorem endPark_reported (slit : Nat) (flag : Bool) {e : Entry} (he : s.activeEntry = some e) :
    let r := State.raise .shelter (s.reported slit flag true)
    let t := (r.endActive .shelter).enterParking
    s.EndLeaves .shelter e t ∧ r.EndKeeps t ∧ t.enclosure = r.enclosure ∧ t.engine = .parking ∧ t.enable = true ∧
      t.waitReason = none ∧ t.guide.offset = ⟨0, 0⟩ ∧ t.night.flag = false ∧ t.time = s.time ∧ t.steps = s.steps := by
  dsimp only
  obtain ⟨h1, h2, h3, h4, h5, h6, h7⟩ := endPark_leaves .shelter (s := State.raise .shelter (s.reported slit flag true)) he
  obtain ⟨_, _, _, htime, _, henclosure, _, _, hsteps, _⟩ := id h2
  generalize ((State.raise .shelter (s.reported slit flag true)).endActive .shelter).enterParking = t at *
  exact ⟨EndLeaves.from_parts h1 rfl rfl rfl rfl rfl, h2, henclosure, h3, h4, h5, h6, h7, htime, hsteps⟩

/-- A filtered rise taken first, and the rest of its demand event (R150, R155). -/
theorem shelter_taken_first {n : Nat} (hreset : s.resetLow = false) (hn : s.time.untilEvent = some n)
    (hshelters : (s.opened levels n).Shelters levels) (rest : List Turn) : ∃ w σ,
      s.demandEvent levels (.filter .shelter :: rest) = (w.engineTurn.withSide σ).closeEvent ∧
        w.engineTurn.side.Beside σ ∧ ((s.opened levels n).asserted .shelter).ShelterRises w ∧ (s.CycleLaw → w.CycleLaw) := by
  obtain ⟨pre, post, hpre, hpost, hrun⟩ := demandEvent_filter_first (levels := levels) hreset hn .shelter rest
  obtain ⟨hrises, hquiet⟩ := hshelters.rises
  obtain ⟨σ, hσ, hb⟩ := quiet_closes hquiet hpre hpost
  refine ⟨_, σ, hrun.trans hσ, hb, hrises, fun hlaw => ?_⟩
  have hpin : ((s.opened levels n).pins.get .shelter == assertedHigh .shelter) = true := by
    rw [hshelters.pins]
    exact (hshelters.shows .shelter).trans (if_pos rfl)
  rw [filterInput_shelter hshelters.level hshelters.previous hpin]
  refine cycleLaw_formShelter ?_
  obtain ⟨y, z, hframe⟩ := opened_frame levels n s
  rw [hframe]
  exact hlaw

/-- A filtered rise taken after the computation, and the rest of its demand event. -/
theorem shelter_taken_next {n : Nat} (hreset : s.resetLow = false) (hn : s.time.untilEvent = some n)
    (hshelters : (s.opened levels n).Shelters levels) (rest : List Turn) : ∃ w σ,
      s.demandEvent levels (.engine :: .filter .shelter :: rest) = (w.withSide σ).closeEvent ∧
        w.side.Beside σ ∧ ((s.opened levels n).engineTurn.asserted .shelter).ShelterRises w := by
  obtain ⟨l, hl, hrun⟩ := demandEvent_engine_first (levels := levels) hreset hn .shelter rest
  obtain ⟨hrises, hquiet⟩ := hshelters.engineTurn.rises
  obtain ⟨σ, hσ, hb⟩ := quiet_turns hquiet hl ((s.opened levels n).engineTurn.filterInput .shelter).side
  rw [withSide_side] at hσ
  exact ⟨_, σ, hrun.trans (congrArg State.closeEvent hσ), hb, hrises⟩

/-- The computation that follows a rise toward PARKING (R109, R120, R121). -/
theorem turn_after_rise (hw : w.engine = .parking) (hon : w.enable = true) (hnone : w.activeEntry = none)
    (hstart : ∀ ax, (⟨(w.axes.get ax).base, (w.axes.get ax).vel⟩ : Motion) = v.parkStart ax) :
    let m : Axes Motion := Axes.of fun ax =>
      followStep (w.inForce.lower.get ax) (w.inForce.upper.get ax) (w.inForce.acc.get ax) (w.inForce.vmax.get ax)
        (w.inForce.park.get ax * 65536) 0 (v.parkStart ax)
    let arrives := ∀ ax : Axis, magnitude (w.inForce.park.get ax * 65536 - (m.get ax).pos) ≤ w.inForce.capturePos * 65536 ∧
      magnitude (m.get ax).vel ≤ w.inForce.captureRate
    w.engineTurn = w.computeEvent ∧
    (¬ arrives → w.computeEvent.engine = .parking ∧ w.computeEvent.enable = true ∧
      ∀ ax, (w.computeEvent.axes.get ax).base = (m.get ax).pos ∧ (w.computeEvent.axes.get ax).vel = (m.get ax).vel) ∧
    (arrives → w.computeEvent.engine = .parked ∧ w.computeEvent.enable = false ∧ w.computeEvent.Noticed .night ∧
      w.Rings .parked w.computeEvent ∧
      ∀ ax : Axis, (w.computeEvent.axes.get ax).base = w.inForce.park.get ax * 65536 ∧ (w.computeEvent.axes.get ax).vel = 0) := by
  obtain ⟨_, hstays, harrives⟩ := computeEvent_parking hw hnone
  have hm : (Axes.of fun ax =>
      followStep (w.inForce.lower.get ax) (w.inForce.upper.get ax) (w.inForce.acc.get ax) (w.inForce.vmax.get ax)
        (w.inForce.park.get ax * 65536) 0 ⟨(w.axes.get ax).base, (w.axes.get ax).vel⟩) = Axes.of fun ax =>
      followStep (w.inForce.lower.get ax) (w.inForce.upper.get ax) (w.inForce.acc.get ax) (w.inForce.vmax.get ax)
        (w.inForce.park.get ax * 65536) 0 (v.parkStart ax) := by
    simp only [hstart]
  rw [hm] at hstays harrives
  refine ⟨engineTurn_of_ne (by rw [hw]; exact nofun) (by rw [hw]; exact nofun), fun h => ?_, fun h => ?_⟩
  · obtain ⟨h1, h2, h3⟩ := hstays h
    exact ⟨h1, h2.trans hon, h3⟩
  · obtain ⟨h1, h2, h3, h4, h5⟩ := harrives h
    exact ⟨h1, h2, noticed_of_bit (k := .night) rfl h3, h5, h4⟩

/-- With the base folded, the demand of that computation is the follower's position, and no offset is at work. -/
theorem demand_after_rise (hw : w.engine = .parking) (hitems : itemsLawful w.inForce.get)
    (haxes : w.axes = v.axes.map AxisState.fold)
    (hstart : ∀ ax, (⟨(w.axes.get ax).base, (w.axes.get ax).vel⟩ : Motion) = v.parkStart ax) (ax : Axis) :
    (w.computeEvent.axes.get ax).demand =
        roundCounts (followStep (w.inForce.lower.get ax) (w.inForce.upper.get ax) (w.inForce.acc.get ax)
          (w.inForce.vmax.get ax) (w.inForce.park.get ax * 65536) 0 (v.parkStart ax)).pos ∧
      (w.computeEvent.axes.get ax).applied = 0 ∧ (w.computeEvent.axes.get ax).host = 0 ∧
      (w.computeEvent.axes.get ax).wanted = 0 := by
  have hcstep : 0 ≤ w.inForce.cstep := Int.le_trans (by decide) (hitems.1 .cstep).1
  have hvmax : 1 ≤ w.inForce.vmax.get ax := (hitems.1 (.vmax ax)).1
  obtain ⟨_, hlt, _⟩ := hitems.2 ax
  have hle : w.inForce.lower.get ax ≤ w.inForce.upper.get ax := Int.le_of_lt hlt
  have hfold : (w.axes.get ax).applied = 0 ∧ (w.axes.get ax).host = 0 := by
    rw [haxes, get_map]
    exact ⟨rfl, rfl⟩
  rw [← hstart]
  exact computeEvent_parking_axis hw ax hcstep hvmax hle hfold.1 hfold.2

end Sys2Proof.Machine

/-! PROOFS. O38 assembled: the row, the filter taken before the computation, and the filter taken after it. -/

namespace Sys2Proof.Machine

variable {s t u v w : State} {levels : Inputs Bool} {σ : Side}

/-- What an entry to PARKING writes (R93). -/
theorem enterParking_fields (s : State) : s.enterParking =
    { s with
      engine := .parking, enable := true, waitReason := none
      night := { s.night with flag := false }
      guide := { s.guide with offset := ⟨0, 0⟩ }
      axes := ⟨s.axes.az.fold, s.axes.el.fold, s.axes.rot.fold⟩ } := by
  unfold State.enterParking State.readyToPark State.enter State.withNightFlag State.withReason State.zeroGuide State.withGuide
    State.foldAxes Axes.map
  rfl

theorem raise_enterParking (k : Notice) (s : State) : (State.raise k s).enterParking = State.raise k s.enterParking := rfl

/-- Settles O38: the row by the cases of the condition's edge; the filter's rise by the engine state that it finds. -/
theorem encReportFormsShelter : Obligations.EncReportFormsShelter := by
  unfold Obligations.EncReportFormsShelter
  refine ⟨fun slit flag s hready => ?_, fun levels rest s n hreset hn hshelter hl hp hlevels => ?_⟩
  · obtain ⟨hrefused, haccepted⟩ := encReport_row slit flag s hready
    refine ⟨hrefused, fun hslit hflag => ?_⟩
    have hrow := haccepted hslit hflag
    dsimp only
    have hedge := reporting_edge (s := s) (slit := slit.toNat) (flag := decide (flag.toNat = 1)) rfl
    have hrises (hs : s.enclosure.shelter = false ∧ (s.inputs.shelter.level || decide (flag.toNat = 1)) = true) :=
      reporting_rises (slit := slit.toNat) hs.1 hs.2
    refine ⟨fun h => hrow _ ?_, fun hs h => hrow _ ?_, fun hr he => hrow _ ?_, fun hr he => hrow _ ?_,
      fun hr he => hrow _ ?_, fun e hr ht he => ?_⟩
    · rw [formShelter_of_same (s := s.reporting slit.toNat (decide (flag.toNat = 1))) h.symm, ← h]
      rfl
    · rw [formShelter_of_fall (s := s.reporting slit.toNat (decide (flag.toNat = 1))) hs h, hedge]
      rfl
    · rw [hrises hr, shelterRise_of_parked (s := State.raise .shelter (s.reported slit.toNat (decide (flag.toNat = 1)) true)) he,
        hr.2]
      rfl
    · rw [hrises hr, shelterRise_of_down (s := State.raise .shelter (s.reported slit.toNat (decide (flag.toNat = 1)) true)) he,
        hr.2]
      rfl
    · rw [hrises hr, shelterRise_of_rests (s := State.raise .shelter (s.reported slit.toNat (decide (flag.toNat = 1)) true)) he,
        hr.2, raise_enterParking, enterParking_fields]
      rfl
    · have hend := endPark_reported slit.toNat (decide (flag.toNat = 1)) he
      have hform := (hrises hr).trans
        (shelterRise_of_target (s := State.raise .shelter (s.reported slit.toNat (decide (flag.toNat = 1)) true)) ht)
      dsimp only at hend
      generalize ((State.raise .shelter (s.reported slit.toNat (decide (flag.toNat = 1)) true)).endActive
        .shelter).enterParking = t at hend hform
      rw [hr.2]
      exact ⟨t, hrow t hform, hend⟩
  · have hopened := State.Shelters.opened (levels := levels) n hshelter hl hp hlevels
    intro here computed rests risen cleared fold
    refine ⟨fun hconfig hlaw henable => ?_, ?_⟩
    · obtain ⟨hengine, hon, _, _, hnight, haxes, hfree, henclosure, hlines, _⟩ := opened_reads (levels := levels) n s
      have htime := opened_mountTime (levels := levels) hn
      have hheld := opened_held (levels := levels) n s
      have hrecent := (opened_hushed (levels := levels) n s).recentEnd
      have hitems := opened_lawful (levels := levels) n hconfig
      obtain ⟨w, σ, hrun, hb, hrises, hcycle⟩ := shelter_taken_first (levels := levels) hreset hn hopened rest
      have hcycle := hcycle hlaw
      have hshelter : w.engineTurn.enclosure.shelter = true := (engineTurn_shelter w).2.1.trans hrises.shelter
      have hnoticed := engineTurn_noticed hrises.noticed
      have howed := (engineTurn_shelter w).2.2
      have hforce : w.engineTurn.inForce = w.inForce := by simp
      have hlaw : (s.opened levels n).EnableLaw := by
        unfold State.EnableLaw
        rw [hon, hengine]
        exact henable
      generalize s.opened levels n = v at *
      have hitems : itemsLawful w.inForce.get := by
        rw [hrises.inForce]
        exact hitems
      refine ⟨_, (exec_demandEvent ..).trans (congrArg _ hrun), fun he => ?_, fun he => ?_, fun hu hs hp => ?_⟩
      · obtain ⟨h1, h2, h3, h4⟩ := turn_after_down hrises (by rw [← hengine] at he; exact he)
        exact ⟨⟨hshelter, h1, hnoticed⟩, h2.trans hengine, h3.trans haxes, h4.trans hnight⟩
      · have hvp : v.engine = .parked := hengine.trans he
        have hw : w.engine = .parked := (hrises.parks (.inr hvp)).2.1.trans hvp
        obtain ⟨h1, h2, h3, h4⟩ := turn_after_parked hrises hvp (activeEntry_of_not_target hcycle (by rw [hw]; rfl))
        refine ⟨⟨hshelter, ?_, hnoticed⟩, h2, h3.trans hnight, fun ax => (h4 ax).trans ?_⟩
        · rw [← henclosure]
          exact h1
        · rw [← haxes]
          rfl
      · rw [← hengine] at hu hs hp
        obtain ⟨hkept, hweng, hwon, hstart, hstay, hgo⟩ := rise_parks hrises hlaw hu hs hp
        have hnone := activeEntry_of_not_target hcycle (by rw [hweng]; rfl)
        have hstart (ax : Axis) : (⟨(w.axes.get ax).base, (w.axes.get ax).vel⟩ : Motion) = s.parkStart ax := by
          rw [hstart]
          show (⟨if v.engine = .parking then (v.axes.get ax).base else (v.axes.get ax).demand * 65536, (v.axes.get ax).vel⟩ : Motion) = _
          rw [hengine, haxes]
          rfl
        obtain ⟨hturn, hstays, harrives⟩ := turn_after_rise hweng hwon hnone hstart
        have hdemand (ha : w.axes = s.axes.map AxisState.fold) := demand_after_rise hweng hitems ha hstart
        obtain ⟨hcfree, hcguide, _, hcwait, hcrecent, hcsilent⟩ := computeEvent_parking_rest hweng
        have hcnight := (computeEvent_parking hweng hnone).1
        have hwrites (e : Entry) (h : here.EndWrites .shelter e w) := endWrites_parking hweng hnone h
        have hcnoticed (h : w.Noticed .targetEnd) := engineTurn_noticed h
        rw [← hturn] at hstays harrives hdemand hcfree hcguide hcwait hcrecent hcsilent hcnight hwrites
        generalize w.engineTurn = c at *
        rw [← hforce] at hstays harrives hdemand
        intro start m arrives
        refine ⟨⟨hshelter, ?_, hnoticed⟩, hstays, fun ha => ?_, fun he => ?_, fun hne => ?_, fun hr => ?_, fun e ht he => ?_⟩
        · rw [← henclosure]
          exact howed.trans hkept
        · obtain ⟨h1, h2, h3, h4, h5⟩ := harrives ha
          exact ⟨h1, h2, h3, flips_of_rings hlines hb nofun (hrises.silent.rings h4), h5⟩
        · exact hcnight.trans ((hstay (hengine.trans he)).trans hnight)
        · obtain ⟨_, _, _, hwait, hoffset, hflag, hfold⟩ := hrises.leaves (hgo fun h => hne (hengine.symm.trans h))
          refine ⟨⟨hcwait.trans hwait, ?_, ?_⟩, fun ax => ?_⟩
          · exact (congrArg Guide.offset hcguide).trans hoffset
          · exact (congrArg NightList.flag hcnight).trans hflag
          · have h := hdemand (hfold.trans (congrArg (Axes.map AxisState.fold) haxes)) ax
            have hget : m.get ax = followStep (c.inForce.lower.get ax) (c.inForce.upper.get ax) (c.inForce.acc.get ax)
                (c.inForce.vmax.get ax) (c.inForce.park.get ax * 65536) 0 (s.parkStart ax) := by cases ax <;> rfl
            rw [hget]
            exact h
        · have hrests : s.engine.rests := hr
          obtain ⟨h1, h2⟩ := hrises.rests (by rw [← hengine] at hrests; exact hrests)
          exact ⟨(congrArg NightList.entries hcnight).trans (h1.trans (congrArg NightList.entries hnight)),
            hcrecent.trans (h2.trans hrecent)⟩
        · have hactive : v.activeEntry = some e := by
            unfold State.activeEntry
            rw [hnight]
            exact he
          obtain ⟨h1, h2, h3⟩ := hrises.ends e (by rw [← hengine] at ht; exact ht) hactive
          have hhere : here.EndLeaves .shelter e w := EndLeaves.from_parts h1 hfree htime hheld hnight haxes
          exact ⟨hwrites e hhere.1, hcnoticed h2, flips_of_rings hlines hb nofun (h3.silent hcsilent)⟩
    · obtain ⟨w, σ, hrun, hb, hrises⟩ := shelter_taken_next (levels := levels) hreset hn hopened rest
      have howed : computed.enclosure.parkOwed = s.enclosure.parkOwed :=
        (engineTurn_shelter _).2.2.trans (congrArg Enclosure.parkOwed (opened_reads (levels := levels) n s).2.2.2.2.2.2.2.1)
      have hrises : (computed.asserted .shelter).ShelterRises w := hrises
      clear_value computed
      refine ⟨_, (exec_demandEvent ..).trans (congrArg _ hrun), fun ax => ⟨?_, hrises.emitted ax⟩, fun he => ?_, fun he => ?_,
        fun he => ?_, fun he => ?_, fun e ht he => ?_⟩
      · exact congrArg (Axes.get · ax) hrises.steps
      · obtain ⟨h1, h2, h3, h4⟩ := hrises.down he
        exact ⟨⟨hrises.shelter, h1, hrises.noticed⟩, h2, h3, h4⟩
      · obtain ⟨h1, h2, h3, h4, _⟩ := hrises.parks he
        exact ⟨⟨hrises.shelter, h1.trans howed, hrises.noticed⟩, h2, h3, h4⟩
      · obtain ⟨h1, h2, h3, h4, h5, h6, _⟩ := hrises.leaves he
        exact ⟨⟨hrises.shelter, h1.trans howed, hrises.noticed⟩, h2, h3, h4, h5, h6⟩
      · obtain ⟨_, _, _, _, _, _, h7⟩ := hrises.leaves (.inl he)
        refine ⟨(hrises.rests he).1, fun ax => ?_⟩
        show w.axes.get ax = _
        rw [h7, get_map]
        rfl
      · obtain ⟨h1, h2, h3⟩ := hrises.ends e ht he
        exact ⟨h1, h2, flips_of_rings rfl hb nofun h3⟩

end Sys2Proof.Machine
